-- ==== Sys2Proof/Word.lean ====
section
/-! DEFINITION. The byte, the unit of every memory, packet and frame of the hub (R12: multi-byte values are
little-endian). A value of an object, a counter or an address is a natural number that its bytes spell; the
helpers that take fields out of such numbers stand in Machine/Ops.lean. -/

namespace Sys2Proof

/-- One byte. -/
abbrev Byte := BitVec 8

/-- A run of bytes, lowest address first. -/
abbrev Bytes := List Byte

end Sys2Proof
end

