-- ==== Sys2Proof/Syntax.lean ====
section
/-! DEFINITION. The commands of the hub: one constructor of `Instr` per row of spec/opcode_table.json, with the
operands that the row's governing rule says the event carries, and the types of those operands. The table gives
no row any bits, so a command has no encoding. -/

namespace Sys2Proof

/-- The three access paths of the dictionary (R93): the CAN SDO path and the two host bridges. -/
inductive Path where
  | can | hb0 | hb1
  deriving DecidableEq, Repr

/-- The four mesh ports of a router (R19), numbered 0 N, 1 E, 2 S, 3 W (R187). -/
inductive Port where
  | N | E | S | W
  deriving DecidableEq, Repr

/-- Router and NI numbers: 8·y + x (R18). -/
abbrev RouterId := Fin 48
/-- Lanes L0 to L7 (R30). -/
abbrev Lane := Fin 8
/-- Bridges: 0 HB0, 1 HB1, 2 + k PBk. -/
abbrev BridgeId := Fin 14
abbrev ClusterId := Fin 24
abbrev EngineId := Fin 8
abbrev DomainId := Fin 50

/-- What the hub samples on entry to MUSTER (R577 step 1): GA[4:0], SPI_IO[3:2] and TEST_MODE. -/
structure Straps where
  ga : Fin 32
  refclk : Fin 4
  testMode : Bool
  deriving DecidableEq, Repr

/-- The header flit of a packet (R269); `inl` is INLINE, bytes 32 to 63. -/
structure Header where
  opcode : Nat := 0
  poison : Bool := false
  fence : Bool := false
  burstEnd : Bool := false
  short : Bool := true
  wsync : Bool := false
  retx : Bool := false
  src : Nat := 0
  status : Nat := 0
  ctrl : Bool := false
  fa : Nat := 0
  pkey : Nat := 0
  dflits : Nat := 0
  len : Nat := 0
  gen : Bool := false
  tag : Nat := 0
  pseq : Nat := 0
  flow : Nat := 0
  mask : Nat := 0
  aop : Nat := 0
  crc : Nat := 0
  inl : Bytes := []
  deriving DecidableEq, Repr

/-- A packet on its lane: header and the payload bytes of its data flits (R270, R31). `framed` is the number
of data flits its framing carried, which the target checks against DFLITS (R646). -/
structure Packet where
  lane : Nat := 2
  hdr : Header := {}
  payload : Bytes := []
  framed : Nat := 0
  deriving DecidableEq, Repr

/-- Flit types of R153. -/
inductive FlitType where
  | idle | null | head | body | tail | single
  deriving DecidableEq, Repr

/-- A flit with its control word (R152, R153). `hdr` is present in HEAD and SINGLE, `data` in BODY and TAIL. -/
structure Flit where
  ft : FlitType := .idle
  seq : Nat := 0
  ack : Nat := 0
  rrq : Bool := false
  lane : Nat := 0
  crlane : Nat := 0
  crcnt : Nat := 0
  hdr : Option Header := none
  data : Bytes := []
  /-- a flit whose packet a router marks poisoned while it passes (R163, R184) -/
  taint : Bool := false
  /-- check bits of CHK0 that an injection inverted (R552) -/
  inj : Nat := 0
  /-- FAB count at which it reached the buffer it stands in (R232: order of arrival) -/
  arr : Nat := 0
  /-- FAB count of the cycle in which an SC0 flit is to leave the link output it comes to next (R242) -/
  due : Nat := 0
  deriving DecidableEq, Repr

/-- A place a flit crosses: a directed link named by its sending router and port (R21), or one of the two
directions of the local port between a router and its NI (R162). -/
inductive Wire where
  | link (r : RouterId) (p : Port)
  | toNi (r : RouterId)
  | fromNi (r : RouterId)
  deriving DecidableEq, Repr

/-- What befalls a flit on a wire: up to two bit errors in each quarter's code word, or errors beyond the code
(R154), which are detected (`none`) or pass as some flit (`some f`). -/
inductive Noise where
  | bits (q0 q1 q2 q3 : Fin 3)
  | beyond (seen : Option Flit)
  deriving DecidableEq, Repr

/-- What VERIFY saw in one direction of a link (R173): uncorrectable words and corrected words. -/
structure VerifyCount where
  bad : Nat := 0
  corrected : Nat := 0
  deriving DecidableEq, Repr

/-- The port whose link is through VERIFY, and what VERIFY saw in the direction that leaves it and in the one that comes back. -/
structure VerifiedPort where
  port : Port
  there : VerifyCount := {}
  back : VerifyCount := {}
  deriving DecidableEq, Repr

/-- A write of an object (R88, R89). -/
structure ObjWrite where
  path : Path
  index : Nat
  sub : Nat
  data : Bytes
  deriving DecidableEq, Repr

/-- Forms of an inbound request (R439): memory, I/O, AtomicOp. -/
inductive TlpForm where
  | memory | io | atomicOp
  deriving DecidableEq, Repr

/-- A memory access of a PCIe partner to a BAR of a bridge. -/
structure BarAccess where
  /-- a memory request, or one that relies on an absent feature -/
  form : TlpForm := .memory
  /-- its TD bit, which the bridges take for 0 (R439) -/
  td : Bool := false
  write : Bool
  offset : Nat
  len : Nat
  data : Bytes := []
  tag : Nat := 0
  ro : Bool := false
  deriving DecidableEq, Repr

/-- Outcome of a PCIe request sent downstream (R463, R465). -/
inductive CplStatus where
  | sc | ur | rrs | ca | timeout
  deriving DecidableEq, Repr

/-- Causes of a bridge's link going down (R472) other than those that have rows of their own. -/
inductive LinkDownCause where
  | dllDown | perst | commanded
  deriving DecidableEq, Repr

/-- Severity of a downstream error message (R475). -/
inductive ErrMsg where
  | cor | nonfatal | fatal
  deriving DecidableEq, Repr

/-- A transaction that JTAG presents to the management matrix: `beats` beats of `size` bytes from an address on, the bytes it
writes, and the object that the address names in a target that holds objects (R482, R485). -/
structure JtagAccess where
  write : Bool
  addr : Nat
  size : Nat
  beats : Nat := 1
  data : Bytes := []
  obj : Option (Nat × Nat) := none
  deriving DecidableEq, Repr

/-- A target's turn to grant (R486), and what the JTAG master presents by then. -/
structure MatrixTurn where
  target : Fin 9
  jtag : Option JtagAccess := none
  deriving DecidableEq, Repr

/-- A Springhead command as fetched, field by field (R491). -/
structure SpringCmd where
  op : Nat := 0
  cond : Nat := 0
  size : Nat := 0
  index : Nat := 0
  sub : Nat := 0
  rsvd : Nat := 0
  value : Nat := 0
  mask : Nat := 0
  target : Nat := 0
  code : Nat := 0
  time : Nat := 0
  deriving DecidableEq, Repr

/-- A WRITE of Springhead: a command of a script, or the next step of the boot script in the ROM (R577), whose
command words the manual does not print. -/
inductive SpringAct where
  | script (c : SpringCmd)
  | boot
  deriving DecidableEq, Repr

/-- Where a packet stands that an atomic or exclusive handles: arriving at its target NI, or at the head of a
bank's queue. -/
inductive TgtPhase where
  | arrive (n : RouterId)
  | execute (k : ClusterId) (bank : Fin 4)
  deriving DecidableEq, Repr

/-- A fault that a grace timer belongs to: a list entry or a pin position. -/
inductive FaultRef where
  | entry (e : Fin 64)
  | pin (b : Fin 64)
  deriving DecidableEq, Repr

/-- How a reader reads EQ_HEAD (R430). -/
inductive EqRead where
  /-- the reader named in R423 takes the whole item -/
  | named
  /-- a dictionary read of the whole object -/
  | dict8
  /-- a 4-byte dictionary read of the low half -/
  | dictLow
  /-- a 4-byte dictionary read of the high half -/
  | dictHigh
  deriving DecidableEq, Repr

/-- Who asks for a power transition (R558). -/
inductive PowerBy where
  | path (p : Path)
  | steward
  deriving DecidableEq, Repr

/-- One command of the block: those with operands first, in the order of the table, then those without. -/
inductive Instr where
  -- power and chip reset
  | standbyWake (wakeIn : Bool)
  | pwrGoodRise (straps : Straps)
  | rstNRelease (straps : Straps)
  | chipResetEnd (straps : Straps)
  | rstMaskUnlockArm (p : Path)
  | rstMaskUnlockComplete (p : Path) (straps : Straps)
  | rstUnmask (p : Path)
  -- NMT and SDO
  | nmtStartRemoteNode (node : Nat)
  | nmtEnterPreOperational (node : Nat)
  | nmtStopRemoteNode (node : Nat)
  | nmtResetCommunication (node : Nat)
  | nmtResetNode (node : Nat)
  | sdoInitiateDownload (index sub : Nat) (expedited : Bool) (data : Bytes)
  | sdoDownloadSegment (toggle last : Bool) (data : Bytes)
  | sdoInitiateUpload (index sub : Nat)
  | sdoUploadSegment (toggle : Bool)
  | sdoUnsupportedCommand (index sub : Nat)
  -- the dictionary and its ownership
  | hostBar2Access (hb : Fin 2) (acc : BarAccess)
  | claim (p : Path)
  | release (p : Path)
  | objectWrite (w : ObjWrite)
  | counterClear (w : ObjWrite)
  -- PDO, SYNC, heartbeat, EMCY, CAN state
  | rpdoReceive (k : Fin 4) (data : Bytes)
  | tpdoEventTimer (k : Fin 4)
  | heartbeatReceive (node : Nat)
  | heartbeatTimeout (node : Nat)
  | canErrorPassive (tec rec : Nat)
  -- image transfer
  | xopen (length : Nat)
  | xdata (offset len : Nat) (payload : Bytes)
  | xclose (crc : Nat)
  | xabort (reason : Nat)
  | xferControlOpen (p : Path)
  | xferControlClose (p : Path)
  | xferControlAbort (p : Path)
  | imageStageWrite (p : Path) (offset : Nat) (data : Bytes)
  -- the Cox
  | ppsEdge (rising : Bool)
  | todFrame (bytes : Bytes)
  | ppsEnableWrite (p : Path) (value : Bool)
  | reanchor (p : Path)
  | timeSecondsRead (p : Path)
  | heatArm (p : Path)
  | heatDisarm (p : Path)
  | commit (p : Path)
  -- links
  | linkOutputCycle (r : RouterId) (o : Fin 5)
  | flitReceive (w : Wire) (n : Noise)
  | replayTimerExpiry (r : RouterId) (p : Port)
  | maintWindowStart (r : RouterId) (p : Port)
  | retrainComplete (r : RouterId) (v : VerifiedPort)
  | retrainTimeout (r : RouterId) (p : Port)
  | linkPlannedRetrain (path : Path) (r : RouterId) (p : Port)
  | linkImmediateRetrain (path : Path) (r : RouterId) (p : Port)
  | linkTakeDown (path : Path) (r : RouterId) (p : Port)
  -- routing
  | packetHeadRoute (r : RouterId) (i : Fin 5) (lane : Lane)
  | mcastBranchForward (r : RouterId) (i o : Fin 5)
  | qdepthUpdate (r : RouterId)
  -- SC0 and circuits
  | sc0Inject (n : RouterId) (flow : Fin 1024)
  | circuitWindowOpen (c : Fin 64)
  | circuitWindowClose (c : Fin 64)
  -- cluster port and banks
  | clusterPortAdmit (k : ClusterId)
  | bankAccess (k : ClusterId) (bank : Fin 4)
  -- the injection pipeline of an NI
  | accessAccept (n : RouterId)
  | shaperRelease (n : RouterId) (sh : Fin 256)
  | shaperTokenTick (n : RouterId)
  | calendarSlot (n : RouterId)
  | gateRelease (n : RouterId)
  | gateEntryChange (n : RouterId)
  | packetSend (n : RouterId)
  | wbIdleExpiry (n : RouterId) (i : Fin 32)
  | wbEntryDepart (n : RouterId)
  | barW (n : RouterId)
  | barFull (n : RouterId)
  | barrierSatisfied (n : RouterId)
  -- packets at an NI
  | read (n : RouterId)
  | write (n : RouterId)
  | writeNp (n : RouterId)
  | ldres (ph : TgtPhase)
  | stcond (ph : TgtPhase)
  | atomic (ph : TgtPhase)
  | send (n : RouterId)
  | sendNp (n : RouterId)
  | badOpcode (n : RouterId)
  | readResp (n : RouterId)
  | statusResp (n : RouterId)
  | ack (n : RouterId)
  | resyncReq (n : RouterId)
  | mgmtResp (hb : Fin 2)
  | resendTimerExpiry (n : RouterId) (target : Nat) (sc3 : Bool) (pseq : Nat)
  | replyStoreExpiry (n : RouterId) (i : Fin 128)
  | trackerProtectionExpiry (k : ClusterId) (src : RouterId)
  | winInvalidate (p : Path) (n : RouterId)
  | windowCacheExpiry (n : RouterId) (w : Fin 32)
  | shaperEntryWrite (p : Path) (n : RouterId) (value : Nat)
  | gateApply (p : Path) (n : RouterId)
  | gateCancel (p : Path) (n : RouterId)
  | gateListStart (n : RouterId)
  -- clusters
  | scrubDue (k : ClusterId)
  | scrubLine (k : ClusterId)
  | scrubOwed (k : ClusterId)
  | poolPop (k : ClusterId)
  | poolPush (k : ClusterId)
  | poolCountRead (k : ClusterId)
  | poolEnable (p : Path) (k : ClusterId) (pool : Fin 8) (config : Nat)
  | poolDisable (p : Path) (k : ClusterId) (pool : Fin 8)
  | blockLog2Write (p : Path) (k : ClusterId) (value : Nat)
  -- DMA-and-message engines
  | qDoorbell (e : EngineId) (q : Fin 64) (value : Nat)
  | qAbort (e : EngineId) (q : Fin 64)
  | qRestart (e : EngineId) (q : Fin 64)
  | mbProducer (e : EngineId) (r : Fin 16) (value : Nat)
  | doorbellItem (e : EngineId)
  | abortItem (e : EngineId)
  | restartItem (e : EngineId)
  | mbPostItem (e : EngineId)
  | doorbellScan (e : EngineId)
  | descriptorRead (e : EngineId) (q : Fin 64)
  | nop (e : EngineId) (q : Fin 64)
  | copy (e : EngineId) (q : Fin 64)
  | put (e : EngineId) (q : Fin 64)
  | get (e : EngineId) (q : Fin 64)
  | sendDescriptor (e : EngineId) (q : Fin 64)
  | mcastPut (e : EngineId) (q : Fin 64)
  | atomicDescriptor (e : EngineId) (q : Fin 64)
  | chunkIssue (e : EngineId) (q : Fin 64)
  | recordWrite (e : EngineId) (q : Fin 64)
  | recordAcknowledged (e : EngineId) (q : Fin 64)
  | abortComplete (e : EngineId) (q : Fin 64)
  | queueEnable (p : Path) (e : EngineId) (config : Nat)
  | queueDisable (p : Path) (e : EngineId)
  | mbReset (p : Path) (e : EngineId)
  | holdTimeExpiry (e : EngineId) (r : Fin 16)
  | sendNpHoldBound (e : EngineId) (r : Fin 16)
  -- event queues
  | eqWrite (i : Fin 16) (kind data : Nat)
  | eqHeadRead (i : Fin 16) (how : EqRead)
  | eqFlush (p : Path) (i : Fin 16)
  | bankHandover (i : Fin 16)
  | telemetrySample (i : Fin 16) (busy : Bool) (sensors : List Int)
  -- bridges
  | hbPerstAssert (hb : Fin 2)
  | hbPerstDeassert (hb : Fin 2)
  | pcieLinkUp (b : BridgeId) (speed width : Nat) (flit : Bool)
  | pcieLinkDown (b : BridgeId) (cause : LinkDownCause)
  | flr (b : BridgeId)
  | hotResetReceived (b : BridgeId)
  | dpcTrigger (b : BridgeId)
  | downstreamErrorMessage (b : BridgeId) (m : ErrMsg) (requester : Nat)
  | configRequest (b : BridgeId) (wr : Bool) (reg : Nat) (value tag : Nat)
  | bar0Access (b : BridgeId) (acc : BarAccess)
  | bar4Access (b : BridgeId) (acc : BarAccess)
  | flush (b : BridgeId) (tag : Nat)
  | exLoad (b : BridgeId) (slot : Fin 16) (len tag : Nat)
  | exStore (b : BridgeId) (slot : Fin 16) (data : Bytes)
  | intTrigger (b : BridgeId) (value : Nat) (fromPcie : Bool)
  | msixSend (b : BridgeId)
  | bridgeOutboundRequest (b : BridgeId)
  | pcieCompletion (b : BridgeId) (tag : Nat) (status : CplStatus) (ep : Bool) (data : Bytes)
  | cplTimeoutExpiry (b : BridgeId) (slot : Fin 512)
  | postedCreditReturn (b : BridgeId)
  | cfgDataRead (b : BridgeId) (outcome : CplStatus) (data : Nat)
  | cfgDataWrite (b : BridgeId) (value : Nat) (outcome : CplStatus)
  | portWaveStart (wave : Fin 3)
  | perstDelayExpiry (pb : Fin 12)
  | pbPerstDeassert (pb : Fin 12)
  | linkCommandRetrain (p : Path) (b : BridgeId)
  | linkCommandDisable (p : Path) (b : BridgeId)
  | linkCommandEnable (p : Path) (b : BridgeId)
  | linkCommandHotReset (p : Path) (b : BridgeId)
  -- the Boathouse
  | matrixGrant (turn : MatrixTurn)
  | jtagChallenge (p : Path)
  | jtagLock (p : Path)
  | jtagResponse (p : Path) (sig : Bytes)
  | springEnd (c : SpringCmd)
  | springheadWrite (a : SpringAct)
  | springWait (c : SpringCmd) (timeUp : Bool)
  | springCall (c : SpringCmd)
  | springReturn (c : SpringCmd)
  | springCmpBr (c : SpringCmd)
  | springDelay (c : SpringCmd)
  | springRaise (c : SpringCmd)
  | imageCommit (p : Path)
  | imageDiscard (p : Path)
  | flashWriteSlot (p : Path) (slotB : Bool)
  | flashEraseSlot (p : Path) (slotB : Bool)
  -- fault collection
  | pinLatch (b : Fin 64)
  | graceExpiry (f : FaultRef)
  | entryAcknowledge (p : Path)
  | entryClear (p : Path)
  | entryAcknowledgeAll (p : Path)
  | entryClearEnded (p : Path)
  | pinAck (p : Path) (mask : Nat)
  | pinClear (p : Path) (mask : Nat)
  | retainedRelease (p : Path)
  | policyTableWrite (p : Path) (offset : Nat) (data : Bytes)
  | injectArm (p : Path)
  | injectCancel (p : Path)
  | testMessageSubmit (p : Path)
  -- power domains and EASY
  | powerTargetOff (by_ : PowerBy) (d : DomainId)
  | powerTargetOn (by_ : PowerBy) (d : DomainId)
  | powerTargetRetain (by_ : PowerBy) (d : DomainId)
  | fenceComplete (d : DomainId)
  | drainComplete (d : DomainId)
  | drainTimeoutExpiry (d : DomainId)
  | wakeStart (d : DomainId)
  | wakeComplete (d : DomainId)
  | wakeTimeout (d : DomainId)
  | domainCommand (p : Path) (d : DomainId)
  | proxyReceive (n : RouterId)
  | easyCommandOrderly (p : Path)
  | easyCommandForced (p : Path)
  -- later rows of the table
  | pcieRecoveryEntry (b : BridgeId)
  | dataLinkLayerAccept (b : BridgeId)
  | errorPinDeassert (b : Fin 64)
  -- commands without operands
  | vauxPowerOn
  | vauxLoss
  | pwrGoodTimeout
  | pwrReqRetry
  | pwrGoodLoss
  | rstNAssert
  | resetHeldTimer
  | pllLock
  | pllLockTimeout
  | sdoAbortTransfer
  | sdoSegmentTimeout
  | dictionaryRequestServe
  | sync
  | syncLoss
  | outputHoldExpiry
  | heartbeatProduce
  | emcyInhibitExpiry
  | busOff
  | busOffRecovery
  | canReceiveOverrun
  | xstatus
  | badCommand
  | dataAckTimer
  | transferTimeout
  | stepStroke
  | ppsMissing
  | holdoverLimitExpiry
  | todByteTimeout
  | heatChangeStart
  | heatChangeEnd
  | strokeBoundary
  | commitApply
  | unreachableMark
  | excludeRecompute
  | mgmtRead
  | mgmtWrite
  | faultMsg
  | jtagChallengeTimeout
  | trapRequest
  | trapBudgetExpiry
  | imageValidationComplete
  | loaderComplete
  | heatImageStaged
  | flashOperationComplete
  | flashTimeout
  | faultMessageTake
  | injectionApply
  | ejectOpen
  | easyDrained
  | easyLimitExpiry
  | warmupEnd
  | adaptSample
  | linkSample
  | thermalSample
  | scrubSample
  | idleSample
  | canErrorActive
  | xtal32OscillatorStart
  deriving DecidableEq, Repr

end Sys2Proof
end

