-- ==== Sys2Proof/Decode.lean ====
section
/-! DEFINITION. Decoding table words. No row of spec/opcode_table.json gives a command any bits, so no word
spells a command. -/

namespace Sys2Proof

/-- The command that a word spells by the table's bits: none, for the table gives no bits. -/
def decodeTableWord (_nbits _w : Nat) : Option Instr := none

end Sys2Proof
end

