-- ==== Sys2Proof/Machine/Parts.lean ====
section
/-! DEFINITION. The parts of the hub's state, as plain data. A table with many like places is a sparse table: a
list of (number, value) pairs with rising numbers that leaves out every place holding its default. -/

namespace Sys2Proof.Machine

/-- A sparse table. -/
abbrev SMap (α : Type) := List (Nat × α)

/-- Device states (R44). -/
inductive DeviceState where
  | standby | muster | moored | launch | afloat | easy | halted
  deriving DecidableEq, Repr

/-- NMT states (R63). -/
inductive NmtState where
  | initialisation | stopped | operational | preOperational
  deriving DecidableEq, Repr

/-- Cox states (R124). -/
inductive CoxState where
  | unanchored | anchored | holdover
  deriving DecidableEq, Repr

/-- Link states (R181). -/
inductive LinkState where
  | absent | off | init | up | retrain | down
  deriving DecidableEq, Repr

/-- Domain states (R557). -/
inductive DomainState where
  | off | waking | on | fencing | draining | retain
  deriving DecidableEq, Repr

/-- Image-transfer states (0x2080:01). -/
inductive XferState where
  | idle | openCan | openHost | closed
  deriving DecidableEq, Repr

/-- Image states (0x2602:01). -/
inductive ImageState where
  | empty | loadingFlash | validating | validated | loading | staged
  deriving DecidableEq, Repr

/-- Descriptor queue states (R410). -/
inductive QState where
  | disabled | idle | running | aborting | stopped | error
  deriving DecidableEq, Repr

/-- Receive ring states (0x4C00+e:13). -/
inductive RingState where
  | disabled | running | error
  deriving DecidableEq, Repr

/-- PCIe link states (0x5000:01). -/
inductive PcieState where
  | disabled | idle | training | up | recovery | down | contained
  deriving DecidableEq, Repr

/-- JTAG states (0x2601:01). -/
inductive JtagState where
  | locked | challenged | unlocked | lockedOut
  deriving DecidableEq, Repr

/-- Springhead states (0x2610:01). -/
inductive SpringState where
  | idle | boot | trap
  deriving DecidableEq, Repr

/-- Flash controller states (0x2620:01). -/
inductive FlashState where
  | absent | ready | busy | error
  deriving DecidableEq, Repr

/-- States of a fault (R547). -/
inductive EntryState where
  | free | raised | acknowledged
  deriving DecidableEq, Repr

/-- Injection states (0x2440:04). -/
inductive InjectState where
  | idle | armed | done
  deriving DecidableEq, Repr

/-- Output states (0x2022:02). -/
inductive OutState where
  | live | holding | fallenBack
  deriving DecidableEq, Repr

/-- Stages of EASY (R588). -/
inductive EasyStage where
  | none | stopping | draining | releasing
  deriving DecidableEq, Repr

/-- Who performs an object access: an owner path, Springhead (R494), the image loader (R512), the Steward
(R599), or an RPDO (R73). -/
inductive Who where
  | path (p : Path) | springhead | loader | steward | rpdo
  deriving DecidableEq, Repr

/-- The model's time: ticks of one nominal FAB cycle since it began, and the hub's own FAB cycles since the PLL
locked (R647). -/
structure Clock where
  now : Nat := 0
  fab : Nat := 0
  deriving DecidableEq, Repr

/-- Input pins, as the hub last sampled or filtered them. -/
structure Pins where
  /-- GA[4:0] (R62) -/
  ga : Nat := 31
  /-- SPI_IO[3:2] (R107) -/
  refclk : Nat := 0
  testMode : Bool := false
  /-- filtered EJECT_N: handle open (0x2300:03) -/
  ejectOpen : Bool := false
  /-- RST_N low (R582) -/
  rstLow : Bool := false
  wakeIn : Bool := false
  deriving DecidableEq, Repr

/-- OTP, key store and boot ROM contents that software can see or that steer the hub (R58, R101, R440, R446,
R489, R509, R518, R520, R617). -/
structure Otp where
  serial : Nat := 1
  romRevision : Nat := 1
  swVersion : Bytes := [49]
  nominalRate : Nat := 2
  dataRate : Nat := 1
  /-- 1 = FV9648-AC, 2 = FV9648-AI (R3) -/
  partCode : Nat := 1
  pciVendor : Nat := 0
  bar4Log2 : Nat := 36
  sigRequired : Bool := false
  keyHash0 : Bytes := []
  keyHash1 : Bytes := []
  revoked : Nat := 0
  debugKeyHash : Bytes := []
  flashBoot : Bool := false
  flashQuad : Bool := false
  vcoreSetpoint : Nat := 720
  deriving DecidableEq, Repr

/-- A fault message (R532). -/
structure FaultMsg where
  time : Nat := 0
  kind : Nat := 0
  source : Nat := 0
  unit : Nat := 0
  cls : Nat := 0
  addr : Nat := 0
  deriving DecidableEq, Repr

/-- The always-on island, PD00. -/
structure Aon where
  vaux : Bool := true
  pwrReq : Bool := true
  pwrGood : Bool := true
  /-- consecutive failed power-ups (R575) -/
  fails : Nat := 0
  retryDue : Bool := false
  /-- time of the last 0x5A5A write of an unlock under way (R585) -/
  unlockAt : Option Nat := none
  rstMasked : Bool := false
  retained : FaultMsg := {}
  /-- the retained record holds ERR_N low (R551) -/
  retainedHold : Bool := false
  /-- AON ticks of the last 4 fault-caused resets, newest first (R550) -/
  resetTimes : List Nat := []
  xtal : Bool := false
  /-- cause of a chip reset that lasts (R581) -/
  resetting : Option Nat := none
  deriving DecidableEq, Repr

/-- SDO requests as they stand in the request queue (R98). -/
inductive SdoReq where
  | initDownload (index sub : Nat) (expedited : Bool) (data : Bytes)
  | segDownload (toggle last : Bool) (data : Bytes)
  | initUpload (index sub : Nat)
  | segUpload (toggle : Bool)
  deriving DecidableEq, Repr

/-- An entry of the request queue (R98): an SDO request, or an MGMT request packet from a host bridge. -/
inductive DictReq where
  | sdo (r : SdoReq)
  | host (p : Path) (pkt : Packet)
  deriving DecidableEq, Repr

/-- The SDO transfer in progress (R69). -/
structure SdoXfer where
  download : Bool
  index : Nat
  sub : Nat
  toggle : Bool := false
  buf : Bytes := []
  deriving DecidableEq, Repr

/-- The dictionary engine and its store. -/
structure Dict where
  /-- values of objects that differ from their defaults, keyed by index × 256 + sub-index -/
  objs : SMap Nat := []
  owner : Option Path := none
  queue : List DictReq := []
  /-- MGT cycle in which a request last came, and how many of the queue's last came in it (R98) -/
  cameAt : Nat := 0
  fresh : Nat := 0
  sdo : Option SdoXfer := none
  /-- nanoseconds and stroke latched for a path (R123), keyed 1 CAN, 2 HB0, 3 HB1 -/
  latch : SMap (Nat × Nat) := []
  deriving DecidableEq, Repr

/-- A CAN frame that the hub sent. -/
structure CanFrame where
  id : Nat
  ext : Bool := false
  fd : Bool := false
  data : Bytes := []
  deriving DecidableEq, Repr

/-- An emergency message waiting for the inhibit time (R80). -/
structure Emcy where
  code : Nat
  info : Bytes := []
  deriving DecidableEq, Repr

/-- The CAN controller and the CiA 301 services. -/
structure Can where
  nmt : NmtState := .initialisation
  nominal : Nat := 2
  data : Nat := 1
  out : List CanFrame := []
  emcyQ : List Emcy := []
  inhibit : Bool := false
  /-- boot-up message sent since the chip reset (R542) -/
  bootUp : Bool := false
  /-- EMCYs that wait for that boot-up message (R542) -/
  afterBoot : List Emcy := []
  /-- an EMCY reported a condition that is not yet reported as cleared (R80) -/
  reported : Bool := false
  errPassive : Bool := false
  busOff : Bool := false
  syncLost : Bool := false
  /-- stations whose heartbeat is being watched, and those timed out (R79, R95) -/
  watched : List Nat := []
  timedOut : List Nat := []
  /-- RPDOs received since the last SYNC, by number 0 to 3 (R73) -/
  rpdo : SMap Bytes := []
  /-- SYNCs since RPDO k was last applied, and since TPDO k was last sent (R74) -/
  rpdoAge : SMap Nat := []
  tpdoAge : SMap Nat := []
  /-- cause of the output hold: 1 SYNC, 2 heartbeat (R76) -/
  hold : Option Nat := none
  outState : OutState := .live
  /-- DATA frames accepted since the last DATA_ACK, and whether the 2 ms after a DATA frame run (R83) -/
  sinceAck : Nat := 0
  ackTimer : Bool := false
  deriving DecidableEq, Repr

/-- Route, partition, group, stroke and circuit tables of one heat (R223, R504, R505). Stroke tables hold
words of R233, flows and circuits 16-byte records of R241 and R251 as numbers. -/
structure Tables where
  confined : Bool := false
  /-- SC3_ALLOW, keyed 48·r + d -/
  allow : SMap Nat := []
  /-- PART_PAIR, keyed 40·r + 8·i + j -/
  pairs : SMap Nat := []
  groups : SMap Nat := []
  guard : Nat := 0
  l7slot : Nat := 255
  maintPeriod : Nat := 0
  /-- MAINT_OFFSET, keyed 4·r + p -/
  maintOffset : SMap Nat := []
  /-- LINK_TABLE, keyed (4·r + p)·256 + slot -/
  linkTab : SMap Nat := []
  /-- CLUSTER_TABLE, keyed 256·k + slot -/
  clusTab : SMap Nat := []
  flows : SMap Nat := []
  circuits : SMap Nat := []
  deriving DecidableEq, Repr

/-- Image transfer, staging, validation and loading. -/
structure Image where
  xfer : XferState := .idle
  /-- bytes present in the staging SRAM, by offset -/
  staging : SMap Byte := []
  state : ImageState := .empty
  /-- device state when validation started (R509) -/
  seen : DeviceState := .muster
  /-- BUILD_ID of the staged image -/
  buildId : Bytes := []
  shadow : Option Tables := none
  /-- a heat change has taken the staged tables, and staging empties once a flash write has read it (R526) -/
  emptying : Bool := false
  /-- OBJECTS records that take effect on entry to LAUNCH (R512) -/
  atLaunch : SMap Nat := []
  loaderDone : Bool := false
  /-- flash slots still to try, 1 A, 2 B (R520), and the flags of the slot under test (R519) -/
  slots : List Nat := []
  autoLaunch : Bool := false
  autoStart : Bool := false
  deriving DecidableEq, Repr

/-- The last accepted PPS edge: the hub's FAB count at it, the network time it stands for, and its TOD label (R115),
both in FAB cycles since network time zero. -/
structure Edge where
  fab : Nat
  net : Nat := 0
  label : Option Nat := none
  deriving DecidableEq, Repr

/-- An armed heat change (R137). -/
structure Heat where
  seconds : Nat
  stroke : Nat
  start : Bool
  deriving DecidableEq, Repr

/-- The Cox (PD02). -/
structure Cox where
  state : CoxState := .unanchored
  seconds : Nat := 0
  stroke : Nat := 0
  cycle : Nat := 0
  strokeLen : Nat := 2048
  pll : Bool := false
  /-- frequency and phase terms of the PLL fraction, ppb (R129) -/
  freq : Int := 0
  phase : Int := 0
  /-- PHASE_ERROR, ps (0x2100:03) -/
  phaseErr : Int := 0
  edge : Option Edge := none
  /-- FAB count of the last captured edge -/
  captured : Option Nat := none
  /-- where in the network second the pulses fall, in FAB cycles -/
  grid : Nat := 0
  /-- the previous interval qualified (R127) -/
  qual : Bool := false
  /-- PLL fractions in force during the last 16 accepted intervals, newest first (R131) -/
  hist : List Int := []
  missed : Nat := 0
  /-- FAB count at the entry to HOLDOVER -/
  holdStart : Option Nat := none
  limitHit : Bool := false
  slewing : Bool := false
  reanchorNeeded : Bool := false
  reanchor : Bool := false
  /-- consecutive accepted edges in HOLDOVER (R133) -/
  returns : Nat := 0
  timeValid : Bool := false
  /-- step of network time, in FAB cycles, to be made at the next boundary (R128) -/
  pendStep : Option Int := none
  inStep : Bool := false
  armed : Option Heat := none
  /-- a compiled schedule is running (R137) -/
  running : Bool := false
  /-- SC0 stopped at the holdover limit (R131) or by EASY (R588) -/
  sc0Stopped : Bool := false
  /-- SC0 stops at the next boundary (R131); SC0 and SC1 stop there (R588, R589) -/
  sc0StopDue : Bool := false
  stopDue : Bool := false
  /-- seconds by which the last frame's label disagreed (R135) -/
  badLabel : Option Int := none
  todPartial : Bytes := []
  /-- model time of the last byte on TOD_IN; none once the line has been idle for 1 ms (R114) -/
  todAt : Option Nat := none
  deriving DecidableEq, Repr

/-- A link direction: its sender at router r, port p, and the receiver at the other end. -/
structure LinkDir where
  wire : List Flit := []
  nextSeq : Nat := 0
  /-- unacknowledged sequenced flits, oldest first (R164) -/
  replay : List Flit := []
  /-- how many of them the replay under way has already sent again (R168) -/
  replayPos : Option Nat := none
  /-- places used in the receiver's buffer per lane: the credit count is the depth less this (R157) -/
  used : SMap Nat := []
  /-- first SEQ and FAB count of the last replay started, for any cause (R168), the same of the one before it, and what
  started the last: the timer, a request, or the RESYNC of a retrain (none) -/
  lastReplay : Option (Nat × Nat) := none
  priorReplay : Option (Nat × Nat) := none
  byTimer : Option Bool := none
  /-- replays that started with the oldest entry (R170) -/
  oldest : Nat := 0
  /-- FAB count at which the timer asked for the fifth of them: the forced retrain starts unless an ACK of that cycle frees the
  entry (R170, R191) -/
  fifth : Option Nat := none
  expected : Nat := 0
  rrq : Bool := false
  /-- credits the receiver owes per lane (R158) -/
  owed : SMap Nat := []
  deriving DecidableEq, Repr

/-- A bidirectional link (R181), keyed by its E or S direction. -/
structure Bond where
  state : LinkState := .off
  planned : Bool := false
  /-- the retrain under way is forced or immediate (R179) -/
  urgent : Bool := false
  /-- FAB counts of the forced retrains started (R180) -/
  forced : List Nat := []
  deriving DecidableEq, Repr

/-- Where the packet at the front of an input buffer goes: its outputs still to serve (one, or the branches of a
multicast packet, R213, R250), how many of its flits each has taken, the mask-tree branches that may send, and
whether the packet is being discarded whole. -/
structure Route where
  hdr : Header := {}
  outs : List Nat := []
  /-- more than one output was chosen: the flits stay in the buffer until the last has taken them -/
  multi : Bool := false
  sent : SMap Nat := []
  granted : List Nat := []
  drop : Bool := false
  deriving DecidableEq, Repr

/-- Arbitration at an output: per lane, the input whose turn is next and the input whose packet holds the
lane's turn (R237). Keys are lanes. -/
structure OutArb where
  turn : SMap Nat := []
  hold : SMap Nat := []
  /-- the HEADs of L4 and L5 that have waited with credit since the stroke began, as 8·input + lane (R264) -/
  waited : List Nat := []
  deriving DecidableEq, Repr

/-- The mesh (PD03). -/
structure Fabric where
  act : Tables := {}
  /-- link directions keyed 4·r + p -/
  dirs : SMap LinkDir := []
  bonds : SMap Bond := []
  /-- input buffers keyed (5·r + i)·8 + lane -/
  bufs : SMap (List Flit) := []
  routes : SMap Route := []
  /-- outputs keyed 5·r + o -/
  outs : SMap OutArb := []
  /-- local-port wires keyed by router -/
  toNi : SMap (List Flit) := []
  fromNi : SMap (List Flit) := []
  /-- values that the routers' choices still see, by the key of the object that has changed: FAB count up to which, and value
  (R204, R206) -/
  late : SMap (Nat × Nat) := []
  /-- each cluster port's own copy of the ranking (R265) -/
  clusRank : SMap Nat := []
  deriving DecidableEq, Repr

/-- What an access of an engine is for. -/
inductive DmaUse where
  /-- descriptors from the ring: first index and count -/
  | descriptors (first count : Nat)
  /-- source bytes of the transfer at an offset, and the access's place in the order of issue -/
  | source (seq off len : Nat)
  /-- destination bytes at an offset -/
  | dest (seq off len : Nat)
  /-- a far atomic -/
  | result (seq : Nat)
  | record (index : Nat)
  | barrier
  deriving DecidableEq, Repr

/-- A place that a bridge serves itself (R444, R455). -/
inductive LocalAt where
  /-- offset in the local page, in the MSI-X table, in the pending-bit array -/
  | page (rel : Nat) | table (off : Nat) | bits (off : Nat)
  deriving DecidableEq, Repr

/-- Who issued an access, and so who takes its completion. -/
inductive Origin where
  | none
  /-- an access of work w of queue q of engine e -/
  | dma (e q w : Nat) (use : DmaUse)
  /-- an access of ring r of engine e: a receive-descriptor read, a buffer write, a write-back -/
  | ring (e r : Nat) (use : DmaUse)
  /-- bytes of inbound request `id` of bridge b -/
  | bridge (b : Nat) (id off len : Nat)
  /-- the barrier before inbound request `id` of bridge b, to a place that the bridge serves itself (R449) -/
  | localReg (b id : Nat) (place : LocalAt)
  /-- LDRES and STCOND of an exclusive slot: the tag of the read, the initiator address and the bytes -/
  | exLoad (b slot tag addr len : Nat)
  | exStore (b slot addr : Nat)
  deriving DecidableEq, Repr

/-- Kinds of access an endpoint presents to its NI. -/
inductive AccKind where
  | read | write | ldres | stcond | atomic | send | sendNp
  | barW | barFull
  | mgmtRead | mgmtWrite
  deriving DecidableEq, Repr

/-- An access as an endpoint presents it to its NI (R319). -/
structure Access where
  kind : AccKind := .read
  addr : Nat := 0
  len : Nat := 0
  data : Bytes := []
  /-- operands of an atomic, INLINE of a SEND -/
  inl : Bytes := []
  aop : Nat := 0
  fence : Bool := false
  burstEnd : Bool := false
  /-- formed without a window: fabric address and key (R445, R452) -/
  direct : Option (Nat × Nat) := none
  np : Bool := false
  /-- what a COPY or PUT and what an MCAST_PUT ask of the window's SPACE (R400): not 0b11, 0b11 -/
  mcast : Option Bool := none
  /-- a PUT: it leaves as one SHORT packet, past the write buffer (R399) -/
  short : Bool := false
  origin : Origin := .none
  deriving DecidableEq, Repr

/-- A packet in the pipeline of its initiator NI. -/
structure Job where
  pkt : Packet
  /-- 0 to 3 for SC0 to SC3; 4 for what has no class: L6 and L7 -/
  cls : Nat := 2
  gate : Nat := 0
  shaper : Option Nat := none
  /-- who takes its completion: one origin, or those of the writes merged into it -/
  origins : List Origin := []
  resent : Nat := 0
  /-- place in the order in which the NI took its accesses -/
  ord : Nat := 0
  /-- place of the youngest write merged into it, where that lies behind `ord` -/
  last : Nat := 0
  /-- it has waited for tokens (0x4200+n:10) -/
  waited : Bool := false
  deriving DecidableEq, Repr

/-- A translated access: fabric address, key and WIN_ATTR of its window (R324, R326); `direct` when it was formed without one. -/
structure Xlat where
  fa : Nat
  pkey : Nat
  attr : Nat
  direct : Bool
  deriving DecidableEq, Repr

/-- A cached window (R331). -/
structure CacheEntry where
  win : Nat
  base : Nat
  limit : Nat
  target : Nat
  attr : Nat
  deriving DecidableEq, Repr

/-- An entry of the posted-write buffer (R289): one line, `none` where no byte is valid. -/
structure WbEntry where
  fa : Nat
  cls : Nat
  pkey : Nat
  gate : Nat := 0
  shaper : Option Nat := none
  bytes : List (Option Byte)
  closed : Bool := false
  fence : Bool := false
  /-- the writes merged into it: first byte in the line, and who takes the completion -/
  origins : List (Nat × Origin) := []
  /-- place of its first write, or of its youngest one with FENCE; and of its youngest write -/
  ord : Nat := 0
  last : Nat := 0
  deriving DecidableEq, Repr

/-- Sender side of a pair and class (R304). -/
structure Pair where
  next : Nat := 0
  /-- unacknowledged requests, oldest first (R305) -/
  unacked : List Job := []
  wsync : Bool := false
  deriving DecidableEq, Repr

/-- Receiver side of a source and class (R306): EXP and the received PSEQs above it. -/
structure RxWin where
  exp : Nat
  got : List Nat := []
  deriving DecidableEq, Repr

/-- A stored reply (R308). -/
structure Reply where
  src : Nat
  sc3 : Bool
  pseq : Nat
  pkt : Packet
  deriving DecidableEq, Repr

/-- A gate list (R347). -/
structure GateList where
  enable : Bool := false
  seconds : Nat := 0
  stroke : Nat := 0
  entries : List Nat := [0xFF000008]
  /-- the image or an apply gave it (R350, R352) -/
  given : Bool := false
  deriving DecidableEq, Repr

/-- A network interface. -/
structure NI where
  inbox : List Access := []
  /-- the translation that the access at the front of them keeps while it waits behind TRANSLATE and ADMIT -/
  cur : Option Xlat := none
  /-- accesses taken so far -/
  ord : Nat := 0
  /-- outstanding non-posted requests by TAG (R276) -/
  tags : SMap Job := []
  /-- TAGs whose GEN bit is 1 -/
  gens : List Nat := []
  /-- barrier in force and who issued it; `true` is BAR_FULL (R287) -/
  barrier : Option (Bool × Origin) := none
  /-- most recently used first (R331) -/
  cache : List CacheEntry := []
  wb : List WbEntry := []
  /-- loads held by R293 -/
  held : List Job := []
  /-- packets waiting in SHAPE, arrival order -/
  shape : List Job := []
  /-- tokens in 1/1024 byte by shaper (R342) -/
  tokens : SMap Nat := []
  /-- wheel slot of each waiting shaper (R345) -/
  wheel : SMap Nat := []
  gate : List Job := []
  sendQ : List Job := []
  sc0 : List Job := []
  circ : List Job := []
  /-- circuits whose first-output window is open, and of these the ones with a burst running (R253) -/
  openWin : List Nat := []
  burst : List Nat := []
  /-- by circuit, the FAB count at which the last flit of its last BURST_END packet has left (R254) -/
  ending : SMap Nat := []
  /-- sender pairs keyed 2·target + (1 for SC3) -/
  pairs : SMap Pair := []
  /-- unreachable pairs, keyed 4·target + class (R185) -/
  unreach : List Nat := []
  /-- receive windows keyed 2·source + (1 for SC3) -/
  wins : SMap RxWin := []
  replies : List Reply := []
  /-- statuses other than OK of the ACKs sent and of the refused requests whose answers the reply store does not hold -/
  marks : List (Nat × Bool × Nat × Nat) := []
  /-- flits being assembled, by lane -/
  asm : SMap (List Flit) := []
  /-- whole packets received, oldest first -/
  rx : List Packet := []
  /-- accepted SC2 requests not yet answered, source and PSEQ, oldest first, and answers that wait for those of
  earlier ones (R282) -/
  order : List (Nat × Nat) := []
  ready : List Packet := []
  /-- accepted SC3 requests not yet answered (R286, R307) -/
  open3 : List (Nat × Nat) := []
  /-- places of the reply store kept for requests in execution (R308) -/
  promised : Nat := 0
  gates : GateList := {}
  /-- the pending list and the FAB-cycle count of its start (R349) -/
  pendGates : Option (GateList × Nat) := none
  /-- SC0 flows that injected in the stroke under way (R247) -/
  sc0Done : List Nat := []
  deriving DecidableEq, Repr

/-- What a line access does (R359). -/
inductive LineOp where
  | read | write | ldres | stcond | atomic | scrub
  deriving DecidableEq, Repr

/-- One line access in a bank queue (R358). -/
structure LineAcc where
  op : LineOp
  off : Nat
  len : Nat
  data : Bytes := []
  /-- the request it belongs to -/
  id : Nat
  deriving DecidableEq, Repr

/-- A request that a cluster serves, with the answer gathered so far. -/
structure ClJob where
  pkt : Packet
  left : Nat
  got : SMap Bytes := []
  status : Nat := 0
  deriving DecidableEq, Repr

/-- A reservation tracker that holds a reservation (R371); `prot` while protected (R297). -/
structure Tracker where
  src : Nat
  block : Nat
  set : Nat
  prot : Bool := true
  deriving DecidableEq, Repr

/-- An error-log entry (R366, 0x16 and 0x17). -/
structure EccEntry where
  place : Nat
  time : Nat
  deriving DecidableEq, Repr

/-- A buffer-memory cluster. -/
structure Cluster where
  /-- bytes other than 0, by offset -/
  mem : List Host.Cell := []
  /-- words with a wrong check byte: 1 correctable, 2 bad (R361, R363) -/
  ecc : SMap Nat := []
  port : List Packet := []
  banks : SMap (List LineAcc) := []
  jobs : SMap ClJob := []
  nextId : Nat := 0
  poolQ : List Packet := []
  /-- newest first, at most 16 -/
  log : List EccEntry := []
  /-- trackers in use, least recently set first -/
  trackers : List Tracker := []
  /-- offsets at which an STCOND failed without a clearing event, with no success in the block since (R296, R298) -/
  spurious : List Nat := []
  /-- free lists by pool: buffer numbers, head first (R376) -/
  free : SMap (List Nat) := []
  /-- a scrub line waits for its grant; its slip is counted; it stands in its bank's queue; the next one is due already -/
  scrubWaiting : Bool := false
  scrubSlip : Bool := false
  scrubBusy : Bool := false
  scrubNext : Bool := false
  /-- it is owed a grant; the FAB cycle in which the last slot began that can no longer be the one it takes (R368) -/
  scrubOwed : Option Nat := none
  /-- BUF cycles granted by the port -/
  granted : Nat := 0
  deriving DecidableEq, Repr

/-- A descriptor as read (R398); `bad` when R400 refuses it. -/
structure Desc where
  index : Nat := 0
  op : Nat := 0
  barrier : Nat := 0
  irq : Bool := false
  ackReq : Bool := false
  fence : Bool := false
  aop : Nat := 0
  userTag : Nat := 0
  length : Nat := 0
  src : Nat := 0
  dst : Nat := 0
  aux : Nat := 0
  bad : Bool := false
  deriving DecidableEq, Repr

/-- A chunk in its chunk buffer (R393). -/
structure Chunk where
  off : Nat
  len : Nat
  /-- bytes still to arrive -/
  left : Nat
  data : Bytes := []
  deriving DecidableEq, Repr

/-- A descriptor in execution (R392, R401). -/
structure Work where
  id : Nat
  desc : Desc
  /-- next transfer byte to issue -/
  next : Nat := 0
  /-- place in the order of issue of the next access -/
  seq : Nat := 0
  /-- accesses issued and not yet answered: bytes, and 1 for each that moves none -/
  pending : Nat := 0
  /-- chunks being read, oldest first -/
  chunks : List Chunk := []
  /-- ranges acknowledged, answered or injected: offset and length (R403) -/
  done : List (Nat × Nat) := []
  /-- failed packets: place in the order of issue, and status -/
  failed : List (Nat × Nat) := []
  /-- data of a GET, or the old value of an ATOMIC (R402) -/
  result : Bytes := []
  /-- operand block of a CAS128, and the bytes of it still to come -/
  block : Bytes := []
  operands : Nat := 0
  deriving DecidableEq, Repr

/-- A descriptor queue (R390). -/
structure DQueue where
  state : QState := .disabled
  producer : Nat := 0
  /-- the producer index the engine has acted on -/
  seen : Nat := 0
  consumer : Nat := 0
  abortLate : Bool := false
  ringError : Bool := false
  /-- next index to read from the ring, and the read under way -/
  fetch : Nat := 0
  fetching : Option Nat := none
  /-- number of the next work or ring read -/
  nextId : Nat := 0
  descs : List Desc := []
  works : List Work := []
  /-- producer index up to which an abort acts (R406) -/
  abortTo : Option Nat := none
  /-- records whose write is outstanding: index and IRQ (R404, R405) -/
  records : List (Nat × Bool) := []
  acked : List Bool := []
  deriving DecidableEq, Repr

/-- A receive ring (R413). -/
structure Ring where
  state : RingState := .disabled
  producer : Nat := 0
  seen : Nat := 0
  consumer : Nat := 0
  deriving DecidableEq, Repr

/-- A receive descriptor taken by a frame (R413). -/
structure RxBuf where
  index : Nat
  addr : Nat
  size : Nat
  fill : Nat := 0
  first : Bool := false
  deriving DecidableEq, Repr

/-- An open frame (R414). `buf` is the current buffer; `want` while its descriptor is being read. -/
structure Frame where
  ring : Nat
  src : Nat
  frameId : Nat
  len : Nat
  info : Nat
  next : Nat := 0
  buf : Option RxBuf := none
  want : Option Nat := none
  /-- descriptors taken after `buf`, for a packet that runs over its end -/
  more : List RxBuf := []
  /-- packets received and not yet written to a buffer, each whole (R419) -/
  parked : List Bytes := []
  /-- bytes of them that stand in the hold buffer, from the first on (R419) -/
  holdBytes : Nat := 0
  /-- the ring was exhausted, and the frame waits for a posted descriptor (R418) -/
  holding : Bool := false
  /-- its place among the frames that came to wait so (R414) -/
  need : Nat := 0
  /-- the frame parked bytes at some time -/
  everHeld : Bool := false
  anyBuf : Bool := false
  /-- the SEND_NPs that wait for the frame's end (R419), with their places among those that the engine received (R420) -/
  nps : List (Nat × Packet) := []
  /-- whole, once its LAST packet has come -/
  last : Bool := false
  /-- ended as truncated or dropped: the rest is discarded (R416, R418) -/
  dead : Bool := false
  deriving DecidableEq, Repr

/-- A DMA-and-message engine. -/
structure Engine where
  queues : SMap DQueue := []
  rings : SMap Ring := []
  frames : List Frame := []
  /-- queue whose turn it is, and the chunks left in the turn (R393) -/
  turn : Nat := 0
  turnLeft : Nat := 0
  /-- EQ e lost an item: a scan is due (R397) -/
  scanDue : Bool := false
  /-- SEND_NP packets received -/
  sendNps : Nat := 0
  /-- frames that came to wait for a posted descriptor -/
  needs : Nat := 0
  deriving DecidableEq, Repr

/-- An event-queue item with the number of its inverted check bits (R424, R429). -/
structure EqItem where
  value : Nat
  errs : Nat := 0
  /-- model time of the write -/
  at_ : Nat := 0
  /-- a scan has read the producer registers since (R397) -/
  scanned : Bool := false
  deriving DecidableEq, Repr

/-- An event queue (R423): for a chain `items` is the chain; for ping-pong banks `items` is the writer's bank
and `bank` the reader's. -/
structure EventQ where
  items : List EqItem := []
  bank : List EqItem := []
  seq : Nat := 0
  latched : Option Nat := none
  /-- writes that may still see FULL after space was freed (R426) -/
  late : Nat := 0
  /-- FAB count at the first write into the writer's bank (R427) -/
  firstAt : Option Nat := none
  /-- items of a sample that slipped a stroke (R432) -/
  slipped : Option (List Nat) := none
  deriving DecidableEq, Repr

/-- A transaction layer packet that a bridge sent. -/
inductive Tlp where
  | cpl (tag : Nat) (status : CplStatus) (ep : Bool) (data : Bytes)
  | mrd (addr len tag : Nat)
  | mwr (addr : Nat) (data : Bytes)
  | cfg (wr : Bool) (type1 : Bool) (addr value be : Nat)
  | hotReset
  deriving DecidableEq, Repr

/-- An outbound non-posted request (R467). -/
structure OutSlot where
  pkt : Packet
  /-- bytes that have come back so far, and whether some were poisoned -/
  data : Bytes := []
  ep : Bool := false
  deriving DecidableEq, Repr

/-- An inbound request in the fabric. -/
structure InReq where
  id : Nat
  acc : BarAccess
  /-- accesses not yet answered -/
  left : Nat
  /-- answers by offset: length, status, data -/
  got : SMap (Nat × Nat × Bytes) := []
  /-- bytes completed toward the partner (R450) -/
  sent : Nat := 0
  /-- a failed status has been counted (R466) -/
  counted : Bool := false
  /-- its completion is one whole: a fast page, a dictionary access, the FLUSH register -/
  whole : Bool := false
  /-- a BAR2 access, which HALTED still serves (R447) -/
  mgmt : Bool := false
  deriving DecidableEq, Repr

/-- An exclusive slot (R456). -/
structure ExSlot where
  addr : Nat := 0
  size : Nat := 0
  state : Nat := 0
  status : Nat := 0
  count : Nat := 0
  deriving DecidableEq, Repr

/-- An MSI-X table entry; masked after reset. -/
structure MsixEntry where
  addr : Nat := 0
  data : Nat := 0
  masked : Bool := true
  deriving DecidableEq, Repr

/-- A bridge. -/
structure Bridge where
  state : PcieState := .disabled
  speed : Nat := 0
  width : Nat := 0
  flit : Bool := false
  perst : Bool := true
  /-- a root port drives its PERST_N low (R461) -/
  perstOut : Bool := false
  disabled : Bool := false
  contained : Bool := false
  msix : SMap MsixEntry := []
  /-- vectors pending, oldest first, each with the outbound posted writes it must follow (R453) -/
  pending : List (Nat × Nat) := []
  msixEnable : Bool := false
  funcMask : Bool := false
  bme : Bool := false
  d3 : Bool := false
  cfg : SMap Nat := []
  slots : SMap OutSlot := []
  gens : List Nat := []
  /-- requests at the bridge's input, oldest first -/
  outQ : List Packet := []
  /-- posted writes that wait for credits (R467), and that wait for the data link layer (R464) -/
  credits : Bool := true
  dll : List Packet := []
  inbound : List InReq := []
  nextIn : Nat := 0
  /-- target of the previous inbound posted write, when it went through SC2 (R449) -/
  lastPosted : Option Nat := none
  exs : SMap ExSlot := []
  /-- the bridge's last fabric access was slot s's LDRES, and the FAB count of its answer (R459) -/
  simple : Option (Nat × Option Nat) := none
  cfgAddr : Nat := 0
  /-- CFG_DATA accesses that wait for their completion (R463) -/
  cfgQ : List Packet := []
  bar4 : Nat := 36
  trainWanted : Bool := false
  waveDone : Bool := false
  out : List Tlp := []
  deriving DecidableEq, Repr

/-- A transaction of the management matrix: one beat of 1, 2, 4 or 8 bytes, or a burst of beats of 8 bytes (R482, R485). -/
structure MatReq where
  target : Nat
  write : Bool
  addr : Nat
  size : Nat
  beats : Nat := 1
  /-- of JTAG's: the bytes it writes, and the object that its address names -/
  data : Bytes := []
  obj : Option (Nat × Nat) := none
  deriving DecidableEq, Repr

/-- A flash operation in progress (R522). -/
structure FlashOp where
  slotB : Bool
  erase : Bool
  /-- 0 erase record, 1 erase image, 2 program image, 3 verify, 4 program record -/
  phase : Nat := 0
  pos : Nat := 0
  /-- bytes of the staged image, and its GENERATION -/
  len : Nat := 0
  generation : Nat := 0
  /-- the record to program last -/
  record : Bytes := []
  deriving DecidableEq, Repr

/-- The SPI flash and its controller. -/
structure Flash where
  state : FlashState := .absent
  /-- the device fitted outside the hub, its identifier, and its bytes other than 0xFF -/
  fitted : Bool := false
  ident : Nat := 0
  mem : SMap Byte := []
  op : Option FlashOp := none
  deriving DecidableEq, Repr

/-- The Boathouse: matrix, debug access, Springhead, flash. -/
structure Boat where
  /-- transactions of each master, in the order it issues them: the first is its one outstanding (R484) -/
  asks : SMap (List MatReq) := []
  /-- master that each target granted last -/
  granted : SMap Nat := []
  /-- the answer to JTAG's last transaction: none within for an error response -/
  jtagOut : Option (Option Bytes) := none
  debug : Bool := false
  remap : Bool := false
  jtag : JtagState := .locked
  challenge : Bytes := []
  /-- bytes of a response that a domain window has brought so far -/
  response : SMap Byte := []
  streak : Nat := 0
  spring : SpringState := .boot
  pc : Nat := 0
  stack : List Nat := []
  /-- trap vector: kind and command index; and the commands (R506) -/
  vector : List (Nat × Nat) := []
  cmds : List SpringCmd := []
  trapQ : List Nat := []
  /-- kind of the trap whose script runs -/
  trapKind : Nat := 0
  flash : Flash := {}
  deriving DecidableEq, Repr

/-- A reaction policy (R536). -/
structure Policy where
  reaction : Nat
  next : Nat
  grace : Nat := 250000
  pin : Bool
  deriving DecidableEq, Repr

/-- A fault kept in the list or latched on a pin (R545, R539). -/
structure FEntry where
  msg : FaultMsg := {}
  state : EntryState := .free
  level : Nat := 0
  escalated : Bool := false
  second : Bool := false
  /-- the grace timer runs; NEXT_LEVEL taken with it (R543, R555) -/
  timer : Option Nat := none
  /-- submitted in test mode: its cause counts as ended (R553) -/
  test : Bool := false
  /-- the PIN bit of its kind's policy when it arrived -/
  pin : Bool := false
  deriving DecidableEq, Repr

/-- The fault collector. -/
structure Faults where
  input : List (FaultMsg × Bool) := []
  list : SMap FEntry := []
  /-- the last 256 messages by place in the ring (R546) -/
  log : SMap FaultMsg := []
  /-- place of the ring that the next message takes -/
  logAt : Nat := 0
  pinRaw : List Nat := []
  pins : SMap FEntry := []
  policy : SMap Policy := []
  /-- kind, source and unit held back until cleared (R533) -/
  held : List (Nat × Nat × Nat) := []
  inject : InjectState := .idle
  /-- target and offset of the armed injection (R552) -/
  injTarget : Nat := 0
  injOffset : Nat := 0
  deriving DecidableEq, Repr

/-- A proxy (R568): packets received and packets parked. -/
structure Proxy where
  rx : List Packet := []
  parked : List Packet := []
  deriving DecidableEq, Repr

/-- The power controller and EASY. -/
structure Power where
  /-- states of PD00 to PD49 that are not OFF -/
  dom : SMap DomainState := [(0, .on), (1, .on), (2, .on)]
  /-- where a domain in FENCING or DRAINING goes: `off` or `retain`; and whether it then wakes (R566) -/
  goal : SMap (DomainState × Bool) := []
  /-- domains that came to WAKING or wait for it from RETAIN -/
  fromRetain : List Nat := []
  /-- domains whose wake waits (R564) -/
  waitWake : List Nat := []
  /-- domains whose last wake failed (R569) -/
  failed : List Nat := []
  proxies : SMap Proxy := []
  stage : EasyStage := .none
  easyForced : Bool := false
  easyCause : Nat := 0
  /-- model time at the entry to EASY -/
  easyAt : Nat := 0
  limitHit : Bool := false
  forcedOff : Nat := 0
  /-- port waves begun since the entry to LAUNCH (R462) -/
  waves : List Nat := []
  deriving DecidableEq, Repr

/-- A decision of the Steward (R610). -/
structure Decision where
  time : Nat
  loop : Nat
  action : Nat
  index : Nat
  sub : Nat
  old : Nat
  new : Nat
  metric : Nat
  deriving DecidableEq, Repr

/-- The Steward. -/
structure Steward where
  running : Bool := false
  warmup : Bool := false
  /-- FAB count at the entry to WARMUP (R598) -/
  warmStart : Nat := 0
  /-- long averages LA and last QDEPTH samples, keyed 8·r + 2·p + (l − 4) (R604) -/
  la : SMap Int := []
  qd : SMap Nat := []
  /-- last link increases, successive samples at WARN_COUNT, samples left of HOLDOFF, keyed 4·r + p -/
  inc : SMap Nat := []
  hits : SMap Nat := []
  holdoff : SMap Nat := []
  /-- CORRECTED at the last telemetry sample, keyed 4·r + p (R601) -/
  corrected : SMap Nat := []
  /-- last percentages by cluster, SCRUB_SLIPPED seen, last idle counts by domain -/
  load : SMap Nat := []
  slippedSeen : SMap Nat := []
  idle : SMap Nat := []
  /-- FAB count at which the NI of domain d last accepted a request, or woke (R601, R613) -/
  busyAt : SMap Nat := []
  /-- granted BUF cycles of cluster k at the last sample (R601) -/
  grants : SMap Nat := []
  lost : Nat := 0
  log : SMap Decision := []
  /-- place of the next decision in the ring -/
  next : Nat := 0
  /-- FAB count of the last owner write to an object, and whether a decision was withheld since (R608) -/
  ownerAt : SMap (Nat × Bool) := []
  deriving DecidableEq, Repr

end Sys2Proof.Machine
end

