-- ==== Sys2Proof/Machine/Sparse.lean ====
section
/-! DEFINITION. Sparse tables and small list operations. A sparse table keeps its numbers rising and lists no
place that holds the default, so equal tables are equal lists. -/

namespace Sys2Proof.Machine

variable {α : Type}

/-- The entry at a number, if one is listed. -/
def sfind (m : SMap α) (k : Nat) : Option α :=
  match m with
  | [] => none
  | (j, v) :: rest => if j = k then some v else sfind rest k

/-- The value at a number; `d` where none is listed. -/
def sget (d : α) (m : SMap α) (k : Nat) : α :=
  match m with
  | [] => d
  | (j, v) :: rest => if j = k then v else sget d rest k

/-- Removes what is listed at a number. -/
def sdel (m : SMap α) (k : Nat) : SMap α :=
  match m with
  | [] => []
  | (j, v) :: rest => if j = k then sdel rest k else (j, v) :: sdel rest k

/-- Lists a value at a number, keeping the numbers rising. -/
def sins (m : SMap α) (k : Nat) (v : α) : SMap α :=
  match m with
  | [] => [(k, v)]
  | (j, w) :: rest =>
    if k < j then (k, v) :: (j, w) :: rest
    else if k = j then (k, v) :: rest
    else (j, w) :: sins rest k v

/-- Stores a value at a number; the default `d` is not listed. -/
def sput [DecidableEq α] (d : α) (m : SMap α) (k : Nat) (v : α) : SMap α :=
  if v = d then sdel m k else sins m k v

/-- Applies a function to the value at a number. -/
def smod [DecidableEq α] (d : α) (m : SMap α) (k : Nat) (f : α → α) : SMap α :=
  sput d m k (f (sget d m k))

/-- The numbers rise strictly. -/
def srising : SMap α → Bool
  | [] => true
  | [_] => true
  | (i, _) :: (j, w) :: rest => decide (i < j) && srising ((j, w) :: rest)

/-- The canonical form: rising, and no entry holds the default. -/
def swf [DecidableEq α] (d : α) (m : SMap α) : Bool :=
  srising m && m.all (fun e => decide (e.2 ≠ d))

/-- The element at a place of a list; `d` past its end. -/
def lget (d : α) (l : List α) (i : Nat) : α := l.getD i d

/-- Replaces the element at a place of a list. -/
def lset (l : List α) (i : Nat) (v : α) : List α := l.set i v

/-- Adds a number to a list that holds each once. -/
def addOnce (l : List Nat) (n : Nat) : List Nat := if l.contains n then l else l ++ [n]

/-- Removes a number from a list. -/
def without (l : List Nat) (n : Nat) : List Nat := l.filter (fun x => x ≠ n)

/-- Runs a state transformer for each element of a list, in order. -/
def forEach {σ : Type} (l : List α) (s : σ) (f : σ → α → σ) : σ := l.foldl f s

/-- Applies a transformer when a condition holds. -/
def when {σ : Type} (c : Bool) (f : σ → σ) (s : σ) : σ := if c then f s else s

end Sys2Proof.Machine
end

