-- ==== Sys2Proof/Machine/Bits.lean ====
section
/-! DEFINITION. Bit fields of numbers, byte order, saturating counters and the cyclic checks the manual names. -/

namespace Sys2Proof.Machine

/-- Field [hi:lo] of a number (R10). -/
def field (n hi lo : Nat) : Nat := (n >>> lo) % 2 ^ (hi + 1 - lo)

/-- Bit `b` of a number. -/
def bitAt (n b : Nat) : Bool := n.testBit b

/-- A Boolean as 0 or 1. -/
def b2n (b : Bool) : Nat := if b then 1 else 0

/-- A number with field [hi:lo] replaced. -/
def putField (n hi lo v : Nat) : Nat :=
  n - (field n hi lo <<< lo) + ((v % 2 ^ (hi + 1 - lo)) <<< lo)

/-- A number with bit `b` set. -/
def setBitN (n b : Nat) : Nat := n ||| (1 <<< b)

/-- A number with bit `b` clear. -/
def clrBitN (n b : Nat) : Nat := if n.testBit b then n - (1 <<< b) else n

/-- The numbers of the set bits of `n` below `w`, rising. -/
def bitsOf (w n : Nat) : List Nat := (List.range w).filter (fun b => n.testBit b)

/-- The number whose set bits are those listed. -/
def maskOf (l : List Nat) : Nat := l.foldl setBitN 0

/-- A number as `len` bytes, least significant first (R12). -/
def leBytes : Nat → Nat → Bytes
  | _, 0 => []
  | n, len + 1 => BitVec.ofNat 8 n :: leBytes (n / 256) len

/-- The number that bytes spell, least significant first (R12). -/
def fromLe : Bytes → Nat
  | [] => 0
  | b :: rest => b.toNat + 256 * fromLe rest

/-- Bytes lengthened with zeros, or cut, to `len`. -/
def padTo (len : Nat) (bs : Bytes) : Bytes := (bs ++ List.replicate (len - bs.length) 0).take len

/-- A run of bytes inside a longer run. -/
def slice (bs : Bytes) (off len : Nat) : Bytes := (bs.drop off).take len

/-- The number in `len` bytes at an offset. -/
def leAt (bs : Bytes) (off len : Nat) : Nat := fromLe (slice bs off len)

/-- Bytes with a run replaced. -/
def patch (bs : Bytes) (off : Nat) (v : Bytes) : Bytes :=
  let bs := padTo (max bs.length (off + v.length)) bs
  bs.take off ++ v ++ bs.drop (off + v.length)

/-- Adds and stops at `2 ^ w - 1`. -/
def satAdd (w a b : Nat) : Nat := min (a + b) (2 ^ w - 1)

/-- A signed number as a `w`-bit two's complement. -/
def toTwos (w : Nat) (i : Int) : Nat := (i % (2 ^ w : Int)).toNat

/-- The signed number that a `w`-bit two's complement spells. -/
def ofTwos (w n : Nat) : Int := if n % 2 ^ w < 2 ^ (w - 1) then ((n % 2 ^ w : Nat) : Int) else ((n % 2 ^ w : Nat) : Int) - 2 ^ w

/-- One byte of a reflected CRC-32C: eight shifts with the polynomial of R274 reflected. -/
def crcShift : Nat → Nat → Nat
  | 0, c => c
  | n + 1, c => crcShift n (if c % 2 = 1 then (c >>> 1) ^^^ 0x82F63B78 else c >>> 1)

/-- CRC-32C (R274): reflected, initial value and final XOR all ones. -/
def crc32c (bs : Bytes) : Nat :=
  (bs.foldl (fun c b => crcShift 8 (c ^^^ b.toNat)) 0xFFFFFFFF) ^^^ 0xFFFFFFFF

/-- One byte of the CRC-8 of R113: eight shifts to the left with polynomial 0x07. -/
def crc8Shift : Nat → Nat → Nat
  | 0, c => c
  | n + 1, c => crc8Shift n (if c ≥ 128 then ((c * 2) % 256) ^^^ 7 else c * 2)

/-- CRC-8 of a TOD frame (R113). -/
def crc8 (bs : Bytes) : Nat := bs.foldl (fun c b => crc8Shift 8 (c ^^^ b.toNat)) 0

end Sys2Proof.Machine
end

