-- ==== Sys2Proof/Machine/Crypto.lean ====
section
/-! DEFINITION. SHA-384, and ECDSA over the curve P-384, which R489, R507 and R509 name: the functions of the
standards that define them (PRESUMED, log 14). -/

namespace Sys2Proof.Machine

/-! ### SHA-384 -/

/-- Round constants 0 to 19. -/
def shaK0 : List Nat :=
  [0x428A2F98D728AE22, 0x7137449123EF65CD, 0xB5C0FBCFEC4D3B2F, 0xE9B5DBA58189DBBC, 0x3956C25BF348B538,
   0x59F111F1B605D019, 0x923F82A4AF194F9B, 0xAB1C5ED5DA6D8118, 0xD807AA98A3030242, 0x12835B0145706FBE,
   0x243185BE4EE4B28C, 0x550C7DC3D5FFB4E2, 0x72BE5D74F27B896F, 0x80DEB1FE3B1696B1, 0x9BDC06A725C71235,
   0xC19BF174CF692694, 0xE49B69C19EF14AD2, 0xEFBE4786384F25E3, 0x0FC19DC68B8CD5B5, 0x240CA1CC77AC9C65]
/-- Round constants 20 to 39. -/
def shaK1 : List Nat :=
  [0x2DE92C6F592B0275, 0x4A7484AA6EA6E483, 0x5CB0A9DCBD41FBD4, 0x76F988DA831153B5, 0x983E5152EE66DFAB,
   0xA831C66D2DB43210, 0xB00327C898FB213F, 0xBF597FC7BEEF0EE4, 0xC6E00BF33DA88FC2, 0xD5A79147930AA725,
   0x06CA6351E003826F, 0x142929670A0E6E70, 0x27B70A8546D22FFC, 0x2E1B21385C26C926, 0x4D2C6DFC5AC42AED,
   0x53380D139D95B3DF, 0x650A73548BAF63DE, 0x766A0ABB3C77B2A8, 0x81C2C92E47EDAEE6, 0x92722C851482353B]
/-- Round constants 40 to 59. -/
def shaK2 : List Nat :=
  [0xA2BFE8A14CF10364, 0xA81A664BBC423001, 0xC24B8B70D0F89791, 0xC76C51A30654BE30, 0xD192E819D6EF5218,
   0xD69906245565A910, 0xF40E35855771202A, 0x106AA07032BBD1B8, 0x19A4C116B8D2D0C8, 0x1E376C085141AB53,
   0x2748774CDF8EEB99, 0x34B0BCB5E19B48A8, 0x391C0CB3C5C95A63, 0x4ED8AA4AE3418ACB, 0x5B9CCA4F7763E373,
   0x682E6FF3D6B2B8A3, 0x748F82EE5DEFB2FC, 0x78A5636F43172F60, 0x84C87814A1F0AB72, 0x8CC702081A6439EC]
/-- Round constants 60 to 79. -/
def shaK3 : List Nat :=
  [0x90BEFFFA23631E28, 0xA4506CEBDE82BDE9, 0xBEF9A3F7B2C67915, 0xC67178F2E372532B, 0xCA273ECEEA26619C,
   0xD186B8C721C0C207, 0xEADA7DD6CDE0EB1E, 0xF57D4F7FEE6ED178, 0x06F067AA72176FBA, 0x0A637DC5A2C898A6,
   0x113F9804BEF90DAE, 0x1B710B35131C471B, 0x28DB77F523047D84, 0x32CAAB7B40C72493, 0x3C9EBE0A15C9BEBC,
   0x431D67C49C100D4C, 0x4CC5D4BECB3E42B6, 0x597F299CFC657E2A, 0x5FCB6FAB3AD6FAEC, 0x6C44198C4A475817]

/-- The first state. -/
def shaInit : List Nat :=
  [0xCBBB9D5DC1059ED8, 0x629A292A367CD507, 0x9159015A3070DD17, 0x152FECD8F70E5939, 0x67332667FFC00B31,
   0x8EB44A8768581511, 0xDB0C2E0D64F98FA7, 0x47B5481DBEFA4FA4]

def add64 (a b : Nat) : Nat := (a + b) % 2 ^ 64
def rotr64 (x n : Nat) : Nat := x >>> n ||| (x <<< (64 - n)) % 2 ^ 64
def sig0 (x : Nat) : Nat := rotr64 x 1 ^^^ rotr64 x 8 ^^^ (x >>> 7)
def sig1 (x : Nat) : Nat := rotr64 x 19 ^^^ rotr64 x 61 ^^^ (x >>> 6)
def sum0 (x : Nat) : Nat := rotr64 x 28 ^^^ rotr64 x 34 ^^^ rotr64 x 39
def sum1 (x : Nat) : Nat := rotr64 x 14 ^^^ rotr64 x 18 ^^^ rotr64 x 41
def chooseBits (x y z : Nat) : Nat := (x &&& y) ^^^ ((x ^^^ (2 ^ 64 - 1)) &&& z)
def majority (x y z : Nat) : Nat := (x &&& y) ^^^ (x &&& z) ^^^ (y &&& z)

/-- A number in `len` bytes, most significant first. -/
def beBytes (n len : Nat) : Bytes := (leBytes n len).reverse
/-- The number that bytes spell, most significant first. -/
def fromBe (bs : Bytes) : Nat := fromLe bs.reverse

/-- The message schedule: the last 16 words, newest first, and the rest behind them. -/
def shaExtend : Nat → List Nat → List Nat
  | 0, w => w
  | n + 1, w => shaExtend n (add64 (add64 (sig1 (lget 0 w 1)) (lget 0 w 6)) (add64 (sig0 (lget 0 w 14)) (lget 0 w 15)) :: w)

/-- One round. -/
def shaRound (h : List Nat) (kw : Nat × Nat) : List Nat :=
  match h with
  | [a, b, c, d, e, f, g, hh] =>
    let t1 := add64 (add64 hh (sum1 e)) (add64 (chooseBits e f g) (add64 kw.1 kw.2))
    let t2 := add64 (sum0 a) (majority a b c)
    [add64 t1 t2, a, b, c, add64 d t1, e, f, g]
  | other => other

/-- One block of 128 bytes. -/
def shaBlock (h : List Nat) (block : Bytes) : List Nat :=
  let w0 := (List.range 16).map (fun j => fromBe (slice block (8 * j) 8))
  let w := (shaExtend 64 w0.reverse).reverse
  let out := ((shaK0 ++ shaK1 ++ shaK2 ++ shaK3).zip w).foldl shaRound h
  (h.zip out).map (fun p => add64 p.1 p.2)

/-- Blocks from the front of a padded message. -/
def shaBlocks : Nat → List Nat → Bytes → List Nat
  | 0, h, _ => h
  | n + 1, h, bs => shaBlocks n (shaBlock h (bs.take 128)) (bs.drop 128)

/-- SHA-384. -/
def sha384 (msg : Bytes) : Bytes :=
  let n := msg.length
  let pad := (128 - (n + 17) % 128) % 128
  let full := msg ++ [0x80] ++ List.replicate pad 0 ++ beBytes (8 * n) 16
  ((shaBlocks (full.length / 128) shaInit full).take 6).flatMap (fun x => beBytes x 8)

/-! ### P-384 -/

/-- The field's prime. -/
def p384P : Nat := 2 ^ 384 - 2 ^ 128 - 2 ^ 96 + 2 ^ 32 - 1
/-- The group's order. -/
def p384N : Nat :=
  0xFFFFFFFFFFFFFFFFFFFFFFFFFFFFFFFFFFFFFFFFFFFFFFFFC7634D81F4372DDF581A0DB248B0A77AECEC196ACCC52973
def p384B : Nat :=
  0xB3312FA7E23EE7E4988E056BE3F82D19181D9C6EFE8141120314088F5013875AC656398D8A2ED19D2A85C8EDD3EC2AEF
def p384Gx : Nat :=
  0xAA87CA22BE8B05378EB1C71EF320AD746E1D3B628BA79B9859F741E082542A385502F25DBF55296C3A545E3872760AB7
def p384Gy : Nat :=
  0x3617DE4A96262C6F5D9E98BF9292DC29F8F41DBD289A147CE9DA3113B5F0B8C00A60B1CE1D7E819D7A431D7C90EA0E5F

/-- A power modulo m, over the low `n` bits of the exponent. -/
def powMod (m : Nat) : Nat → Nat → Nat → Nat
  | 0, _, _ => 1 % m
  | n + 1, b, e => (if e % 2 = 1 then b else 1) * powMod m n (b * b % m) (e / 2) % m
/-- The inverse modulo a prime. -/
def invMod (m a : Nat) : Nat := powMod m 384 (a % m) (m - 2)
def subMod (m a b : Nat) : Nat := (a + (m - b % m)) % m

/-- Sum of two points; `none` is the point at infinity. -/
def curveAdd (a b : Option (Nat × Nat)) : Option (Nat × Nat) :=
  match a, b with
  | none, q => q
  | q, none => q
  | some (x1, y1), some (x2, y2) =>
    let p := p384P
    if x1 = x2 ∧ (y1 + y2) % p = 0 then none
    else
      let l := if x1 = x2 then subMod p (3 * x1 * x1) 3 * invMod p (2 * y1) % p
        else subMod p y1 y2 * invMod p (subMod p x1 x2) % p
      let x3 := subMod p (subMod p (l * l % p) x1) x2
      some (x3, subMod p (l * subMod p x1 x3 % p) y1)

/-- A multiple of a point, over the low `n` bits of k. -/
def curveMul : Nat → Nat → Option (Nat × Nat) → Option (Nat × Nat)
  | 0, _, _ => none
  | n + 1, k, q => curveAdd (if k % 2 = 1 then q else none) (curveMul n (k / 2) (curveAdd q q))

def onCurve (x y : Nat) : Bool := decide (y * y % p384P = (subMod p384P (x * x * x + p384B) (3 * x)) % p384P)

/-- ECDSA over SHA-384: a public key in uncompressed SEC1 form, the message, r and s (R507). -/
def ecdsaOk (key msg : Bytes) (r s : Nat) : Bool :=
  let x := fromBe (slice key 1 48)
  let y := fromBe (slice key 49 48)
  let w := invMod p384N s
  let e := fromBe (sha384 msg)
  decide (key.length = 97) && decide (lget 0 key 0 = 4) && decide (x < p384P) && decide (y < p384P) && onCurve x y
    && decide (1 ≤ r ∧ r < p384N ∧ 1 ≤ s ∧ s < p384N)
    && (match curveAdd (curveMul 384 (e * w % p384N) (some (p384Gx, p384Gy))) (curveMul 384 (r * w % p384N) (some (x, y))) with
        | some (vx, _) => decide (vx % p384N = r)
        | none => false)

end Sys2Proof.Machine
end

