-- ==== Sys2Proof/Config.lean ====
section
/-! DEFINITION. What the manual leaves open: constants without a body, so that nothing can evaluate them or prove
a value of them. Each use applies one to `State.free`, which the step then advances, or to the operands it
depends on. -/

namespace Sys2Proof

/-- A yes or no that the manual leaves open. -/
opaque Config.freeBit : Nat → Bool

/-- A number that the manual leaves open. -/
opaque Config.freeNat : Nat → Nat

/-- A byte that the manual leaves open. -/
opaque Config.freeByte : Nat → Byte

/-- Contents of a PCIe configuration register of a bridge that R440 does not give, by bridge and register
number. -/
opaque Config.pciConfig : Nat → Nat → Nat

/-- A byte that a target of the management matrix holds where the manual does not give it, by target and offset: the boot ROM, the
staging SRAM before it is written, the key store. -/
opaque Config.matrixByte : Nat → Nat → Byte

/-- Verification of a debug response (R489): the hub holds only the hash of the debug key, and the manual does not
say where the key itself comes from. Arguments: key hash, signed message, signature. -/
opaque Config.debugVerify : Bytes → Bytes → Bytes → Bool

end Sys2Proof
end

