-- ==== Sys2Proof/Machine/Mesh.lean ====
section
/-! DEFINITION. Where everything sits: the mesh, its ports and links, the endpoints, their NIs and power domains,
and the layout of fabric addresses (chapter 01). -/

namespace Sys2Proof.Machine

/-- Coordinates of a router (R18). -/
def xOf (r : Nat) : Nat := r % 8
def yOf (r : Nat) : Nat := r / 8

/-- The number of a port: 0 N, 1 E, 2 S, 3 W (R187). -/
def portNum : Port → Nat
  | .N => 0 | .E => 1 | .S => 2 | .W => 3

/-- Whether router r has mesh port p (R19). -/
def hasPort (r p : Nat) : Bool :=
  match p with
  | 0 => decide (0 < yOf r)
  | 1 => decide (xOf r < 7)
  | 2 => decide (yOf r < 5)
  | 3 => decide (0 < xOf r)
  | _ => false

/-- The router that port p of router r faces. -/
def neighbour (r p : Nat) : Nat :=
  match p with
  | 0 => r - 8
  | 1 => r + 1
  | 2 => r + 8
  | _ => r - 1

/-- The port that faces port p from the other end. -/
def opposite (p : Nat) : Nat := (p + 2) % 4

/-- Key of the bidirectional link at port p of router r: that of its E or S direction. -/
def bondKey (r p : Nat) : Nat :=
  if p = 1 ∨ p = 2 then 4 * r + p else 4 * neighbour r p + opposite p

/-- The link directions of the mesh (R21): every present port of every router. -/
def allDirs : List (Nat × Nat) :=
  (List.range 48).flatMap (fun r => ((List.range 4).filter (hasPort r)).map (fun p => (r, p)))

/-- NI of an endpoint (R22). -/
def niOfBm (k : Nat) : Nat := 8 * (1 + k / 6) + 1 + k % 6
def niOfDm (e : Nat) : Nat := lget 0 [1, 2, 5, 6, 41, 42, 45, 46] e
def niOfPb (k : Nat) : Nat := lget 0 [0, 8, 16, 24, 32, 40, 7, 15, 23, 31, 39, 47] k
/-- NI of a bridge: 0 HB0, 1 HB1, 2 + k PBk. -/
def niOfBridge (b : Nat) : Nat := if b = 0 then 3 else if b = 1 then 4 else niOfPb (b - 2)

/-- The endpoint at an NI. -/
inductive Endpoint where
  | bm (k : Nat) | dm (e : Nat) | bridge (b : Nat) | mp | none
  deriving DecidableEq, Repr

/-- The endpoint at NI n (R22). -/
def endpointOf (n : Nat) : Endpoint :=
  if n = 43 then .mp
  else if 1 ≤ yOf n ∧ yOf n ≤ 4 ∧ 1 ≤ xOf n ∧ xOf n ≤ 6 then .bm (6 * (yOf n - 1) + (xOf n - 1))
  else if n = 3 then .bridge 0
  else if n = 4 then .bridge 1
  else if n = 1 then .dm 0 else if n = 2 then .dm 1 else if n = 5 then .dm 2 else if n = 6 then .dm 3
  else if n = 41 then .dm 4 else if n = 42 then .dm 5 else if n = 45 then .dm 6 else if n = 46 then .dm 7
  else if n = 44 ∨ n ≥ 48 then .none
  else if xOf n = 0 then .bridge (2 + yOf n)
  else .bridge (8 + yOf n)

/-- NI IDs that name a valid target (R23). -/
def validNi (n : Nat) : Bool := decide (n < 48) && decide (n ≠ 44)

/-- Power domain of an endpoint (R40). -/
def domOfEndpoint : Endpoint → Nat
  | .bm k => 16 + k
  | .dm e => 40 + e
  | .bridge b => if b < 2 then 48 + b else 2 + b
  | .mp => 1
  | .none => 3

/-- Power domain of NI n (R41). -/
def niDom (n : Nat) : Nat := domOfEndpoint (endpointOf n)

/-- Power domain of a bridge. -/
def bridgeDom (b : Nat) : Nat := if b < 2 then 48 + b else 2 + b

/-- NI of an endpoint domain PD04 to PD49 (R40). -/
def niOfDom (d : Nat) : Nat :=
  if d < 16 then niOfPb (d - 4) else if d < 40 then niOfBm (d - 16)
  else if d < 48 then niOfDm (d - 40) else niOfBridge (d - 48)

/-- Fields of a fabric address (R24). -/
def faSpace (fa : Nat) : Nat := field fa 47 46
def faTarget (fa : Nat) : Nat := field fa 45 40
def faOffset (fa : Nat) : Nat := field fa 39 0
def mkFa (space target off : Nat) : Nat := space <<< 46 ||| target <<< 40 ||| off

/-- Whether a target kind accepts SPACE 0b00 or 0b01 (R27). -/
def spaceAccepted (n space : Nat) : Bool :=
  match endpointOf n with
  | .bm _ => decide (space = 0)
  | .dm _ => decide (space = 1)
  | .bridge _ => decide (space = 0 ∨ space = 1)
  | .mp => false
  | .none => false

end Sys2Proof.Machine
end

