-- ==== Sys2Proof/Machine/Objects.lean ====
section
/-! DEFINITION. The object tables: for every index and sub-index its type, access, owner mark, Map mark, reserved
bits, default and range, as the tables of chapters 02 to 16 print them, and the power domain it lies in. -/

namespace Sys2Proof.Machine

/-- CiA 301 data types. `str n` is a VISIBLE_STRING whose maximum length is n (R90). -/
inductive OType where
  | u8 | u16 | u32 | u64 | i16 | i32 | i64 | bool | str (n : Nat) | domain
  deriving DecidableEq, Repr

/-- Access types. -/
inductive OAccess where
  | ro | wo | rw | const | w1c
  deriving DecidableEq, Repr

/-- Ranges (R16). -/
inductive ORange where
  | any
  | btw (lo hi : Nat)
  /-- 0 or between -/
  | zeroOr (lo hi : Nat)
  | oneOf (l : List Nat)
  /-- a multiple of m up to hi -/
  | mult (m hi : Nat)
  /-- a multiple of m up to hi, or the value x -/
  | multOr (m hi x : Nat)
  /-- signed, between, 16 bits -/
  | sbtw (lo hi : Int)
  /-- LINK_RANK: a permutation of 0 to 7; `z` admits 0 as well -/
  | perm8 (z : Bool)
  /-- CLUSTER_RANK: a permutation of 0, 1, 2, 4, 6, 7, 8 -/
  | permC
  /-- a rule with cases of its own, by number -/
  | rule (n : Nat)
  deriving DecidableEq, Repr

/-- What an object table says of an object. `keep` has a bit for every bit that is not reserved (R13). -/
structure Obj where
  ty : OType
  acc : OAccess
  own : Bool := false
  map : Bool := false
  keep : Nat := 2 ^ 64 - 1
  dflt : Nat := 0
  rng : ORange := .any
  deriving DecidableEq, Repr

/-- Rows: indices iLo to iHi, sub-indices sLo + step · k for k below n. -/
structure ObjRow where
  iLo : Nat
  iHi : Nat
  sLo : Nat
  step : Nat
  n : Nat
  obj : Obj
  deriving DecidableEq, Repr

def ObjRow.covers (r : ObjRow) (i s : Nat) : Bool :=
  decide (r.iLo ≤ i) && decide (i ≤ r.iHi) && decide (r.sLo ≤ s)
    && decide ((s - r.sLo) % r.step = 0) && decide ((s - r.sLo) / r.step < r.n)

/-- A row for one sub-index of one index. -/
def row1 (i s : Nat) (o : Obj) : ObjRow := ⟨i, i, s, 1, 1, o⟩
/-- A row for a run of sub-indices of a run of indices. -/
def rowN (i j s n : Nat) (o : Obj) : ObjRow := ⟨i, j, s, 1, n, o⟩

def oro (t : OType) : Obj := { ty := t, acc := .ro }
def oroM (t : OType) : Obj := { ty := t, acc := .ro, map := true }
def oconst (t : OType) (d : Nat := 0) : Obj := { ty := t, acc := .const, dflt := d }
def orw (t : OType) (d : Nat) (r : ORange) (k : Nat := 2 ^ 64 - 1) : Obj :=
  { ty := t, acc := .rw, own := true, dflt := d, rng := r, keep := k }
def orwAny (t : OType) (r : ORange) (k : Nat := 2 ^ 64 - 1) : Obj := { ty := t, acc := .rw, rng := r, keep := k }
def owo (t : OType) (r : ORange) (k : Nat := 2 ^ 64 - 1) : Obj :=
  { ty := t, acc := .wo, own := true, rng := r, keep := k }

/-- Communication objects (R101). The sub-indices of the records are those of CiA 301, and a TPDO's transmission type is 1 by
default (PRESUMED, log 6). The length given for SW_VERSION is that of State.reset's; slots go by the text itself. -/
def objRows10 : List ObjRow :=
  [row1 0x1000 0 (oconst .u32), row1 0x1001 0 (oroM .u8),
   row1 0x1005 0 (orw .u32 0x80 (.rule 1)), row1 0x1006 0 (orw .u32 0 (.zeroOr 1000 10000000)),
   row1 0x1008 0 (oconst (.str 6)), row1 0x1009 0 (oconst (.str 2)), row1 0x100A 0 (oconst (.str 1)),
   row1 0x1014 0 (orw .u32 0 .any), row1 0x1015 0 (orw .u16 0 .any),
   rowN 0x1016 0x1016 1 8 (orw .u32 0 .any 0xFFFFFF), row1 0x1017 0 (orw .u16 1000 .any),
   row1 0x1018 1 (oconst .u32 0xA6B), row1 0x1018 2 (oconst .u32 0x9648), row1 0x1018 3 (oconst .u32),
   row1 0x1018 4 (oconst .u32), rowN 0x1200 0x1200 1 2 (oconst .u32),
   rowN 0x1400 0x1403 1 1 (orw .u32 0 .any), rowN 0x1400 0x1403 2 1 (orw .u8 0 (.btw 0 240)),
   rowN 0x1600 0x1603 0 1 (orw .u8 0 .any), rowN 0x1600 0x1603 1 8 (orw .u32 0 .any),
   rowN 0x1800 0x1803 1 1 (orw .u32 0 .any), rowN 0x1800 0x1803 2 1 (orw .u8 1 (.rule 3)),
   rowN 0x1800 0x1803 5 1 (orw .u16 0 .any),
   rowN 0x1A00 0x1A03 0 1 (orw .u8 0 .any), rowN 0x1A00 0x1A03 1 8 (orw .u32 0 .any)]

/-- State, identity, ownership, outputs, image transfer (R101). Bits [31:24] of 0x2090:01 and :11, as those of 0x1016, have no
meaning in R91 and R79: they are held to be reserved bits of R13, read 0 and are ignored (DEDUCED, log 117). -/
def objRows20 : List ObjRow :=
  [row1 0x2000 1 (oroM .u8), row1 0x2000 2 (oroM .u8), row1 0x2000 3 (oro .bool), row1 0x2000 4 (orw .bool 0 .any),
   row1 0x2000 5 (orw .bool 1 .any), row1 0x2001 1 (oro .u8), row1 0x2002 1 (oro .u8), row1 0x2002 2 (oro (.str 9)),
   row1 0x2003 1 (oroM .u64), row1 0x2003 2 (oro .u32), row1 0x2004 1 (orw .u8 0 (.btw 0 4)),
   row1 0x2004 2 (orw .u8 0 (.btw 0 3)), rowN 0x2005 0x2005 1 5 (oro .u32),
   row1 0x2010 1 (oro .u8), row1 0x2010 2 (orwAny .u8 (.btw 0 1)), row1 0x2010 3 (oro .u32),
   row1 0x2010 4 (orw .u8 0 (.btw 0 0x7F)), rowN 0x2011 0x2011 1 4 (oro .u32), rowN 0x2012 0x2012 1 4 (oro .u32),
   rowN 0x2020 0x2020 1 0x20 (orw .u8 0 (.btw 0 2)), rowN 0x2021 0x2021 1 0x20 (orw .u64 0 .any),
   row1 0x2022 1 (orw .u16 100 (.btw 0 60000)), row1 0x2022 2 (oroM .u8), row1 0x2022 3 (orw .u8 0 (.btw 0 0x7F)),
   row1 0x2080 1 (oro .u8), rowN 0x2080 0x2080 2 3 (oro .u32), row1 0x2080 5 (oro .u8),
   row1 0x2080 6 (owo .u8 (.btw 1 3)), row1 0x2080 7 (orw .u32 0 (.btw 1 2097152)), row1 0x2081 0 (owo .domain .any),
   row1 0x2090 1 (orwAny .u32 .any 0xFFFFFF), row1 0x2090 0x11 (orwAny .u32 .any 0xFFFFFF),
   row1 0x2090 2 (orwAny .u32 (.mult 4096 0xFFFFFFFF)), row1 0x2090 0x12 (orwAny .u32 (.mult 4096 0xFFFFFFFF))]

/-- The Cox (R145). -/
def objRows21 : List ObjRow :=
  [row1 0x2100 1 (oroM .u8), row1 0x2100 2 (oroM .u32), row1 0x2100 3 (oro .i32), row1 0x2100 4 (oro .i32),
   row1 0x2100 5 (oro .u32), row1 0x2100 6 (oro .u8), row1 0x2101 1 (oro .u64), row1 0x2101 2 (oro .u32),
   row1 0x2101 3 (oro .u32), row1 0x2101 4 (oroM .u64), row1 0x2101 5 (oro .i64),
   row1 0x2110 1 (orw .bool 1 .any), row1 0x2110 2 (orw .u8 0 (.btw 0 1)), row1 0x2110 3 (orw .u32 0 (.btw 0 100000)),
   row1 0x2110 4 (orw .u32 60 (.btw 1 86400)), row1 0x2110 5 (orw .u8 0 (.btw 0 1)), row1 0x2110 6 (orw .bool 0 .any),
   row1 0x2110 7 (orw .bool 1 .any), row1 0x2110 8 (orw .u32 20000 (.btw 1000 50000)), row1 0x2110 9 (owo .u8 (.btw 1 1)),
   rowN 0x2111 0x2111 1 11 (oro .u32), row1 0x2120 1 (orw .u64 0 (.btw 0 (2 ^ 48 - 1))),
   row1 0x2120 2 (orw .u32 0 (.btw 0 1499999)), row1 0x2120 3 (orw .u8 1 (.btw 1 2)), row1 0x2120 4 (orw .u8 0 (.btw 0 1)),
   row1 0x2120 5 (orw .bool 0 .any), row1 0x2120 6 (oroM .u32), row1 0x2120 7 (oro .u64), row1 0x2120 8 (oro .u8),
   rowN 0x2130 0x2130 1 4 (oro .u64)]

/-- Power, clocks, reset and insertion (R592), and electrical (R641). -/
def objRows22 : List ObjRow :=
  [row1 0x2200 1 (oroM .u64), row1 0x2200 2 (orw .u8 4 (.btw 1 8)), row1 0x2200 3 (oro .u64), row1 0x2200 4 (oro .u32),
   row1 0x2200 0xF (owo .u8 (.btw 1 1)), rowN 0x2210 0x2241 1 1 (oroM .u8), rowN 0x2210 0x2213 2 1 (oconst .u8 1),
   rowN 0x2214 0x2241 2 1 (orw .u8 1 (.btw 0 2)), rowN 0x2210 0x2241 3 1 (orw .u32 0x3E8 (.rule 4) 0xC00FFFFF),
   rowN 0x2210 0x2241 4 1 (owo .u8 (.btw 1 1)), rowN 0x2210 0x2241 5 1 (oro .u32), rowN 0x2210 0x2241 6 1 (oroM .u32),
   rowN 0x2210 0x2241 7 2 (oro .u32), rowN 0x2210 0x2241 9 1 (oro .u64), rowN 0x2280 0x2280 1 14 (oro .u8),
   row1 0x2290 1 (oro .u16), row1 0x2290 2 (oro .u16)]

def objRows23 : List ObjRow :=
  [row1 0x2300 1 (orw .u8 0 (.btw 0 1)), row1 0x2300 2 (orw .u16 200 (.btw 10 2000)), row1 0x2300 3 (oroM .bool),
   row1 0x2300 4 (orw .u8 0 (.btw 0 1)), row1 0x2300 5 (orw .u16 2000 (.btw 100 60000)), row1 0x2300 6 (oro .u32),
   row1 0x2300 7 (oro .u8), row1 0x2300 8 (oro .u64), row1 0x2301 1 (oro .u8), row1 0x2301 2 (oro .bool),
   row1 0x2301 3 (oro .bool), row1 0x2301 4 (oro .u32), row1 0x2302 1 (owo .u16 (.oneOf [0x5A5A, 0xA5A5])),
   row1 0x2302 2 (oro .bool), row1 0x2302 3 (owo .u8 (.btw 1 1)), row1 0x2303 1 (owo .u8 (.btw 1 2)),
   row1 0x2303 2 (oroM .u8)]

/-- The fault collector (R554). -/
def objRows24 : List ObjRow :=
  [row1 0x2400 1 (oroM .u32), row1 0x2400 2 (oroM .u8), row1 0x2400 3 (orw .u8 2 (.btw 1 3)),
   row1 0x2400 4 (orw .u8 3 .any 3), row1 0x2400 5 (orw .u8 254 (.btw 0 254)), row1 0x2400 6 (orw .bool 1 .any),
   rowN 0x2400 0x2400 7 6 (oro .u32), row1 0x2400 0xF (owo .u8 (.btw 1 1)),
   row1 0x2410 1 (orw .u16 0x0101 (.rule 5)), row1 0x2410 2 (orw .u8 0 (.btw 0 4)),
   row1 0x2410 3 (orw .u32 250000 (.btw 250 250000000)), row1 0x2410 4 (orw .u8 0 (.btw 0 4)),
   row1 0x2410 5 (orw .bool 0 .any), row1 0x2411 0 (orw .domain 0 .any), row1 0x2420 1 (orwAny .u8 (.btw 0 63)),
   row1 0x2420 2 (oro .u64), row1 0x2420 3 (oro .u64), row1 0x2420 4 (oro .u32), row1 0x2420 5 (owo .u8 (.btw 1 4)),
   row1 0x2420 6 (oroM .u8), row1 0x2421 0 (oro .domain), row1 0x2422 0 (oro .domain), row1 0x2423 1 (oro .u32),
   row1 0x2428 1 (oroM .u64), row1 0x2428 2 (oro .u64), row1 0x2428 3 (oro .u64), row1 0x2428 4 (owo .u64 .any),
   row1 0x2428 5 (owo .u64 .any), row1 0x2430 1 (oro .u64), row1 0x2430 2 (oro .u64), row1 0x2430 3 (owo .u8 (.btw 1 1)),
   row1 0x2430 4 (oro .u32), row1 0x2440 1 (orw .u32 0 .any 0xFC003F03), row1 0x2440 2 (orw .u32 0 (.mult 8 0x7FFFF8)),
   row1 0x2440 3 (owo .u8 (.btw 1 2)), row1 0x2440 4 (oro .u8), row1 0x2440 5 (oro .u32),
   row1 0x2441 1 (orw .u64 0 .any), row1 0x2441 2 (orw .u64 0 .any), row1 0x2441 3 (owo .u8 (.btw 1 1))]

/-- The Steward (R611). -/
def objRows25 : List ObjRow :=
  [row1 0x2500 1 (oroM .u8), row1 0x2500 2 (orw .bool 0 .any), row1 0x2500 3 (orw .u32 1500000 (.btw 0 90000000)),
   row1 0x2500 4 (oro .u8), row1 0x2500 5 (oro .u16), row1 0x2500 6 (oro .u32), row1 0x2500 0xF (owo .u8 (.btw 1 1)),
   row1 0x2501 1 (orw .u8 2 (.btw 0 2)), row1 0x2501 2 (orw .u16 64 (.btw 16 65535)), row1 0x2501 3 (orw .u16 64 (.btw 0 256)),
   row1 0x2501 4 (orw .u8 128 .any), row1 0x2501 5 (orw .u8 3 (.btw 1 8)),
   row1 0x2502 1 (orw .u8 2 (.btw 0 2)), row1 0x2502 2 (orw .u32 1500000 (.btw 150000 15000000)),
   row1 0x2502 3 (orw .u32 1000 (.btw 1 0xFFFFFFFF)), row1 0x2502 4 (orw .u8 3 (.btw 1 15)),
   row1 0x2502 5 (orw .u8 60 (.btw 1 255)), rowN 0x2502 0x2502 6 2 (oro .u32),
   row1 0x2503 1 (orw .u8 2 (.btw 0 2)), row1 0x2503 2 (orw .u16 1500 (.btw 150 15000)), row1 0x2503 3 (orw .i16 0 (.rule 6)),
   row1 0x2503 4 (orw .u16 48 (.btw 16 320)), row1 0x2503 5 (orw .u8 0 (.btw 0 8)), row1 0x2503 6 (oroM .i16),
   row1 0x2503 7 (oro .u32), rowN 0x2503 0x2503 8 8 (oro .i16),
   row1 0x2504 1 (orw .u8 2 (.btw 0 2)), row1 0x2504 2 (orw .u16 15000 (.btw 1500 65535)), row1 0x2504 3 (orw .u8 50 (.btw 0 100)),
   row1 0x2504 4 (orw .u8 90 (.btw 0 100)), row1 0x2504 5 (orw .u16 16 (.btw 1 65535)), row1 0x2504 6 (orw .u16 64 (.btw 1 65535)),
   row1 0x2505 1 (orw .u8 0 (.btw 0 2)), row1 0x2505 2 (orw .u16 1500 (.btw 150 65535)),
   row1 0x2505 3 (orw .u32 1500000 (.btw 15000 0xFFFFFFFF)), rowN 0x2505 0x2505 4 2 (oro .u32), row1 0x2520 0 (oro .domain)]

/-- The Boathouse (R524). -/
def objRows26 : List ObjRow :=
  [row1 0x2600 1 (oro .bool), row1 0x2600 2 (oro .bool), rowN 0x2600 0x2600 3 2 (oro .u32), row1 0x2601 1 (oro .u8),
   row1 0x2601 2 (oro .domain), row1 0x2601 3 (owo .domain .any), row1 0x2601 4 (owo .u8 (.btw 1 2)), row1 0x2601 5 (oro .u32),
   row1 0x2602 1 (oroM .u8), row1 0x2602 2 (owo .u8 (.btw 1 2)), row1 0x2602 3 (oro .u8), row1 0x2602 4 (oro .u32),
   row1 0x2602 5 (oro .u8), rowN 0x2602 0x2602 6 2 (oroM .u32), row1 0x2602 8 (oro .u64), row1 0x2602 9 (oro (.str 32)),
   row1 0x2603 1 (oro .u8), rowN 0x2603 0x2603 2 4 (oro .u32), row1 0x2604 1 (oro .bool), rowN 0x2604 0x2604 2 2 (oro .u8),
   row1 0x2610 1 (oro .u8), row1 0x2610 2 (oro .u16), row1 0x2610 3 (orw .u32 10000 (.btw 10 1000000)),
   rowN 0x2610 0x2610 4 3 (oro .u32), row1 0x2610 7 (oro .u8), row1 0x2610 8 (oro .u16), rowN 0x2610 0x2610 9 2 (oro .u8),
   row1 0x2620 1 (oro .u8), row1 0x2620 2 (oro .u32), row1 0x2620 3 (oro .bool), row1 0x2620 4 (owo .u8 (.btw 1 4)),
   rowN 0x2620 0x2620 5 2 (oro .u32), rowN 0x2620 0x2620 7 2 (oro .u8), row1 0x2620 9 (oro .u32), row1 0x2620 0xB (oro .bool)]

/-- Links (R187): sub-index 16 · p + f. -/
def objRows30 : List ObjRow :=
  let port (f : Nat) (o : Obj) : ObjRow := ⟨0x3000, 0x302F, f, 16, 4, o⟩
  [port 1 { ty := .u8, acc := .ro, map := true, dflt := 1 }, port 2 (oroM .u32), port 3 (oro .u32), port 4 (oro .u32),
   port 5 (oro .u32), port 6 (oro .u32), port 7 (oro .u32), port 8 (oro .u32), port 9 (oro .u32), port 10 (oro .u32),
   port 11 (oro .u32), port 12 (oro .u8), port 13 (oro .u64), port 14 { ty := .u32, acc := .ro, dflt := 0xFFFFFFFF },
   port 15 (owo .u8 (.btw 1 3)), rowN 0x3000 0x302F 0x41 1 (oro .u32), rowN 0x3000 0x302F 0x42 1 (owo .u8 .any 0xF)]

/-- Routing (R227). -/
def objRows31 : List ObjRow :=
  [rowN 0x3100 0x312F 1 1 (oro .u8), rowN 0x3100 0x312F 2 1 (oro .u32),
   rowN 0x3100 0x312F 0x10 48 { ty := .u8, acc := .ro, dflt := 0xF }, rowN 0x3100 0x312F 0x40 40 (oro .u64),
   rowN 0x3100 0x312F 0x70 5 (oro .u32), rowN 0x3100 0x312F 0x78 5 (oro .u32), rowN 0x3100 0x312F 0x80 5 (oro .u32),
   rowN 0x3100 0x312F 0x88 8 (orw .u8 0 .any), rowN 0x3100 0x312F 0x90 8 (oroM .u16),
   rowN 0x3100 0x312F 0x98 1 (orw .u8 4 (.btw 1 8)), rowN 0x3100 0x312F 0xA0 4 (oro .u64),
   rowN 0x3100 0x312F 0xA8 2 (oro .u32), rowN 0x3100 0x312F 0xAF 1 (owo .u8 .any 0xF),
   rowN 0x3100 0x312F 0xC0 64 (oro .u64)]

/-- Stroke tables, circuits, ranking and commit (R264). -/
def objRows32 : List ObjRow :=
  [rowN 0x3200 0x322F 1 4 (oro .domain), rowN 0x3240 0x3257 1 1 (oro .domain), row1 0x3260 0 (oro .domain),
   row1 0x3261 0 (oro .domain), rowN 0x3262 0x3262 1 2 (oro .u16), row1 0x3301 1 (oro .u8), rowN 0x3301 0x3301 2 4 (oro .u16),
   row1 0x3301 6 (oro .u32)]

def objRows34 : List ObjRow :=
  [row1 0x3400 1 { ty := .u32, acc := .ro, dflt := 0x73524610 }, row1 0x3400 2 (orw .u32 0x73524610 (.perm8 false)),
   row1 0x3401 1 { ty := .u32, acc := .ro, dflt := 0x07246108 }, row1 0x3401 2 (orw .u32 0x07246108 .permC 0xFFFFFFF),
   row1 0x3402 1 (oro .u16), row1 0x3402 2 { ty := .u8, acc := .ro, dflt := 255 }, rowN 0x3410 0x343F 1 4 (oro .u32),
   rowN 0x3410 0x343F 0x11 4 (orw .u32 0 (.perm8 true)), ⟨0x3440, 0x346F, 1, 16, 4, oroM .u32⟩, ⟨0x3440, 0x346F, 2, 16, 4, oroM .u32⟩,
   ⟨0x3440, 0x346F, 3, 16, 4, oroM .u32⟩, ⟨0x3440, 0x346F, 4, 16, 4, oro .u32⟩, ⟨0x3440, 0x346F, 5, 16, 4, oro .u32⟩,
   ⟨0x3440, 0x346F, 6, 16, 4, oro .u32⟩, ⟨0x3440, 0x346F, 7, 16, 4, oroM .u32⟩, rowN 0x3440 0x346F 0x50 1 (owo .u8 .any 0xF),
   rowN 0x3470 0x3487 1 3 (oro .u32), rowN 0x3470 0x3487 0x10 1 (owo .u8 (.btw 1 1)), rowN 0x3490 0x3491 1 0x40 (oro .u32),
   row1 0x3492 1 { ty := .u64, acc := .w1c, own := true }, rowN 0x3493 0x3493 1 3 (oro .u32), row1 0x34F0 1 (owo .u8 (.btw 1 1)),
   row1 0x34F0 2 (oro .bool), row1 0x34F0 3 (oro .u32), row1 0x34F0 4 (oro .u64)]

/-- Ordering and end-to-end settings (R314). -/
def objRows38 : List ObjRow :=
  [rowN 0x3800 0x382F 1 1 (orw .u16 20 (.btw 1 100)), rowN 0x3800 0x382F 2 1 (orw .u8 6 (.btw 1 15)),
   rowN 0x3800 0x382F 3 1 (orw .u16 64 (.btw 8 4096)), rowN 0x3800 0x382F 4 1 (orw .bool 1 .any),
   rowN 0x3800 0x382F 0x10 1 (oroM .u32), rowN 0x3800 0x382F 0x11 2 (oro .u32), rowN 0x3800 0x382F 0x13 1 (oroM .u32),
   rowN 0x3800 0x382F 0x14 9 (oro .u32), rowN 0x3800 0x382F 0x1D 2 (oro .u16), rowN 0x3800 0x382F 0x20 1 (owo .u8 (.btw 1 1))]

/-- Windows (R352). -/
def objRows40 : List ObjRow :=
  [⟨0x4000, 0x402F, 1, 4, 32, orw .u64 0 (.mult 4096 (2 ^ 64 - 1))⟩, ⟨0x4000, 0x402F, 2, 4, 32, orw .u64 0 (.rule 7)⟩,
   ⟨0x4000, 0x402F, 3, 4, 32, orw .u64 0 (.mult 4096 (2 ^ 64 - 1))⟩, ⟨0x4000, 0x402F, 4, 4, 32, orw .u32 0 .any 0xFFFF03FF⟩,
   rowN 0x4000 0x402F 0x81 1 (owo .u8 (.btw 1 1)), rowN 0x4000 0x402F 0x82 4 (oro .u32), rowN 0x4000 0x402F 0x86 1 (oro .u64),
   rowN 0x4000 0x402F 0x8F 1 (owo .u8 (.btw 1 1))]

/-- Access tables (R352). -/
def objRows41 : List ObjRow :=
  [⟨0x4100, 0x412F, 1, 4, 16, orw .u64 0 (.rule 8) 0xFFFFC0FFFFFFFFFF⟩, ⟨0x4100, 0x412F, 2, 4, 16, orw .u64 0 (.rule 9) 0xFFFF00FFFFFFFFFF⟩,
   ⟨0x4100, 0x412F, 3, 4, 16, orw .u64 0 (.btw 0 (2 ^ 48 - 1))⟩, ⟨0x4100, 0x412F, 4, 4, 16, orw .u64 0 (.btw 0 (2 ^ 48 - 1))⟩,
   rowN 0x4100 0x412F 0x41 4 (oroM .u32), rowN 0x4100 0x412F 0x45 1 (oro .u64), rowN 0x4100 0x412F 0x4F 1 (owo .u8 (.btw 1 1))]

/-- Shapers (R352). -/
def objRows42 : List ObjRow :=
  [rowN 0x4200 0x422F 1 1 (orw .domain 0 .any), rowN 0x4200 0x422F 2 1 (orw .u8 0 .any),
   rowN 0x4200 0x422F 3 1 (orw .u64 0 (.rule 10) 0xC3FFFF00001FFFFF), rowN 0x4200 0x422F 4 1 (oro .u32),
   rowN 0x4200 0x422F 5 1 (oroM .u16), rowN 0x4200 0x422F 0x10 3 (oro .u32), rowN 0x4200 0x422F 0x13 1 (oro .u16),
   rowN 0x4200 0x422F 0x1F 1 (owo .u8 (.btw 1 1))]

/-- Gates (R352). -/
def objRows43 : List ObjRow :=
  [rowN 0x4300 0x432F 1 1 (orw .bool 0 .any), rowN 0x4300 0x432F 2 1 (orw .u64 0 (.btw 0 (2 ^ 48 - 1))),
   rowN 0x4300 0x432F 3 1 (orw .u32 0 (.btw 0 1499999)), rowN 0x4300 0x432F 4 1 (orw .u8 1 (.btw 1 32)),
   rowN 0x4300 0x432F 5 1 (owo .u8 (.btw 1 2)), rowN 0x4300 0x432F 6 1 (oroM .u8), rowN 0x4300 0x432F 7 1 (oro .bool),
   rowN 0x4300 0x432F 8 1 (oro .u8), rowN 0x4300 0x432F 9 1 (oro .u64), rowN 0x4300 0x432F 0xA 1 (oro .u32),
   rowN 0x4300 0x432F 0x10 32 (orw .u32 0xFF000008 (.rule 11)),
   rowN 0x4300 0x432F 0x30 32 { ty := .u32, acc := .ro, dflt := 0xFF000008 }, rowN 0x4300 0x432F 0x50 2 (oro .u32),
   rowN 0x4300 0x432F 0x5F 1 (owo .u8 (.btw 1 1))]

/-- Buffer-memory clusters (R385). -/
def objRows48 : List ObjRow :=
  [rowN 0x4800 0x4817 1 1 (orw .u8 7 (.btw 7 12)), rowN 0x4800 0x4817 2 1 (orw .bool 1 .any),
   rowN 0x4800 0x4817 3 1 (orw .u16 64 (.btw 1 65535)), rowN 0x4800 0x4817 4 3 (oro .u32), rowN 0x4800 0x4817 7 1 (oroM .u32),
   rowN 0x4800 0x4817 8 1 (orw .u32 0xFFFFFFFF (.multOr 512 0x7FFE00 0xFFFFFFFF)), rowN 0x4800 0x4817 0x10 2 (oroM .u32),
   rowN 0x4800 0x4817 0x12 3 (oro .u32), rowN 0x4800 0x4817 0x15 1 (orwAny .u8 (.btw 0 15)), rowN 0x4800 0x4817 0x16 2 (oro .u64),
   rowN 0x4800 0x4817 0x20 5 (oro .u32), rowN 0x4800 0x4817 0x25 1 (oro .u8), rowN 0x4800 0x4817 0x28 1 (oro .u32),
   rowN 0x4800 0x4817 0x30 8 (orw .u64 0 (.rule 12) 0xE0FFFF00007FFFFF), rowN 0x4800 0x4817 0x38 8 (oroM .u16),
   rowN 0x4800 0x4817 0x40 8 (oro .u32), rowN 0x4800 0x4817 0x48 8 (oro .u16), rowN 0x4800 0x4817 0x50 8 (oro .u32),
   rowN 0x4800 0x4817 0x7F 1 (owo .u8 .any 7)]

/-- Engines (R433). -/
def objRows4C : List ObjRow :=
  [rowN 0x4C00 0x4C07 1 1 (orwAny .u8 (.btw 0 63)), rowN 0x4C00 0x4C07 2 2 (orw .u64 0 (.mult 4096 (2 ^ 48 - 1))),
   rowN 0x4C00 0x4C07 4 1 (orw .u32 0x03100000 (.rule 13) 0x8FF001FF), rowN 0x4C00 0x4C07 5 1 (oro .u64), rowN 0x4C00 0x4C07 6 1 (oro .u32),
   rowN 0x4C00 0x4C07 0x10 1 (orwAny .u8 (.btw 0 15)), rowN 0x4C00 0x4C07 0x11 1 (orw .u64 0 (.mult 4096 (2 ^ 48 - 1))),
   rowN 0x4C00 0x4C07 0x12 1 (orw .u32 0x0C640000 (.rule 14) 0xFFFF01FF), rowN 0x4C00 0x4C07 0x13 1 (oro .u64),
   rowN 0x4C00 0x4C07 0x14 1 (owo .u8 (.btw 1 1)), rowN 0x4C00 0x4C07 0x40 1 (oroM .u32), rowN 0x4C00 0x4C07 0x41 2 (oro .u32),
   rowN 0x4C00 0x4C07 0x43 1 (oroM .u64), rowN 0x4C00 0x4C07 0x44 2 (oroM .u32), rowN 0x4C00 0x4C07 0x46 3 (oro .u32),
   rowN 0x4C00 0x4C07 0x49 1 (oro .u16), rowN 0x4C00 0x4C07 0x4F 1 (owo .u8 (.btw 1 1))]

/-- Event queues (R434). -/
def objRows4E : List ObjRow :=
  [rowN 0x4E00 0x4E07 1 1 (oconst .u8 0), rowN 0x4E08 0x4E0F 1 1 (oconst .u8 1), rowN 0x4E00 0x4E0F 2 1 (oro .u64),
   rowN 0x4E00 0x4E0F 3 1 (oroM .u16), rowN 0x4E00 0x4E0F 4 1 { ty := .u8, acc := .ro, dflt := 1 }, rowN 0x4E00 0x4E0F 5 1 (oroM .u32),
   rowN 0x4E00 0x4E0F 6 2 (oro .u32), rowN 0x4E00 0x4E0F 8 1 (owo .u8 (.btw 1 1)), rowN 0x4E00 0x4E0F 9 1 (orw .u16 0 (.rule 15) 0x80FF),
   rowN 0x4E00 0x4E0F 0xA 1 (orw .u16 1500 (.btw 1 65535)), rowN 0x4E00 0x4E0F 0xB 1 (oro .u32), rowN 0x4E00 0x4E0F 0xF 1 (owo .u8 (.btw 1 1))]

/-- Bridges (R477): 0x5000 and 0x5001 the host bridges, 0x5100 to 0x510B the port bridges. -/
def objRowsBridge (lo hi : Nat) : List ObjRow :=
  [rowN lo hi 1 2 (oroM .u8), rowN lo hi 3 1 (oro .u8), rowN lo hi 4 1 (oro .bool), rowN lo hi 5 1 (orw .u8 6 (.btw 1 6)),
   rowN lo hi 6 1 (orw .u32 50 (.btw 1 64000)), rowN lo hi 7 1 (orw .u32 0 (.btw 0 0xFFFFFF)), rowN lo hi 8 1 (orw .u8 0 (.btw 0 2)),
   rowN lo hi 9 1 (orw .u16 0 .any), rowN lo hi 0xA 1 (orw .u8 36 (.btw 20 40)),
   rowN lo hi 0xB 1 (orw .u64 0xFFFFFFFFFFFFFFFF (.multOr 0x20000 (2 ^ 64 - 1) 0xFFFFFFFFFFFFFFFF)),
   rowN lo hi 0xC 1 (owo .u8 (.btw 1 4)), rowN lo hi 0xD 1 (oro .u64), rowN lo hi 0x10 1 (oro .u32), rowN lo hi 0x11 1 (oroM .u32),
   rowN lo hi 0x12 7 (oro .u32), rowN lo hi 0x19 1 (oro .u64), rowN lo hi 0x1A 3 (oro .u32), rowN lo hi 0x1F 1 (owo .u8 (.btw 1 1)),
   rowN lo hi 0x20 2 (oro .u8), rowN lo hi 0x22 1 (orw .u16 100 (.btw 1 1000)), rowN lo hi 0x23 1 (oro .bool)]

/-- The rows of the table that an index falls in. -/
def objRows (i : Nat) : List ObjRow :=
  let h := i / 256
  if h < 0x20 then objRows10 else if h = 0x20 then objRows20 else if h = 0x21 then objRows21
  else if h = 0x22 then objRows22 else if h = 0x23 then objRows23 else if h = 0x24 then objRows24
  else if h = 0x25 then objRows25 else if h = 0x26 then objRows26 else if h = 0x30 then objRows30
  else if h = 0x31 then objRows31 else if h = 0x32 ∨ h = 0x33 then objRows32 else if h = 0x34 then objRows34
  else if h = 0x38 then objRows38 else if h = 0x40 then objRows40 else if h = 0x41 then objRows41
  else if h = 0x42 then objRows42 else if h = 0x43 then objRows43 else if h = 0x48 then objRows48
  else if h = 0x4C then objRows4C else if h = 0x4E then objRows4E else if h = 0x50 then objRowsBridge 0x5000 0x5001
  else if h = 0x51 then objRowsBridge 0x5100 0x510B else []

/-- Whether an index exists (R54). -/
def indexExists (i : Nat) : Bool := (objRows i).any (fun r => decide (r.iLo ≤ i) && decide (i ≤ r.iHi))

/-- Highest sub-index of an index. -/
def topSub (i : Nat) : Nat :=
  (objRows i).foldl (fun a r => if r.iLo ≤ i ∧ i ≤ r.iHi then max a (r.sLo + r.step * (r.n - 1)) else a) 0

/-- What the tables say of an object. Sub-index 0 of a record or array, which no table lists, reads its highest
sub-index as CiA 301 has it (PRESUMED, log 6). -/
def objInfo (i s : Nat) : Option Obj :=
  match (objRows i).find? (fun r => r.covers i s) with
  | some r => some r.obj
  | none => if s = 0 ∧ indexExists i then some (oconst .u8 (topSub i)) else none

/-- Bytes of a type that fills a slot; 0 for a DOMAIN or a string. -/
def tySize : OType → Nat
  | .u8 => 1 | .u16 => 2 | .u32 => 4 | .u64 => 8 | .i16 => 2 | .i32 => 4 | .i64 => 8 | .bool => 1 | .str _ => 0 | .domain => 0

/-- Power domain of an object's block (R55, R146, R189, R228, R264, R315, R353, R384, R435, R478, R593). -/
def objDom (i s : Nat) : Nat :=
  let h := i / 256
  let l := i % 256
  if h = 0x21 then 2
  else if 0x2300 ≤ i ∧ i ≤ 0x2302 then 0
  else if i = 0x2430 then 0
  else if 0x2210 ≤ i ∧ i ≤ 0x2241 ∧ 5 ≤ s ∧ s ≤ 7 then 3
  else if h = 0x30 then 3
  else if h = 0x31 then (if s ≥ 0xC0 then niDom l else 3)
  else if h = 0x32 then (if l < 0x30 then 3 else if l < 0x58 then 16 + (l - 0x40) else 1)
  else if h = 0x34 then (if 0x70 ≤ l ∧ l < 0x88 then 16 + (l - 0x70) else 3)
  else if h = 0x38 ∨ (0x40 ≤ h ∧ h ≤ 0x43) then niDom l
  else if h = 0x48 then 16 + l
  else if h = 0x4C then 40 + l
  else if h = 0x4E then (if l < 8 then 40 + l else 1)
  else if h = 0x50 then 48 + l
  else if h = 0x51 then 4 + l
  else 1

/-- Whether the fields of an object are those of a port, router or kind of bridge that does not have them: they
read 0, and writes are refused with 0x0604_0043 (R187, R227, R314, R352, R477). -/
def objAbsent (i s : Nat) : Bool :=
  let h := i / 256
  let l := i % 256
  if h = 0x30 then decide (s < 0x40) && ! hasPort l (s / 16)
  else if h = 0x31 then
    (if 0x40 ≤ s ∧ s < 0x68 then (if s < 0x60 then ! hasPort l ((s - 0x40) / 8) else decide (l = 44))
     else if 0x70 ≤ s ∧ s < 0x88 then (if s % 8 < 4 then ! hasPort l (s % 8) else decide (l = 44))
     else if 0x88 ≤ s ∧ s < 0x98 then ! hasPort l ((s % 8) / 2)
     else if 0xA0 ≤ s ∧ s < 0xA4 then ! hasPort l (s - 0xA0)
     else if s ≥ 0xC0 then decide (l = 44) else false)
  else if h = 0x32 ∧ l < 0x30 then ! hasPort l (s - 1)
  else if 0x3410 ≤ i ∧ i ≤ 0x343F then ! hasPort (i - 0x3410) (s % 16 - 1)
  else if 0x3440 ≤ i ∧ i ≤ 0x346F ∧ s < 0x40 then ! hasPort (i - 0x3440) (s / 16)
  else if h = 0x38 then decide (l = 44)
  else if 0x40 ≤ h ∧ h ≤ 0x43 then decide (l = 43 ∨ l = 44)
  else if h = 0x4E then decide (l < 8 ∧ (s = 9 ∨ s = 0xA))
  else if h = 0x50 then decide (s = 0xB ∨ (0x20 ≤ s ∧ s ≤ 0x23))
  else if h = 0x51 then decide (s = 9)
  else false

/-- Key of an object in the store. -/
def okey (i s : Nat) : Nat := i * 256 + s
/-- Key of an object that a selector shows, for one value of the selector. -/
def skey (i s sel : Nat) : Nat := 16777216 * (sel + 1) + okey i s
/-- Index and sub-index of a key. -/
def keyIdx (k : Nat) : Nat := (k % 16777216) / 256
def keySub (k : Nat) : Nat := k % 256

/-- The part's maximum Tj, 1/16 °C: 100 °C for AC, 105 °C for AI (R4). -/
def Otp.maxTj (otp : Otp) : Int := if otp.partCode = 2 then 1680 else 1600

/-- Default of an object, given what OTP holds and what the pins were sampled as. -/
def objDefault (otp : Otp) (pins : Pins) (i s : Nat) : Nat :=
  let node := 0x40 + pins.ga
  let h := i / 256
  if i = 0x1014 then 0x80 + node
  else if i = 0x1018 ∧ s = 3 then 0x00A10000 + otp.romRevision % 65536
  else if i = 0x1018 ∧ s = 4 then otp.serial
  else if i = 0x1200 ∧ s = 1 then 0x600 + node
  else if i = 0x1200 ∧ s = 2 then 0x580 + node
  else if 0x1400 ≤ i ∧ i ≤ 0x1403 ∧ s = 1 then 0x80000000 + 0x200 + 0x100 * (i - 0x1400) + node
  else if 0x1800 ≤ i ∧ i ≤ 0x1803 ∧ s = 1 then 0x80000000 + 0x180 + 0x100 * (i - 0x1800) + node
  else if i = 0x2000 ∧ s = 1 then 1
  else if i = 0x2001 ∧ s = 1 then node
  else if i = 0x2002 ∧ s = 1 then otp.partCode
  else if i = 0x2004 ∧ s = 1 then otp.nominalRate
  else if i = 0x2004 ∧ s = 2 then otp.dataRate
  else if i = 0x2100 ∧ s = 6 then pins.refclk
  else if i = 0x2290 ∧ s = 1 then otp.vcoreSetpoint
  else if i = 0x2290 ∧ s = 2 then otp.vcoreSetpoint * 230 / 1000
  else if i = 0x2503 ∧ s = 3 then (otp.maxTj - 80).toNat
  else if i = 0x2604 ∧ s = 1 then b2n otp.sigRequired
  else if i = 0x2604 ∧ s = 3 then otp.revoked % 4
  else if i = 0x2610 ∧ s = 1 then 1
  else if i = 0x2620 ∧ s = 3 then b2n otp.flashBoot
  else if i = 0x2620 ∧ s = 0xB then b2n otp.flashQuad
  else if 0x4E08 ≤ i ∧ i ≤ 0x4E0F ∧ s = 9 then (if i ≤ 0x4E0D then i - 0x4E07 else 0)
  else if i = 0x4E00 ∧ s = 1 then 0
  else if (h = 0x50 ∨ h = 0x51) ∧ s = 0xA then otp.bar4Log2
  else if h = 0x51 ∧ s = 0x21 then (i - 0x5100) / 4 + 1
  else match objInfo i s with
    | some o => if objAbsent i s then 0 else o.dflt
    | none => 0

end Sys2Proof.Machine
end

