-- ==== Sys2Proof/Machine/State.lean ====
section
/-! DEFINITION. The hub's state, its state after reset, and the reasons a step could stop. -/

namespace Sys2Proof.Machine

/-- The hub and its queue of waiting commands. Every object of the dictionary is `dict.objs` at its number, or
a view of the field that holds the block's own state. -/
structure State where
  clk : Clock := {}
  pins : Pins := {}
  otp : Otp := {}
  /-- device state (R44) -/
  dev : DeviceState := .muster
  aon : Aon := {}
  dict : Dict := {}
  can : Can := {}
  img : Image := {}
  cox : Cox := {}
  fabric : Fabric := {}
  /-- NIs by number -/
  nis : SMap NI := []
  clusters : SMap Cluster := []
  engines : SMap Engine := []
  eqs : SMap EventQ := []
  bridges : SMap Bridge := []
  boat : Boat := {}
  flt : Faults := {}
  pwr : Power := {}
  stw : Steward := {}
  /-- the model's own counter that makes each free value a fresh one -/
  free : Nat := 0
  /-- commands waiting, first in first out -/
  pending : List Instr := []
  deriving DecidableEq, Repr

/-- Reasons for the machine to stop. No command raises one: every fault of the hub is a message to its own
fault collector (R529) and so an effect on the state. -/
inductive Fault where
  /-- raised by no command; safe -/
  | none
  deriving DecidableEq, Repr

/-- Reasons to have no meaning for a command. -/
inductive Refusal where
  /-- raised by an arm of the dispatch for a command the model does not reach yet; safe -/
  | notModelled (mnemonic : String)
  deriving DecidableEq, Repr

/-- The hub right after a chip reset has ended (the Default columns of the object tables): in MUSTER with PD00
to PD02 on, Springhead at the boot script's first step, every object at its default, no command waiting. -/
def State.reset : State := {}

end Sys2Proof.Machine
end

