-- ==== Sys2Proof/Machine/Ops.lean ====
section
/-! DEFINITION. The operations every family uses: the object store and its counters, time, free values, places of
the parts, fault messages and the frames the hub sends on the management bus. -/

namespace Sys2Proof.Machine

/-- The answer of a command: a next state. The queue and what OTP holds are no command's to change. -/
def done (s t : State) : Host.Outcome State Fault Refusal :=
  .next { t with pending := s.pending, otp := s.otp }

/-! ### Free values -/

/-- A free bit, and the state that has used it. -/
def State.drawBit (s : State) : Bool × State := (Config.freeBit s.free, { s with free := s.free + 1 })
/-- A free number, and the state that has used it. -/
def State.drawNat (s : State) : Nat × State := (Config.freeNat s.free, { s with free := s.free + 1 })
/-- `n` free bytes, and the state that has used them. -/
def State.drawBytes (s : State) (n : Nat) : Bytes × State :=
  ((List.range n).map (fun j => Config.freeByte (s.free + j)), { s with free := s.free + n })

/-! ### The object store -/

/-- Stored value of a key. -/
def State.kv (s : State) (k : Nat) : Nat :=
  match sfind s.dict.objs k with
  | some v => v
  | none => objDefault s.otp s.pins (keyIdx k) (keySub k)

/-- Stores a value at a key; a default is not listed. -/
def State.setKv (s : State) (k v : Nat) : State :=
  let m := if v = objDefault s.otp s.pins (keyIdx k) (keySub k) then sdel s.dict.objs k else sins s.dict.objs k v
  { s with dict := { s.dict with objs := m } }

/-- Stored value of object i:sub. -/
def State.ob (s : State) (i sub : Nat) : Nat := s.kv (okey i sub)
/-- Stores a value in object i:sub. -/
def State.obSet (s : State) (i sub v : Nat) : State := s.setKv (okey i sub) v

/-- Width of a counter: its type's. -/
def counterWidth (i sub : Nat) : Nat :=
  match objInfo i sub with
  | some o => 8 * tySize o.ty
  | none => 32

/-- Adds n to a counter; it saturates. -/
def State.bumpBy (s : State) (i sub n : Nat) : State := s.obSet i sub (satAdd (counterWidth i sub) (s.ob i sub) n)
/-- Counts one event. -/
def State.bump (s : State) (i sub : Nat) : State := s.bumpBy i sub 1
/-- Raises a high-water mark. -/
def State.highWater (s : State) (i sub v : Nat) : State :=
  s.obSet i sub (min (max (s.ob i sub) v) (2 ^ counterWidth i sub - 1))

/-- Returns every stored key that a test selects to its default. -/
def State.forget (s : State) (p : Nat → Bool) : State :=
  { s with dict := { s.dict with objs := s.dict.objs.filter (fun e => ! p e.1) } }

/-- Returns sub-indices lo to hi of index i to their defaults. -/
def State.clearSubs (s : State) (i lo hi : Nat) : State :=
  s.forget (fun k => decide (keyIdx k = i) && decide (lo ≤ keySub k) && decide (keySub k ≤ hi))

/-! ### Parts by number -/

def State.ni (s : State) (n : Nat) : NI := sget {} s.nis n
def State.setNi (s : State) (n : Nat) (x : NI) : State := { s with nis := sput {} s.nis n x }
def State.modNi (s : State) (n : Nat) (f : NI → NI) : State := s.setNi n (f (s.ni n))
def State.clu (s : State) (k : Nat) : Cluster := sget {} s.clusters k
def State.setClu (s : State) (k : Nat) (x : Cluster) : State := { s with clusters := sput {} s.clusters k x }
def State.modClu (s : State) (k : Nat) (f : Cluster → Cluster) : State := s.setClu k (f (s.clu k))
def State.eng (s : State) (e : Nat) : Engine := sget {} s.engines e
def State.setEng (s : State) (e : Nat) (x : Engine) : State := { s with engines := sput {} s.engines e x }
def State.modEng (s : State) (e : Nat) (f : Engine → Engine) : State := s.setEng e (f (s.eng e))
def State.evq (s : State) (i : Nat) : EventQ := sget {} s.eqs i
def State.setEvq (s : State) (i : Nat) (x : EventQ) : State := { s with eqs := sput {} s.eqs i x }
def State.br (s : State) (b : Nat) : Bridge := sget {} s.bridges b
def State.setBr (s : State) (b : Nat) (x : Bridge) : State := { s with bridges := sput {} s.bridges b x }
def State.modBr (s : State) (b : Nat) (f : Bridge → Bridge) : State := s.setBr b (f (s.br b))
/-- Index of a bridge's objects (R477). -/
def brIdx (b : Nat) : Nat := if b < 2 then 0x5000 + b else 0x5100 + (b - 2)

/-- State of power domain d. -/
def State.domain (s : State) (d : Nat) : DomainState := sget .off s.pwr.dom d
/-- Whether a domain's objects answer (R55): ON, FENCING or DRAINING. -/
def State.answers (s : State) (d : Nat) : Bool :=
  match s.domain d with
  | .on => true | .fencing => true | .draining => true
  | _ => false

/-! ### Time -/

/-- Network time in FAB cycles (R117); in a step stroke it runs up to the boundary that ends it (R128). -/
def State.netCount (s : State) : Nat :=
  s.cox.seconds * 3072000000 + (s.cox.stroke + 1) * 2048 + s.cox.cycle - s.cox.strokeLen
/-- FAB cycle within the network second (R118). -/
def State.nsCycle (s : State) : Nat := s.netCount % 3072000000
/-- Nanoseconds of a network time in FAB cycles (R118). -/
def nsOfCount (n : Nat) : Nat := n / 3072000000 * 1000000000 + n % 3072000000 * 125 / 384
/-- Nanoseconds part of network time (R118). -/
def State.nanos (s : State) : Nat := s.nsCycle * 125 / 384
/-- Network time in ns. -/
def State.netNs (s : State) : Nat := nsOfCount s.netCount
/-- A timestamp (R120). -/
def State.stamp (s : State) : Nat := s.netNs % 2 ^ 48
/-- Strokes of network time since its zero. -/
def State.netStroke (s : State) : Nat := s.cox.seconds * 1500000 + s.cox.stroke
/-- AON clock ticks: 32 768 a second, 93 750 FAB cycles each. -/
def State.aonTicks (s : State) : Nat := s.clk.now / 93750

/-- Passes FAB cycles of time without a stroke boundary: network time moves within its stroke. -/
def State.passCycles (s : State) (n : Nat) : State :=
  { s with
    clk := { now := s.clk.now + n, fab := if s.cox.pll then s.clk.fab + n else s.clk.fab }
    cox := { s.cox with cycle := if s.cox.pll then min (s.cox.cycle + n) (s.cox.strokeLen - 1) else s.cox.cycle } }

/-- One FAB cycle of idle time (DESIGN CHOICE, log 1). -/
def State.tick (s : State) : State := s.passCycles 1

/-! ### The management matrix -/

/-- Target of the matrix that an object's accesses reach (R482), in the order of the rule's table. -/
def matrixTarget (i : Nat) : Nat :=
  let h := i / 256
  if h = 0x24 then 4 else if h = 0x22 ∨ h = 0x23 then 5 else if h = 0x21 then 6 else if i = 0x2620 then 7
  else if i = 0x2604 then 8 else if i = 0x2081 then 1 else if 0x30 ≤ h ∧ h ≤ 0x51 ∧ h ≠ 0x32 then 3 else 2

/-- Base address of a target: REMAP swaps the boot ROM and the staging SRAM (R482, R488). -/
def matrixBase (remap : Bool) (t : Nat) : Nat :=
  lget 0 [if remap then 0x1000000 else 0, if remap then 0 else 0x1000000, 0x2000000, 0x3000000, 0x4000000, 0x5000000, 0x6000000, 0x7000000, 0xF000000] t

/-- Bytes of address that a target takes (R482). -/
def matrixSize (t : Nat) : Nat := lget 0 [0x10000, 0x200000, 0x100000, 0x10000, 0x10000, 0x10000, 0x10000, 0x10000, 0x10000] t

/-- Where the flash controller's read window begins, and its bytes (R482). -/
def flashWindow : Nat := 0x8000000
def flashWindowSize : Nat := 0x1000000

/-- Target that takes a transaction of n bytes from an address on (R482, R488). -/
def matrixDecode (remap : Bool) (addr n : Nat) : Option Nat :=
  if flashWindow ≤ addr ∧ addr + n ≤ flashWindow + flashWindowSize then some 7
  else (List.range 9).find? (fun t => decide (matrixBase remap t ≤ addr ∧ addr + n ≤ matrixBase remap t + matrixSize t))

/-- Whether the path of R482 exists for a master, a target and a direction. -/
def matrixPath (debug : Bool) (master target : Nat) (write : Bool) : Bool :=
  match master with
  | 0 => ! write || (decide (target ≠ 0) && decide (target ≠ 8))
  | 1 => decide (target ≠ 0) && (! write || decide (target ≠ 8))
  | 2 => decide (target = 1 ∨ target = 2)
  | 3 => decide (target = 4) && write
  | _ => (debug && (! write || (decide (target ≠ 0) && decide (target ≠ 8)))) || (decide (target = 4) && ! write)

/-- The transaction that moves the first of n bytes from an address on: its beat size and beats. A burst is of 2 to 16 beats of 8
bytes and stays within 128 bytes (R485). -/
def matrixBeats (addr n : Nat) : Nat × Nat :=
  let burst := min (n / 8) ((128 - addr % 128) / 8)
  if addr % 8 = 0 ∧ 2 ≤ burst then (8, burst)
  else if addr % 8 = 0 ∧ 8 ≤ n then (8, 1)
  else if addr % 4 = 0 ∧ 4 ≤ n then (4, 1)
  else if addr % 2 = 0 ∧ 2 ≤ n then (2, 1)
  else (1, 1)

/-- The transactions that move n bytes, in ascending order (R485). -/
def matrixRuns (target : Nat) (write : Bool) (addr n : Nat) : Nat → List MatReq
  | 0 => []
  | fuel + 1 =>
    if n = 0 then []
    else
      let (size, beats) := matrixBeats addr n
      { target := target, write := write, addr := addr, size := size, beats := beats }
        :: matrixRuns target write (addr + size * beats) (n - size * beats) fuel

/-- A master asks for the transactions that move n bytes of a target; they wait behind those it asked for before (R484). Every
path of a master but JTAG exists for the accesses it makes (Laws, matrixPath_engine, matrixPath_springhead). Where the manual
does not give an object's address within its target, `off` is 0. What the access moves takes place with the command that asks,
so that the order of those commands is the order of R494 (DESIGN CHOICE, log 22). -/
def State.matrixAsk (s : State) (master target : Nat) (write : Bool) (off n : Nat) : State :=
  let runs := matrixRuns target write (matrixBase s.boat.remap target + off) n n
  { s with boat := { s.boat with asks := sput [] s.boat.asks master (sget [] s.boat.asks master ++ runs) } }

/-! ### Fault messages -/

/-- The 128 bits of a fault message (R532). -/
def FaultMsg.low (m : FaultMsg) : Nat :=
  ((m.source % 256) <<< 56) ||| ((m.unit % 64) <<< 50) ||| ((m.cls % 4) <<< 48) ||| (m.addr % 2 ^ 48)
def FaultMsg.high (m : FaultMsg) : Nat := ((m.time % 2 ^ 48) <<< 16) ||| (m.kind % 2 ^ 16)
/-- The message that two 64-bit halves spell. -/
def unpackFault (lo hi : Nat) : FaultMsg :=
  { time := field hi 63 16, kind := field hi 15 0, source := field lo 63 56, unit := field lo 55 50,
    cls := field lo 49 48, addr := field lo 47 0 }

/-- A FAULT_MSG packet to MP (R212, R275, R532). -/
def faultPacket (src : Nat) (m : FaultMsg) : Packet :=
  { lane := 7
    hdr := { opcode := 0x0C, src := src, fa := mkFa 0 43 0, short := true, len := 16,
             inl := leBytes m.low 8 ++ leBytes m.high 8 } }

/-- Places a message at the collector's input, which holds 64 (R545). A message that finds it full is dropped and
counted; INPUT_DROPPED, the collector's own message, is placed beside the 64 (DESIGN CHOICE, log 7). -/
def State.toCollector (s : State) (m : FaultMsg) (test : Bool := false) : State :=
  if s.flt.input.length < 64 then { s with flt := { s.flt with input := s.flt.input ++ [(m, test)] } }
  else
    let s := s.bump 0x2400 8
    let h := if test then s.flt.held else s.flt.held.filter (fun h => h ≠ (m.kind, m.source, m.unit))
    let s := { s with flt := { s.flt with held := h } }
    if s.flt.held.contains (0x0F02, 0x46, 0) then s
    else
      let m' : FaultMsg := { time := s.stamp, kind := 0x0F02, source := 0x46, unit := 0, cls := 2, addr := s.ob 0x2400 8 }
      { s with flt := { s.flt with input := s.flt.input ++ [(m', false)], held := s.flt.held ++ [(0x0F02, 0x46, 0)] } }

/-- Router input buffers, keyed (5·r + i)·8 + lane. -/
def bufKey (r i l : Nat) : Nat := (5 * r + i) * 8 + l

/-- A block raises a fault: once per kind, SOURCE and UNIT until the collector tells it that the fault is cleared
(R533). Blocks of PD01 and PD02 reach the collector directly (R529); an NI and its endpoint send a FAULT_MSG
packet; a router puts its packet into its own local L7 input, and router 44, which has none (R229), hands its message to the
collector (DESIGN CHOICE, log 8). -/
def State.raise (s : State) (kind cls source unit addr : Nat) (router : Bool := false) : State :=
  if s.flt.held.contains (kind, source, unit) then s
  else
    let m : FaultMsg := { time := s.stamp, kind := kind, source := source, unit := unit, cls := cls, addr := addr }
    let s := { s with flt := { s.flt with held := s.flt.held ++ [(kind, source, unit)] } }
    if source ≥ 0x40 ∨ (router ∧ source = 44) then s.toCollector m
    else if router then
      let f : Flit := { ft := .single, lane := 7, hdr := some (faultPacket source m).hdr }
      { s with fabric := { s.fabric with bufs := smod [] s.fabric.bufs (bufKey source 4 7) (· ++ [f]) } }
    else s.modNi source (fun x => { x with sendQ := x.sendQ ++ [{ pkt := faultPacket source m, cls := 4 }] })

/-! ### The management bus -/

/-- Node-ID (R62). -/
def State.nodeId (s : State) : Nat := 0x40 + s.pins.ga

/-- Sends a frame: nothing leaves the hub while it is off the bus or in STANDBY. -/
def State.sendFrame (s : State) (f : CanFrame) : State :=
  if s.can.busOff ∨ s.dev = .standby then s
  else { s with can := { s.can with out := s.can.out ++ [f] } }

/-- An SDO abort (R71). -/
def State.sdoAbort (s : State) (index sub code : Nat) : State :=
  s.sendFrame { id := 0x580 + s.nodeId, data := [0x80] ++ leBytes index 2 ++ leBytes sub 1 ++ leBytes code 4 }

/-- Object that a queued SDO request names; a segment belongs to the transfer in progress. -/
def State.sdoNames (s : State) (r : SdoReq) : Nat × Nat :=
  let now : Nat × Nat := match s.dict.sdo with
    | some x => (x.index, x.sub)
    | none => (0, 0)
  match r with
  | .initDownload i j _ _ => (i, j)
  | .initUpload i j => (i, j)
  | .segDownload _ _ _ => now
  | .segUpload _ => now

/-- A segment of an SDO transfer. -/
def DictReq.segment : DictReq → Bool
  | .sdo (.segDownload _ _ _) => true
  | .sdo (.segUpload _) => true
  | .sdo (.initDownload _ _ _ _) => false
  | .sdo (.initUpload _ _) => false
  | .host _ _ => false

/-- Rank of a request's path among the requests of one MGT cycle: CAN, HB0, HB1 (R98). -/
def DictReq.rank : DictReq → Nat
  | .sdo _ => 1
  | .host .can _ => 1
  | .host .hb0 _ => 2
  | .host .hb1 _ => 3

/-- The MGT cycle under way: 250 of them in 3072 nominal FAB cycles (R9). -/
def State.mgtCycle (s : State) : Nat := s.clk.now * 250 / 3072

/-- How many requests at the end of the queue came in the MGT cycle under way. -/
def State.freshCount (s : State) : Nat := if s.dict.cameAt = s.mgtCycle then min s.dict.fresh s.dict.queue.length else 0

/-- The queue with a request more: behind all that came before, and among those of its own MGT cycle in the order CAN,
HB0, HB1 (R98; DEDUCED, log 113). -/
def State.queueWith (s : State) (r : DictReq) : List DictReq :=
  let n := s.dict.queue.length - s.freshCount
  let now := s.dict.queue.drop n
  s.dict.queue.take n ++ now.filter (fun q => decide (q.rank ≤ r.rank)) ++ [r] ++ now.filter (fun q => decide (r.rank < q.rank))

/-- A request enters the queue (R98). -/
def State.queueRequest (s : State) (r : DictReq) : State :=
  let s := { s with dict := { s.dict with queue := s.queueWith r, cameAt := s.mgtCycle, fresh := s.freshCount + 1 } }
  s.highWater 0x2011 2 s.dict.queue.length

/-- RST_N empties the request queue (R105): SDO requests and the transfer in progress are aborted, host requests are
discarded. -/
def State.dropRequests (s : State) : State :=
  let one (s : State) (r : DictReq) : State :=
    match r with
    | .sdo q => s.sdoAbort (s.sdoNames q).1 (s.sdoNames q).2 0x08000022
    | .host _ _ => s
  let s := match s.dict.sdo with
    | some x => if s.dict.queue.any DictReq.segment then s
                else s.sdoAbort x.index x.sub 0x08000022
    | none => s
  let s := s.dict.queue.foldl one s
  { s with dict := { s.dict with queue := [], sdo := none } }

/-- An uncleared fault of the list or of the pins. -/
def FEntry.uncleared (e : FEntry) : Bool := decide (e.state ≠ .free)
/-- Uncleared faults, list and pins together. -/
def State.uncleared (s : State) : List FEntry :=
  (s.flt.list.map (·.2) ++ s.flt.pins.map (·.2)).filter FEntry.uncleared

/-- Conditions behind EMCYs that are not cleared (R80, R81): error passive, bus-off, SYNC loss, heartbeat timeouts,
fallen-back outputs, uncleared faults, a retained record that is held. -/
def State.emcyCondition (s : State) : Bool :=
  s.can.errPassive || s.can.busOff || s.can.syncLost || ! s.can.timedOut.isEmpty
    || decide (s.can.outState = .fallenBack) || ! s.uncleared.isEmpty || s.aon.retainedHold

/-- 0x1001 (R81). -/
def State.errorRegister (s : State) : Nat :=
  b2n s.emcyCondition
    + 16 * b2n (s.can.errPassive || s.can.busOff || s.can.syncLost || ! s.can.timedOut.isEmpty)
    + 128 * b2n (s.uncleared.any (fun e => decide (e.msg.cls ≥ 2)))

/-- The frame of an emergency message (R80): the error register in it is that of the instant at which it is sent, and bit 31 of
COB_ID_EMCY does not silence it (DEDUCED, log 116). -/
def State.emcyFrame (s : State) (e : Emcy) : CanFrame :=
  { id := s.ob 0x1014 0 % 2048
    data := leBytes e.code 2 ++ [BitVec.ofNat 8 s.errorRegister] ++ padTo 5 e.info }

/-- Sends an emergency message, or lets it wait for the inhibit time of 0x1015 (R80) or for the bus. While a condition
stands, its end is still to be reported. -/
def State.emcy (s : State) (code : Nat) (info : Bytes) : State :=
  let e : Emcy := { code := code, info := info }
  let rep : Bool := decide (code ≠ 0) && (s.can.reported || s.emcyCondition)
  if s.can.inhibit ∨ s.can.busOff then { s with can := { s.can with emcyQ := s.can.emcyQ ++ [e], reported := rep } }
  else
    let s := s.sendFrame (s.emcyFrame e)
    { s with can := { s.can with inhibit := decide (s.ob 0x1015 0 ≠ 0), reported := rep } }

/-- Sends EMCY 0x0000 once every condition behind earlier EMCYs has cleared (R80). -/
def State.emcyCleared (s : State) : State :=
  if s.can.reported ∧ ¬ s.emcyCondition then s.emcy 0 [] else s

/-- An EMCY of the collector (R541, R542): not sent, then or later, before the first boot-up message, but for the
two that follow it. -/
def State.collectorEmcy (s : State) (code : Nat) (info : Bytes) (waits : Bool := false) : State :=
  if s.ob 0x2400 6 = 0 then s
  else if s.can.bootUp then s.emcy code info
  else if waits then { s with can := { s.can with afterBoot := s.can.afterBoot ++ [{ code := code, info := info }] } }
  else s

/-- The boot-up message, and after the first one the EMCYs that wait for it (R68, R542). -/
def State.bootUpMessage (s : State) : State :=
  let s := s.sendFrame { id := 0x700 + s.nodeId, data := [0] }
  if s.can.bootUp then s
  else
    let q := s.can.afterBoot
    let s := { s with can := { s.can with bootUp := true, afterBoot := [] } }
    q.foldl (fun s e => s.emcy e.code e.info) s

/-- NMT state as a number (R63). -/
def nmtNum : NmtState → Nat
  | .initialisation => 0 | .stopped => 4 | .operational => 5 | .preOperational => 0x7F
/-- Device state as a number (R44). -/
def devNum : DeviceState → Nat
  | .standby => 0 | .muster => 1 | .moored => 2 | .launch => 3 | .afloat => 4 | .easy => 5 | .halted => 6
/-- Path as a number (R93). -/
def pathNum : Path → Nat
  | .can => 1 | .hb0 => 2 | .hb1 => 3
/-- 0x2010:01. -/
def State.ownerNum (s : State) : Nat := match s.dict.owner with | some p => pathNum p | none => 0
/-- Bridge of a host path. -/
def pathBridge : Path → Option Nat
  | .can => none | .hb0 => some 0 | .hb1 => some 1

end Sys2Proof.Machine
end

