-- ==== Sys2Proof/Machine/Routes.lean ====
section
/-! DEFINITION. Places of the mesh and the paths through it: lane buffers, routes and link states by number, partition keys, the
routing rule of each lane, the records of flows and circuits (chapters 04 to 06). Output and input numbers are 0 N, 1 E, 2 S,
3 W, 4 local. -/

namespace Sys2Proof.Machine

/-- Depth of a lane buffer (R156). -/
def laneDepth (l : Nat) : Nat := if l = 7 then 8 else 16

def State.dir (s : State) (r p : Nat) : LinkDir := sget {} s.fabric.dirs (4 * r + p)
def State.setDir (s : State) (r p : Nat) (d : LinkDir) : State :=
  { s with fabric := { s.fabric with dirs := sput {} s.fabric.dirs (4 * r + p) d } }
def State.bond (s : State) (r p : Nat) : Bond := sget {} s.fabric.bonds (bondKey r p)
def State.setBond (s : State) (r p : Nat) (b : Bond) : State :=
  { s with fabric := { s.fabric with bonds := sput {} s.fabric.bonds (bondKey r p) b } }
/-- State of the link at port p of router r; ABSENT where there is no port (R181). -/
def State.linkState (s : State) (r p : Nat) : LinkState := if hasPort r p then (s.bond r p).state else .absent

def linkNum : LinkState → Nat
  | .absent => 0 | .off => 1 | .init => 2 | .up => 3 | .retrain => 4 | .down => 5

/-- The lane buffer of an input: flits, oldest first. -/
def State.buf (s : State) (r i l : Nat) : List Flit := sget [] s.fabric.bufs (bufKey r i l)
def State.setBuf (s : State) (r i l : Nat) (b : List Flit) : State :=
  { s with fabric := { s.fabric with bufs := sput [] s.fabric.bufs (bufKey r i l) b } }
/-- The route of the packet at the front of an input buffer. -/
def State.route (s : State) (r i l : Nat) : Option Route := sfind s.fabric.routes (bufKey r i l)
def State.setRoute (s : State) (r i l : Nat) (x : Option Route) : State :=
  { s with fabric := { s.fabric with routes := match x with
                                               | some v => sins s.fabric.routes (bufKey r i l) v
                                               | none => sdel s.fabric.routes (bufKey r i l) } }
def State.arb (s : State) (r o : Nat) : OutArb := sget {} s.fabric.outs (5 * r + o)
def State.setArb (s : State) (r o : Nat) (a : OutArb) : State :=
  { s with fabric := { s.fabric with outs := sput {} s.fabric.outs (5 * r + o) a } }

/-- Counter f of port p of router r (R187). -/
def State.linkCount (s : State) (r p f n : Nat) : State := s.bumpBy (0x3000 + r) (16 * p + f) n

def isPacketFlit (f : Flit) : Bool :=
  match f.ft with
  | .head => true | .body => true | .tail => true | .single => true
  | _ => false
def isHeadFlit (f : Flit) : Bool := decide (f.ft = .head ∨ f.ft = .single)
def isLastFlit (f : Flit) : Bool := decide (f.ft = .tail ∨ f.ft = .single)
/-- Sequenced flits (R153). -/
def isSequenced (f : Flit) : Bool := decide (f.ft ≠ .idle)

/-- Lanes that carry traffic over the mesh in each device state (R44, R49, R193). In EASY the flits of L0 and L1 that are in the
mesh when SC0 and SC1 stop still move (DEDUCED, log 100); what an NI injects then is State.laneRuns's matter. -/
def State.laneCarries (s : State) (l : Nat) : Bool :=
  match s.dev with
  | .standby => false
  | .muster => false
  | .moored => decide (l = 7)
  | .launch => decide (2 ≤ l)
  | .afloat => true
  | .easy => true
  | .halted => decide (l = 7)

/-! ### Partition keys -/

/-- The pair that governs a key at input i of router r: the lowest-numbered VALID match (R219, R231). -/
def State.governing (s : State) (r i key : Nat) : Option Nat :=
  (List.range 8).findSome? (fun j =>
    let v := sget 0 s.fabric.act.pairs (40 * r + 8 * i + j)
    if bitAt v 63 ∧ key &&& field v 31 16 = field v 47 32 &&& field v 31 16 then some v else none)

/-- Whether router r lies in the rectangle of a pair (R221). -/
def inRect (v r : Nat) : Bool :=
  decide (field v 59 57 ≤ xOf r) && decide (xOf r ≤ field v 53 51) && decide (field v 56 54 ≤ yOf r) && decide (yOf r ≤ field v 50 48)

/-! ### Routing rules -/

/-- XY (R195). -/
def xyOut (r d : Nat) : Nat :=
  if xOf r < xOf d then 1 else if xOf d < xOf r then 3
  else if yOf r < yOf d then 2 else if yOf d < yOf r then 0 else 4

/-- L7 (R196): Y first toward MP. -/
def l7Out (r d : Nat) : Nat :=
  if d = 43 then
    (if yOf r < 5 then 2 else if xOf r < 3 then 1 else if 3 < xOf r then 3 else 4)
  else xyOut r d

/-- The candidate set of R201; `src` says that the router's column is the packet's source column. -/
def oddEven (r d : Nat) (src : Bool) : List Nat :=
  let ydir := if yOf d > yOf r then 2 else 0
  if xOf d = xOf r ∧ yOf d = yOf r then [4]
  else if xOf d = xOf r then [ydir]
  else if xOf d > xOf r then
    if yOf d = yOf r then [1]
    else
      (if xOf r % 2 = 1 ∨ src then [ydir] else []) ++ (if xOf d % 2 = 1 ∨ xOf d - xOf r ≠ 1 then [1] else [])
  else
    [3] ++ (if yOf d ≠ yOf r ∧ xOf r % 2 = 0 then [ydir] else [])

/-- SC3_ALLOW of router r for destination d. -/
def State.allow (s : State) (r d : Nat) : Nat := sget 0xF s.fabric.act.allow (48 * r + d)
/-- EXCLUDE bit of router r, output o, destination d (R207). -/
def State.excluded (s : State) (r o d : Nat) : Bool := bitAt (s.ob (0x3100 + r) (0xA0 + o)) d

/-- The permitted set of R202; `rect` is the governing pair in CONFINED mode. -/
def State.permitted (s : State) (r d : Nat) (src : Bool) (rect : Option Nat) : List Nat :=
  (oddEven r d src).filter (fun o =>
    decide (o = 4) || (bitAt (s.allow r d) o && ! s.excluded r o d && decide (s.linkState r o = .up)
      && (match rect with
         | some v => inRect v (neighbour r o)
         | none => true)))

/-- The value of an object that a router's choice in this FAB cycle uses. -/
def State.seenOb (s : State) (i sub : Nat) : Nat :=
  match sfind s.fabric.late (okey i sub) with
  | some (t, v) => if s.clk.fab < t then v else s.ob i sub
  | none => s.ob i sub

/-- Stores a value that choices see from a FAB count on. -/
def State.putLate (s : State) (i sub v from_ : Nat) : State :=
  ({ s with fabric := { s.fabric with late := sins s.fabric.late (okey i sub) (from_, s.seenOb i sub) } }).obSet i sub v

/-- FAB count of the next slot boundary (R119). -/
def State.nextSlot (s : State) : Nat := s.clk.fab + min (8 - s.cox.cycle % 8) (s.cox.strokeLen - s.cox.cycle)

/-- Cost of an output (R203): the average as it was before an update in this FAB cycle (R204), and the bias that took effect
at the last slot boundary (R206). -/
def State.cost (s : State) (r o l : Nat) : Nat :=
  s.seenOb (0x3100 + r) (0x90 + 2 * o + (l - 4)) + s.seenOb (0x3100 + r) (0x88 + 2 * o + (l - 4))

/-- The output an SC3 packet takes (R203): lower cost, on equal cost E or W. -/
def State.adaptive (s : State) (r l : Nat) (a : List Nat) : Option Nat :=
  match a with
  | [] => none
  | [o] => some o
  | o1 :: o2 :: _ =>
    let (x, y) := if o1 = 1 ∨ o1 = 3 then (o1, o2) else (o2, o1)
    if x = 4 ∨ y = 4 then some 4
    else if s.cost r y l < s.cost r x l then some y else some x

/-- The output that an SC3 packet at input i of router r takes now, if it may take any (R202, R203). -/
def State.sc3Out (s : State) (r i l : Nat) (h : Header) : Option Nat :=
  let rect := if s.fabric.act.confined then s.governing r i h.pkey else none
  s.adaptive r l (s.permitted r (faTarget h.fa) (decide (xOf r = xOf h.src)) rect)

/-- Branches of a mask tree at router r (R216): `dir` is the direction of travel in a column branch. -/
def maskTree (r src mask : Nat) (dir : Nat) : List Nat :=
  let x := xOf r
  let y := yOf r
  let member (a b : Nat) : Bool := bitAt mask (8 * b + a)
  let anyCol (p : Nat → Bool) : Bool := (List.range 48).any (fun n => p (xOf n) && bitAt mask n)
  let inCol (p : Nat → Bool) : Bool := (List.range 6).any (fun b => p b && member x b)
  let outs :=
    if y = yOf src then
      (if x ≥ xOf src ∧ anyCol (fun c => decide (c > x)) then [1] else [])
        ++ (if x ≤ xOf src ∧ anyCol (fun c => decide (c < x)) then [3] else [])
        ++ (if inCol (fun b => decide (b < y)) then [0] else [])
        ++ (if inCol (fun b => decide (b > y)) then [2] else [])
    else if dir = 0 then (if inCol (fun b => decide (b < y)) then [0] else [])
    else (if inCol (fun b => decide (b > y)) then [2] else [])
  outs ++ (if member x y then [4] else [])

/-- Hops of a compiled path from its start: router and output of each (R241, R251). -/
def pathHops : Nat → Nat → Nat → List (Nat × Nat)
  | _, _, 0 => []
  | r, path, h + 1 => (r, path % 4) :: pathHops (neighbour r (path % 4)) (path / 4) h

/-- Fields of an SC0 flow record (R241). -/
def flowType (v : Nat) : Nat := field v 31 30
def flowMcast (v : Nat) : Bool := bitAt v 29
def flowSrc (v : Nat) : Nat := field v 27 22
def flowDst (v : Nat) : Nat := field v 21 16
def flowFlits (v : Nat) : Nat := field v 15 12
def flowPair (v : Nat) : Nat := field v 9 0
def flowT0 (v : Nat) : Nat := 8 * field v 63 56 + field v 55 53
def flowHops (v : Nat) : Nat := field v 52 49
def flowPath (v : Nat) : Nat := field v 87 64
/-- Fields of a circuit record (R251). -/
def circDefined (v : Nat) : Bool := decide (field v 31 30 = 1)
def circMcast (v : Nat) : Bool := bitAt v 29
def circSrc (v : Nat) : Nat := field v 27 22
def circDst (v : Nat) : Nat := field v 21 16
def circHops (v : Nat) : Nat := field v 15 12
def circFirst (v : Nat) : Nat := field v 63 56
def circWin (v : Nat) : Nat := field v 55 48
def circPath (v : Nat) : Nat := field v 87 64

/-- Group g of the running tables: kind, row or column, members (R227). -/
def State.group (s : State) (g : Nat) : Nat := sget 0 s.fabric.act.groups g

/-- Outputs that a ROW or COLUMN packet from router src takes at router r, toward every member beyond, and the local
copy (R214, R250). -/
def rowColOuts (r src mask kind : Nat) : List Nat :=
  let beyond (o : Nat) : Bool := (List.range 48).any (fun n => bitAt mask n &&
    (match o with
     | 1 => decide (yOf n = yOf r ∧ xOf n > xOf r)
     | 3 => decide (yOf n = yOf r ∧ xOf n < xOf r)
     | 2 => decide (xOf n = xOf r ∧ yOf n > yOf r)
     | _ => decide (xOf n = xOf r ∧ yOf n < yOf r)))
  let pos := if kind = 2 then [1, 3] else [2, 0]
  let ok (o : Nat) : Bool :=
    match o with
    | 1 => decide (xOf r ≥ xOf src) | 3 => decide (xOf r ≤ xOf src)
    | 2 => decide (yOf r ≥ yOf src) | _ => decide (yOf r ≤ yOf src)
  (pos.filter (fun o => ok o && beyond o)) ++ (if bitAt mask r then [4] else [])

/-- The record of the flow or circuit that a packet of L0 or L1 names. -/
def State.planOf (s : State) (l : Nat) (h : Header) : Nat := if l = 0 then sget 0 s.fabric.act.flows h.flow else sget 0 s.fabric.act.circuits h.flow

/-- Whether a packet of L0 or L1 belongs to a multicast flow or circuit. -/
def State.planMcast (s : State) (l : Nat) (h : Header) : Bool := if l = 0 then flowMcast (s.planOf l h) else circMcast (s.planOf l h)

/-- Members that a ROW or COLUMN packet goes to: those of its group but for its initiator (R215, R269). -/
def State.planMembers (s : State) (l : Nat) (h : Header) : Nat :=
  clrBitN (field (s.group (if l = 0 then flowDst (s.planOf l h) else circDst (s.planOf l h))) 47 0) h.src

/-- Outputs of a packet on a compiled path (R199, R250): the hop of its flow or circuit at this router. -/
def State.compiledOuts (s : State) (r l : Nat) (h : Header) : List Nat :=
  let v := s.planOf l h
  if s.planMcast l h then
    rowColOuts r (if l = 0 then flowSrc v else circSrc v) (s.planMembers l h) (field (s.group (if l = 0 then flowDst v else circDst v)) 63 62)
  else
    let hops := if l = 0 then pathHops (flowSrc v) (flowPath v) (flowHops v) else pathHops (circSrc v) (circPath v) (circHops v)
    match hops.find? (fun x => x.1 = r) with
    | some x => [x.2]
    | none => [4]

end Sys2Proof.Machine
end

