-- ==== Sys2Proof/Machine/Links.lean ====
section
/-! DEFINITION. Links: flits, credits, sequence numbers, replay, retrain and link states (chapter 04). A link
direction is keyed 4·r + p by its sending router and port; a bidirectional link by its E or S direction. -/

namespace Sys2Proof.Machine

/-- Removes n flits from the front of an input buffer and owes their credits to the sender (R158). The local
input's credits are its free places. -/
def State.popFlits (s : State) (r i l n : Nat) : State :=
  let b := s.buf r i l
  let s := s.setBuf r i l (b.drop n)
  if i < 4 ∧ hasPort r i then
    let q := neighbour r i
    let d := s.dir q (opposite i)
    s.setDir q (opposite i) { d with owed := smod 0 d.owed l (· + min n b.length) }
  else s

/-- Flits of the packet at the front of a buffer that are present, up to its last. -/
def packetSpan : List Flit → Nat
  | [] => 0
  | f :: rest => if isLastFlit f then 1 else 1 + packetSpan rest
/-- Whether the packet at the front is present to its last flit. -/
def packetWhole (b : List Flit) : Bool := b.any isLastFlit

/-- Discards the packet at the front of an input buffer whole: what has come leaves now, and what is still to come
is discarded as it comes. -/
def State.discardPacket (s : State) (r i l : Nat) : State :=
  let b := s.buf r i l
  let s := s.popFlits r i l (packetSpan b)
  if packetWhole b then s.setRoute r i l none
  else s.setRoute r i l (some { drop := true })

/-- The flits of a buffer, packet by packet; the last may be incomplete. -/
def splitPackets (cur : List Flit) : List Flit → List (List Flit)
  | [] => if cur.isEmpty then [] else [cur.reverse]
  | f :: rest => if isLastFlit f then (f :: cur).reverse :: splitPackets [] rest else splitPackets (f :: cur) rest

/-- Puts a flit into an input buffer; a packet that is being discarded takes it with it. -/
def State.pushFlit (s : State) (r i l : Nat) (f : Flit) : State :=
  let dropping := match s.route r i l with
    | some x => x.drop
    | none => false
  let s := s.setBuf r i l (s.buf r i l ++ [{ f with arr := s.clk.fab, inj := 0 }])
  if dropping then
    let s := s.popFlits r i l 1
    if isLastFlit f then s.setRoute r i l none else s
  else s

/-! ### States of a link -/

/-- A link changes state; both ends note the time (0x3000+r:0D). -/
def State.linkTo (s : State) (r p : Nat) (x : LinkState) : State :=
  let s := s.setBond r p { s.bond r p with state := x }
  let s := s.obSet (0x3000 + r) (16 * p + 13) s.stamp
  s.obSet (0x3000 + neighbour r p) (16 * opposite p + 13) s.stamp

/-- Completes with zero data flits a packet whose HEAD crossed a link that went down before its TAIL (R184): the
last packet of the input buffer, or the rest of the one that is leaving it. -/
def completePacket (b : List Flit) (rt : Option Route) : List Flit :=
  let tailOpen := match b.getLast? with
    | some f => ! isLastFlit f
    | none => match rt with
      | some x => ! x.drop && decide (x.hdr.dflits > 0)
      | none => false
  if ! tailOpen then b
  else
    let pre := b.reverse.takeWhile (fun f => ! isLastFlit f)
    let hd := match pre.find? isHeadFlit with
      | some f => f.hdr.getD {}
      | none => match rt with
        | some x => x.hdr
        | none => {}
    let gone := match pre.find? isHeadFlit with
      | some _ => 0
      | none => match rt with
        | some x => x.sent.foldl (fun a e => max a e.2) 0
        | none => 0
    let have' := gone + pre.length
    let lack := hd.dflits + 1 - have'
    b ++ (List.range lack).map (fun j =>
      { ft := if j + 1 = lack then .tail else .body, lane := (match b.head? with | some f => f.lane | none => 0),
        data := List.replicate 64 0, taint := true })

/-- Whether a replay entry has not been accepted yet at the other end. -/
def LinkDir.unaccepted (d : LinkDir) (f : Flit) : Bool := decide ((f.seq + 256 - d.expected) % 256 < 128)

/-- Packets that lie whole in the replay buffer and have not been accepted at the other end: a link that goes down loses
them (R183). -/
def LinkDir.lostPackets (d : LinkDir) : Nat :=
  ((List.range 8).map (fun l =>
    let fs := d.replay.filter (fun f => isPacketFlit f && decide (f.lane = l) && d.unaccepted f)
    ((fs.dropWhile (fun f => ! isHeadFlit f)).filter isLastFlit).length)).sum

/-- What the end of a link direction loses when the link goes down (R183, R184): its sender at (r, p) discards the
replay buffer and the packets that wait for the link, but for SC3 packets that have a permitted alternative; its receiver
completes the packets that were half across, and takes none more of a packet that it is discarding. -/
def State.dirDown (s : State) (r p : Nat) : State :=
  let s := s.linkCount r p 9 (s.dir r p).lostPackets
  let s := s.setDir r p { s.dir r p with wire := [], replay := [], replayPos := none, rrq := false, oldest := 0, fifth := none, lastReplay := none, priorReplay := none, byTimer := none }
  let s := forEach ((List.range 5).flatMap (fun i => (List.range 8).map (fun l => (i, l)))) s (fun s il =>
    match s.route r il.1 il.2 with
    | none => s
    | some x =>
      if x.drop ∨ ¬ x.outs.contains p then s
      else if x.multi then
        let x' := { x with outs := without x.outs p, granted := without x.granted p }
        let s := s.bump (0x3100 + r) 0xA8
        if x'.outs.isEmpty then s.discardPacket r il.1 il.2 else s.setRoute r il.1 il.2 (some x')
      else if (il.2 = 4 ∨ il.2 = 5) ∧ sget 0 x.sent p = 0 ∧ (s.sc3Out r il.1 il.2 x.hdr).isSome then s.setRoute r il.1 il.2 none
      else (s.linkCount r p 9 1).discardPacket r il.1 il.2)
  let s := s.setArb r p { s.arb r p with hold := [] }
  let q := neighbour r p
  let i := opposite p
  forEach (List.range 8) s (fun s l =>
    let b := completePacket (s.buf q i l) (s.route q i l)
    let s := match s.route q i l with
      | some x => if x.drop then s.setRoute q i l none else s
      | none => s
    s.setBuf q i l (b.map (fun f => { f with lane := l })))

/-- A link enters DOWN (R183 to R185); the fault is the one U fault of the link. -/
def State.linkDown (s : State) (r p : Nat) (fault : Bool) : State :=
  let s := s.linkTo r p .down
  let s := s.setBond r p { s.bond r p with planned := false, urgent := false }
  let s := (s.dirDown r p).dirDown (neighbour r p) (opposite p)
  if fault then s.raise 0x0202 2 (bondKey r p / 4) (bondKey r p % 4) 0 true else s

/-- A retrain starts (R173). -/
def State.retrainStart (s : State) (r p : Nat) (urgent : Bool) : State :=
  let s := s.linkTo r p .retrain
  let s := s.setDir r p { s.dir r p with fifth := none }
  let s := s.setDir (neighbour r p) (opposite p) { s.dir (neighbour r p) (opposite p) with fifth := none }
  s.setBond r p { s.bond r p with planned := false, urgent := urgent }

/-- A forced retrain becomes due (R170, R179, R180). -/
def State.forcedRetrain (s : State) (r p : Nat) : State :=
  let b := s.bond r p
  if (b.forced.filter (fun t => decide (s.clk.fab - t < 3072000000))).length ≥ 2 then s.linkDown r p true
  else
    let s := s.setBond r p { b with forced := (b.forced ++ [s.clk.fab]).drop (b.forced.length - 1) }
    let s := s.linkCount r p 8 1
    let s := s.raise 0x0201 1 r p 0 true
    s.retrainStart r p true

/-- Whether a replay has started in a FAB cycle already (R191). -/
def LinkDir.replayedAt (d : LinkDir) (now : Nat) : Bool := d.lastReplay.any (fun x => decide (x.2 = now)) && d.byTimer.isSome

/-- Takes one event back from a counter of a port; a saturated counter stays. -/
def State.linkUncount (s : State) (r p f : Nat) : State :=
  let v := s.ob (0x3000 + r) (16 * p + f)
  if v = 0xFFFFFFFF then s else s.obSet (0x3000 + r) (16 * p + f) (v - 1)

/-- Counter field of a replay's cause: TIMER_REPLAYS or REQUEST_REPLAYS (R187). -/
def replayField (timer : Bool) : Nat := if timer then 6 else 5

/-- A replay becomes due at the sender (r, p) of a link that is UP (R168 to R170): from the oldest entry, or at the fifth of
one entry a forced retrain. At most one starts in a FAB cycle, and one that a request asks for as well as the timer counts
as a request replay (R191). A fifth one that the timer asks for waits for the ACK of its FAB cycle, which comes first (R191). -/
def State.startReplay (s : State) (r p : Nat) (timer : Bool) : State :=
  let d := s.dir r p
  if s.linkState r p ≠ .up then s
  else match d.replay with
  | [] => s
  | f :: _ =>
    if d.replayedAt s.clk.fab then
      (if d.byTimer = some true ∧ ¬ timer then ((s.setDir r p { d with byTimer := some false }).linkUncount r p 6).linkCount r p 5 1 else s)
    else if d.oldest ≥ 4 then (if timer then s.setDir r p { d with fifth := some s.clk.fab } else s.forcedRetrain r p)
    else
      (s.setDir r p { d with replayPos := some 0, lastReplay := some (f.seq, s.clk.fab), priorReplay := d.lastReplay, byTimer := some timer,
                             oldest := d.oldest + 1 }).linkCount r p (replayField timer) 1

/-- The forced retrain of a fifth replay starts (R170), once the FAB cycle in which the timer asked for it is over, or, with
`now`, once its ACK has come or has not. -/
def State.settleFifth (s : State) (r p : Nat) (now : Bool) : State :=
  match (s.dir r p).fifth with
  | some t => if now ∨ t < s.clk.fab then s.forcedRetrain r p else s
  | none => s

/-- A cumulative acknowledgement at the sender (r, p) (R166). In the FAB cycle in which a replay starts it comes first: the
replay begins after it, or does not take place when it empties the buffer (R191). -/
def State.ackSender (s : State) (r p ack : Nat) : State :=
  let d := s.dir r p
  match d.replay.findIdx? (fun f => f.seq = ack) with
  | none => s
  | some j =>
    let left := d.replay.drop (j + 1)
    let d' := { d with replay := left, oldest := 0, fifth := none, replayPos := if left.isEmpty then none else d.replayPos.map (fun x => x - (j + 1)) }
    if d.fifth = some s.clk.fab then (s.setDir r p d').startReplay r p true
    else if d.replayedAt s.clk.fab ∧ d.replayPos = some 0 then
      match d'.replay with
      | [] => (s.setDir r p { d' with lastReplay := d.priorReplay, byTimer := none }).linkUncount r p (replayField (d.byTimer = some true))
      | f :: _ => s.setDir r p { d' with lastReplay := some (f.seq, s.clk.fab), oldest := 1 }
    else s.setDir r p d'

/-- A replay request at the sender (r, p) (R168), held against the last replay started before this FAB cycle. -/
def State.requestReplay (s : State) (r p : Nat) : State :=
  let d := s.dir r p
  match d.replay with
  | [] => s
  | f :: _ =>
    match if d.replayedAt s.clk.fab then d.priorReplay else d.lastReplay with
    | some (q, t) => if q ≠ f.seq ∨ s.clk.fab - t ≥ 48 then s.startReplay r p false else s
    | none => s.startReplay r p false

/-- Credits come back to the sender (r, p) for a lane (R157, R160). -/
def State.creditBack (s : State) (r p l n : Nat) : State :=
  let d := s.dir r p
  s.setDir r p { d with used := smod 0 d.used l (· - n) }

/-- A good flit at the receiving end of link r.p (R164 to R167). One whose RRQ takes the link DOWN (R180) is lost with it. At
the next router's output an SC0 flit is due 5 cycles later (R242). -/
def State.goodFlit (s : State) (r p : Nat) (f : Flit) : State :=
  let q := neighbour r p
  let i := opposite p
  let s := s.ackSender q i f.ack
  let s := if f.rrq then s.requestReplay q i else s
  if ¬ isSequenced f ∨ s.linkState r p = .down then s
  else
    let d := s.dir r p
    if f.seq = d.expected then
      let s := s.setDir r p { d with expected := (d.expected + 1) % 256, rrq := false }
      let s := s.creditBack q i f.crlane f.crcnt
      if isPacketFlit f then s.pushFlit q i f.lane { f with crlane := 0, crcnt := 0, ack := 0, rrq := false, seq := 0, due := f.due + 5 } else s
    else
      let behind := (d.expected + 256 - f.seq) % 256
      if 1 ≤ behind ∧ behind ≤ 128 then s.linkCount q i 4 1
      else s.setDir r p { d with rrq := true }

/-- What noise does to a flit (R154, R155): damaged or good, and whether a code word of it was corrected (R172). -/
inductive Seen where
  | damaged (corrected : Bool)
  | good (f : Flit) (corrected : Bool)
  deriving DecidableEq, Repr

/-- Error bits in quarter 0 add up with injected ones. Three or more lie beyond the code (R154): the flit is then
damaged or passes corrected, which a free bit decides; and of a flit that noise carries beyond the code, a free bit says whether
a code word counted as corrected (R172; DEDUCED, log 93). -/
def seeFlit (f : Flit) (n : Noise) (free : Bool) : Seen :=
  match n with
  | .beyond none => .damaged free
  | .beyond (some g) => .good g free
  | .bits a b c d =>
    let x := a.val + f.inj
    let corrected : Bool := decide (x = 1 ∨ b.val = 1 ∨ c.val = 1 ∨ d.val = 1)
    if b.val = 2 ∨ c.val = 2 ∨ d.val = 2 ∨ x = 2 then .damaged corrected
    else if x ≥ 3 then (if free then .damaged corrected else .good f true)
    else .good f corrected

/-- Bytes of payload in the data flits of a packet. -/
def flitsPayload (fs : List Flit) : Bytes := fs.flatMap (fun f => padTo 64 f.data)

/-- The whole packet that a run of flits carries (R270, R31); a tainted flit poisons it (R163, R184). -/
def packetOf (l : Nat) (fs : List Flit) : Packet :=
  match fs with
  | [] => {}
  | f :: rest =>
    let h := f.hdr.getD {}
    { lane := l, hdr := { h with poison := h.poison || fs.any (·.taint) }, payload := (flitsPayload rest).take h.len, framed := rest.length }

/-- The flits of a packet: SINGLE, or HEAD, BODY and TAIL (R153, R270). -/
def flitsOf (p : Packet) : List Flit :=
  if p.hdr.dflits = 0 then [{ ft := .single, lane := p.lane, hdr := some p.hdr }]
  else
    { ft := .head, lane := p.lane, hdr := some p.hdr } ::
      (List.range p.hdr.dflits).map (fun j =>
        { ft := if j + 1 = p.hdr.dflits then .tail else .body, lane := p.lane, data := padTo 64 (slice p.payload (64 * j) 64) })

/-- A whole packet reaches the end of its path at router r: its NI takes it, or the proxy of an endpoint whose
domain does not answer (R51, R568). -/
def State.deliver (s : State) (r : Nat) (p : Packet) : State :=
  let d := niDom r
  if s.answers d then s.modNi r (fun x => { x with rx := x.rx ++ [p] })
  else { s with pwr := { s.pwr with proxies := smod {} s.pwr.proxies d (fun x => { x with rx := x.rx ++ [p] }) } }

/-- A flit reaches an NI from its router. -/
def State.niFlit (s : State) (r : Nat) (f : Flit) : State :=
  let x := s.ni r
  let fs := sget [] x.asm f.lane ++ [f]
  if isLastFlit f then (s.setNi r { x with asm := sdel x.asm f.lane }).deliver r (packetOf f.lane fs)
  else s.setNi r { x with asm := sins x.asm f.lane fs }

/-- FLIT_RECEIVE: the oldest flit on a wire arrives, with what befell it on the way (R152 to R167, R163). -/
def execFlitReceive (w : Wire) (n : Noise) (s : State) : Host.Outcome State Fault Refusal :=
  let (free, s1) := s.drawBit
  match w with
  | .link r p =>
    let pn := portNum p
    let d := s.dir r.val pn
    match d.wire with
    | [] => done s s
    | f :: rest =>
      let q := neighbour r.val pn
      let i := opposite pn
      let s1 := s1.settleFifth q i false
      let s0 := s1.setDir r.val pn { s1.dir r.val pn with wire := rest }
      (match seeFlit f n free with
       | .damaged c =>
         let s2 := (if c then s0.linkCount q i 2 1 else s0).linkCount q i 3 1
         done s (s2.setDir r.val pn { s2.dir r.val pn with rrq := true })
       | .good g c =>
         let s2 := if c then s0.linkCount q i 2 1 else s0
         done s (s2.goodFlit r.val pn g))
  | .fromNi r =>
    match sget [] s.fabric.fromNi r.val with
    | [] => done s s
    | f :: rest =>
      let s0 := { s1 with fabric := { s1.fabric with fromNi := sput [] s1.fabric.fromNi r.val rest } }
      (match seeFlit f n free with
       | .damaged _ =>
         let s2 := s0.raise 0x0301 2 r.val 4 0 true
         done s (s2.pushFlit r.val 4 f.lane { f with taint := true, hdr := f.hdr.map (fun h => { h with poison := true }) })
       | .good g _ => done s (s0.pushFlit r.val 4 g.lane g))
  | .toNi r =>
    match sget [] s.fabric.toNi r.val with
    | [] => done s s
    | f :: rest =>
      let s0 := { s1 with fabric := { s1.fabric with toNi := sput [] s1.fabric.toNi r.val rest } }
      (match seeFlit f n free with
       | .damaged _ =>
         let s2 := s0.raise 0x0301 2 r.val 4 0 true
         done s (s2.niFlit r.val { f with taint := true })
       | .good g _ => done s (s0.niFlit r.val g))

/-- REPLAY_TIMER_EXPIRY (R169, R170). -/
def execReplayTimerExpiry (r : RouterId) (p : Port) (s : State) : Host.Outcome State Fault Refusal :=
  let s' := s.settleFifth r.val (portNum p) false
  if s'.linkState r.val (portNum p) = .up then done s (s'.startReplay r.val (portNum p) true) else done s s'

/-- Whether the link has a maintenance window (R178). -/
def State.hasWindow (s : State) (r p : Nat) : Bool :=
  decide (s.fabric.act.maintPeriod ≠ 0) && decide (sget 0xFFFFFFFF s.fabric.act.maintOffset (4 * r + p) ≠ 0xFFFFFFFF)
/-- Whether the stroke under way is one of the 4 of the link's maintenance window (R176). -/
def State.inMaint (s : State) (r p : Nat) : Bool :=
  let m := s.fabric.act.maintPeriod
  let off := sget 0xFFFFFFFF s.fabric.act.maintOffset (4 * r + p)
  s.hasWindow r p && decide (off < m ∧ (s.cox.stroke + m - off) % m < 4)

/-- Whether the stroke under way is the first of a maintenance window of the link (R175, R176). -/
def State.maintBegins (s : State) (r p : Nat) : Bool :=
  let m := s.fabric.act.maintPeriod
  s.hasWindow r p && decide (s.cox.stroke % m = sget 0xFFFFFFFF s.fabric.act.maintOffset (4 * r + p))

/-- MAINT_WINDOW_START: a planned retrain that is pending starts at the first stroke of the link's window (R175). -/
def execMaintWindowStart (r : RouterId) (p : Port) (s : State) : Host.Outcome State Fault Refusal :=
  if s.linkState r.val (portNum p) = .up ∧ (s.bond r.val (portNum p)).planned ∧ s.maintBegins r.val (portNum p) then
    done s (s.retrainStart r.val (portNum p) false)
  else done s s

/-- RESYNC of one direction (R162, R173): the sender at (r, p) frees what the receiver has, its credits are the
receiver's free places less the credits that ride in the receiver's own unaccepted flits, and it replays the rest: a replay as
any other for the hold-off of R168. The receiver keeps its RRQ until it accepts the next expected flit (R167). The places that the
replayed flits will take are not taken off: R162 names the credits alone that are left out of the report, and a replayed flit uses
none (R161; DEDUCED, log 121). -/
def State.resync (s : State) (r p : Nat) (fresh : Bool) : State :=
  let q := neighbour r p
  let i := opposite p
  let d := s.dir r p
  let back := s.dir q i
  let d := if fresh then { d with nextSeq := 0, replay := [], expected := 0, rrq := false, lastReplay := none, priorReplay := none, byTimer := none }
    else { d with replay := d.replay.filter d.unaccepted, byTimer := none }
  let riding (l : Nat) : Nat :=
    if fresh then 0 else ((back.replay.filter (fun f => back.unaccepted f && decide (f.crlane = l))).map (·.crcnt)).sum
  let used := (List.range 8).foldl (fun m l => sput 0 m l ((s.buf q i l).length + riding l)) ([] : SMap Nat)
  s.setDir r p { d with wire := [], used := used, owed := [], oldest := 0, fifth := none
                        lastReplay := match d.replay with
                          | [] => d.lastReplay
                          | f :: _ => some (f.seq, s.clk.fab)
                        replayPos := if d.replay.isEmpty then none else some 0 }

/-- Flits of a run that a link has delayed: those whose cycle at its output is over (R242). -/
def State.overdue (s : State) (fs : List Flit) : Nat := (fs.filter (fun f => decide (f.due < s.clk.fab))).length

/-- Delayed flits of a packet in an L0 buffer, when it goes to output p of router r. -/
def State.sc0Toward (s : State) (r p : Nat) (fs : List Flit) : Nat :=
  match fs.head?.bind (·.hdr) with
  | some h => if (s.compiledOuts r 0 h).contains p then s.overdue fs else 0
  | none => 0

/-- SC0 flits that the output (r, p) has delayed (R179): in the replay buffer, where the other end has not accepted them, and of
every packet in the input buffers, those queued behind others included, where their cycle at the output is over. -/
def State.sc0Waiting (s : State) (r p : Nat) : Nat :=
  ((s.dir r p).replay.filter (fun g => isPacketFlit g && decide (g.lane = 0) && (s.dir r p).unaccepted g)).length
    + ((List.range 5).map (fun i => match splitPackets [] (s.buf r i 0), s.route r i 0 with
        | [], _ => 0
        | fs :: rest, some x =>
          (if x.outs.contains p ∧ ¬ x.drop then s.overdue (fs.drop (if x.multi then sget 0 x.sent p else 0)) else 0) + (rest.map (s.sc0Toward r p)).sum
        | fs :: rest, none => ((fs :: rest).map (s.sc0Toward r p)).sum)).sum

/-- Counts at both ends the SC0 flits that an urgent retrain has delayed (R179). -/
def State.countDeferred (s : State) (r p : Nat) : State :=
  if (s.bond r p).urgent then
    (s.linkCount r p 11 (s.sc0Waiting r p)).linkCount (neighbour r p) (opposite p) 11 (s.sc0Waiting (neighbour r p) (opposite p))
  else s

/-- INIT or a retrain fails, and the link is DOWN (R174). -/
def State.retrainFails (s : State) (r p : Nat) : State :=
  match s.linkState r p with
  | .init => s.linkDown r p true
  | .retrain => (s.countDeferred r p).linkDown r p true
  | _ => s

/-- VERIFY passes (R173). -/
def verifyPasses (v : VerifyCount) : Bool := decide (v.bad = 0) && decide (v.corrected ≤ 4)

/-- RETRAIN_COMPLETE: the steps of INIT or of a retrain are through (R173, R179, R181). The link is UP when VERIFY passed in both
directions, and DOWN otherwise (that the row carries VERIFY's counts is DEDUCED, log 112). -/
def execRetrainComplete (r : RouterId) (v : VerifiedPort) (s : State) : Host.Outcome State Fault Refusal :=
  let a := r.val
  let pn := portNum v.port
  let q := neighbour a pn
  let i := opposite pn
  if ! (verifyPasses v.there && verifyPasses v.back) then done s (s.retrainFails a pn)
  else match s.linkState a pn with
  | .init =>
    done s (((s.resync a pn true).resync q i true).linkTo a pn .up)
  | .retrain =>
    let s1 := s.countDeferred a pn
    let s2 := (s1.resync a pn false).resync q i false
    let s3 := s2.setBond a pn { s2.bond a pn with urgent := false }
    done s (((s3.linkTo a pn .up).linkCount a pn 7 1).linkCount q i 7 1)
  | _ => done s s

/-- RETRAIN_TIMEOUT: INIT or a retrain fails, and the link is DOWN (R174). -/
def execRetrainTimeout (r : RouterId) (p : Port) (s : State) : Host.Outcome State Fault Refusal :=
  done s (s.retrainFails r.val (portNum p))

/-- LINK_COMMAND 1 as it acts once accepted (R175, R188). -/
def State.plannedRetrain (s : State) (r p : Nat) : State :=
  match s.linkState r p with
  | .down => s.linkTo r p .init
  | .up => s.setBond r p { s.bond r p with planned := true }
  | _ => s
/-- LINK_COMMAND 2 as it acts once accepted (R175, R179, R188). -/
def State.immediateRetrain (s : State) (r p : Nat) : State :=
  match s.linkState r p with
  | .down => s.linkTo r p .init
  | .up => s.retrainStart r p true
  | _ => s

end Sys2Proof.Machine
end

