-- ==== Sys2Proof/Machine/Fabric.lean ====
section
/-! DEFINITION. Routers: the routing of a packet's head, multicast, and the arbitration of an output in one FAB cycle
(chapters 05 and 06). -/

namespace Sys2Proof.Machine

/-- Drops of a router: counter base of R227, the fault kind, and the key it carries. -/
def State.routerDrop (s : State) (r i l base kind detail : Nat) : State :=
  ((s.bump (0x3100 + r) (base + i)).raise kind 2 r i detail true).discardPacket r i l

/-- The branches of a ROW or COLUMN packet at router r (R214, R217, R250): one whose link is not UP gets no copy and is counted.
A link in RETRAIN suspends the flow instead (R179; DEDUCED, log 101). -/
def State.setBranches (s : State) (r i l : Nat) (h : Header) (outs : List Nat) : State :=
  let live := outs.filter (fun o => decide (o = 4 ∨ s.linkState r o = .up ∨ s.linkState r o = .retrain))
  let s := s.bumpBy (0x3100 + r) 0xA8 (outs.length - live.length)
  if live.isEmpty then s.discardPacket r i l else s.setRoute r i l (some { hdr := h, outs := live, multi := decide (1 < live.length) })

/-- PACKET_HEAD_ROUTE: the packet at the front of an input buffer is checked against the partition pairs and
routed under its lane's rule and the tables in force (R194 to R226). An SC3 packet that has not won its output
chooses anew. -/
def State.routeHead (s : State) (r i l : Nat) : State :=
  match s.buf r i l with
  | [] => s
  | f :: _ =>
    let h := f.hdr.getD {}
    let moving : Bool := match s.route r i l with
      | some x => x.drop || x.multi || ! x.sent.isEmpty || ! (l = 4 || l = 5)
      | none => false
    if moving ∨ ¬ isHeadFlit f then s
    else
      let pair := s.governing r i h.pkey
      if l ≠ 7 ∧ pair = none then s.routerDrop r i l 0x70 0x0303 h.pkey
      else
        let rect := if s.fabric.act.confined ∧ l ≠ 7 then pair else none
        let d := faTarget h.fa
        let confines (outs : List Nat) : Bool := match rect with
          | some v => outs.any (fun o => o ≠ 4 && ! inRect v (neighbour r o))
          | none => false
        let set (outs : List Nat) : State :=
          if confines outs then s.routerDrop r i l 0x78 0x0304 h.pkey
          else if l ≠ 6 ∧ outs.any (fun o => o ≠ 4 && decide (s.linkState r o = .down)) then
            (s.linkCount r (outs.headD 0) 9 1).discardPacket r i l
          else s.setRoute r i l (some { hdr := h, outs := outs, multi := decide (l = 6) })
        if l = 0 ∨ l = 1 then
          (if s.planMcast l h then (if confines (s.compiledOuts r l h) then s.routerDrop r i l 0x78 0x0304 h.pkey else s.setBranches r i l h (s.compiledOuts r l h))
           else set (s.compiledOuts r l h))
        else if l = 2 ∨ l = 3 then set [xyOut r d]
        else if l = 4 ∨ l = 5 then
          match s.sc3Out r i l h with
          | some o => s.setRoute r i l (some { hdr := h, outs := [o] })
          | none => s.routerDrop r i l 0x80 0x0302 d
        else if l = 6 then
          let outs := maskTree r h.src (field h.mask 47 0) (opposite i)
          if outs.isEmpty then s.discardPacket r i l else set outs
        else set [l7Out r d]

def execPacketHeadRoute (r : RouterId) (i : Fin 5) (lane : Lane) (s : State) : Host.Outcome State Fault Refusal :=
  done s (s.routeHead r.val i.val lane.val)

/-! ### An output in one FAB cycle -/

/-- Free places the sender of output o sees for a lane: credits of the link, or the NI's free places (R157, R162), of which there
are none while the 4 flits of the crossing to the NI's clock are taken (R572). -/
def State.credits (s : State) (r o l : Nat) : Nat :=
  if o < 4 then laneDepth l - sget 0 (s.dir r o).used l
  else if 4 ≤ (sget [] s.fabric.toNi r).length then 0
  else laneDepth l - (((sget [] s.fabric.toNi r).filter (fun f => f.lane = l)).length + (sget [] (s.ni r).asm l).length)

/-- L6 credits of output o that branches of other packets, admitted already, have still to use (R213). -/
def State.branchReserved (s : State) (r o : Nat) : Nat :=
  ((List.range 5).map (fun i => match s.route r i 6 with
    | some x => if x.granted.contains o then x.hdr.dflits + 1 - sget 0 x.sent o else 0
    | none => 0)).sum

/-- MCAST_BRANCH_FORWARD: a branch of the L6 packet at the front of an input may send once the credits that no other branch
has been admitted on cover the whole packet; a branch whose link is not UP gets no copy (R213, R217). -/
def State.branchForward (s : State) (r i o : Nat) : State :=
  match s.route r i 6 with
  | none => s
  | some x =>
    if x.drop ∨ ¬ x.outs.contains o ∨ x.granted.contains o then s
    else if o < 4 ∧ s.linkState r o ≠ .up then
      let s := s.bump (0x3100 + r) 0xA8
      let x' := { x with outs := without x.outs o }
      if x'.outs.isEmpty then s.discardPacket r i 6 else s.setRoute r i 6 (some x')
    else if s.credits r o 6 ≥ s.branchReserved r o + (x.hdr.dflits + 1) then s.setRoute r i 6 (some { x with granted := x.granted ++ [o] })
    else s

def execMcastBranchForward (r : RouterId) (i o : Fin 5) (s : State) : Host.Outcome State Fault Refusal :=
  done s (s.branchForward r.val i.val o.val)

/-- The flit that input i offers to output o on a lane that the device state lets run (R44): its index in the packet, the
flit and the route. -/
def State.offer (s : State) (r o i l : Nat) : Option (Nat × Flit × Route) :=
  match s.route r i l with
  | none => none
  | some x =>
    if x.drop ∨ ¬ s.laneCarries l ∨ ¬ x.outs.contains o ∨ (l = 6 ∧ ¬ x.granted.contains o) ∨ s.credits r o l = 0 then none
    else
      let n := sget 0 x.sent o
      let at' := if x.multi then n else 0
      match (s.buf r i l)[at']? with
      | none => none
      | some f => if at' < packetSpan (s.buf r i l) then some (n, f, x) else none

/-- The inputs that may use lane l of output o now: the one whose packet holds the lane's turn, or those with a HEAD to offer,
in round-robin order (R237). -/
def State.laneInputs (s : State) (r o l : Nat) : List Nat :=
  let a := s.arb r o
  match sfind a.hold l with
  | some i => if (s.offer r o i l).isSome then [i] else []
  | none =>
    let t := sget 0 a.turn l
    ((List.range 5).map (fun k => (t + k) % 5)).filter (fun i =>
      match s.offer r o i l with
      | some (_, f, _) => isHeadFlit f
      | none => false)

/-- The input whose turn it is on lane l of output o. -/
def State.laneInput (s : State) (r o l : Nat) : Option Nat := (s.laneInputs r o l).head?

/-- Entry of a slot in the stroke table of output o of router r (R233). The cycles of a step stroke past slot 255 lie in no slot
of the table. -/
def State.linkEntry (s : State) (r o j : Nat) : Nat := if j < 256 then sget 0 s.fabric.act.linkTab ((4 * r + o) * 256 + j) else 0

/-- Whether an SC0 reservation of a flow at the output covers the cycle under way (R234). -/
def State.inReservation (s : State) (r o flow : Nat) : Bool :=
  (List.range 256).any (fun j =>
    let v := s.linkEntry r o j
    decide (field v 31 30 = 1 ∧ field v 15 0 = flow ∧ 8 * j + field v 29 27 ≤ s.cox.cycle ∧ s.cox.cycle < 8 * j + field v 29 27 + field v 26 23))

/-- Whether an SC1 window of the output covers the cycle under way for a circuit (R234, R252). -/
def State.inWindow (s : State) (r o circ : Nat) : Bool :=
  (List.range 256).any (fun j =>
    let v := s.linkEntry r o j
    let c0 := 8 * j + field v 29 27
    decide (field v 31 30 = 2 ∧ field v 15 0 = circ ∧ c0 ≤ s.cox.cycle
      ∧ s.cox.cycle < c0 + 8 * circWin (sget 0 s.fabric.act.circuits circ)))

/-- Whether SC0 runs (R124, R131, R248); in HALTED it does not (R44, R49). -/
def State.sc0Runs (s : State) : Bool :=
  s.cox.running && decide (s.dev ≠ .halted) && ! s.cox.sc0Stopped &&
    (match s.cox.state with
     | .anchored => true
     | .holdover => true
     | .unanchored => decide (s.ob 0x2110 6 = 1))

/-- Timing of an SC0 flit of a flow at an output in this cycle: 0 on time, 1 late within SC0_GUARD, 2 overdue; `none` while its
cycle has not come (R236, R242 to R245). The delay counts from the cycle that R242 gives the flit, so a flit that was late stays
late under new tables (R266). -/
def State.sc0Timing (s : State) (r o flow : Nat) (f : Flit) : Option Nat :=
  if s.clk.fab < f.due then none
  else if s.clk.fab = f.due ∧ s.inReservation r o flow then some 0
  else if s.clk.fab - f.due ≤ s.fabric.act.guard then some 1 else some 2

/-- Ranking of an output: lanes from rank 0 (R237, R264). -/
def rankLanes (v : Nat) : List Nat := (List.range 8).map (fun k => field v (31 - 4 * k) (28 - 4 * k))
def State.ranking (s : State) (r o : Nat) : List Nat :=
  let v := if o < 4 then s.ob (0x3410 + r) (o + 1) else 0
  rankLanes (if v = 0 then s.ob 0x3400 1 else v)

/-- Inputs of lane 0 whose flit has a timing at the output. -/
def State.sc0Inputs (s : State) (r o timing : Nat) : List Nat :=
  (s.laneInputs r o 0).filter (fun i => match s.offer r o i 0 with
    | some (_, f, x) => decide (s.sc0Timing r o x.hdr.flow f = some timing)
    | none => false)

/-- Inputs of lane 1 whose flit belongs to the circuit whose window covers this cycle at the output. -/
def State.sc1Inputs (s : State) (r o : Nat) : List Nat :=
  (s.laneInputs r o 1).filter (fun i => match s.offer r o i 1 with
    | some (_, _, x) => s.inWindow r o x.hdr.flow
    | none => false)

/-- The choice of a link output (R236, R238): precedence, lane and input. Every input that may use L0 or L1 is looked at. A late
flit keeps its precedence over a change to no heat, as over any other (R137, R266). -/
def State.chooseLink (s : State) (r o : Nat) : Option (Nat × Nat × Nat) :=
  let table := ! s.inMaint r o
  let sc0 := table && ! s.cox.inStep && s.sc0Runs
  let late := table && ! s.cox.inStep && (s.sc0Runs || ! s.cox.running)
  let sc1 := table && ! s.cox.inStep && s.cox.running
  let l7 := table && s.cox.running && decide (field (s.linkEntry r o (s.cox.cycle / 8)) 31 30 = 3)
  let pick (p l : Nat) (i : Option Nat) : Option (Nat × Nat × Nat) := i.map (fun i => (p, l, i))
  let p1 := if sc0 then pick 1 0 (s.sc0Inputs r o 0).head? else none
  let p2 := if late then pick 2 0 (s.sc0Inputs r o 1).head? else none
  let p3 := if l7 then pick 3 7 (s.laneInput r o 7) else none
  let p4 := if late then pick 4 0 (s.sc0Inputs r o 2).head? else none
  let p5 := if sc1 then pick 5 1 (s.sc1Inputs r o).head? else none
  let back := (s.ranking r o).findSome? (fun l => if l = 0 ∧ sc0 then none else pick 6 l (s.laneInput r o l))
  p1 <|> p2 <|> p3 <|> p4 <|> p5 <|> back

/-- The choice of a local output (R232): SC0 in order of arrival, L7, L1, then the ranking. -/
def State.chooseLocal (s : State) (r : Nat) : Option (Nat × Nat × Nat) :=
  let first0 := match sfind (s.arb r 4).hold 0 with
    | some i => if (s.offer r 4 i 0).isSome then some i else none
    | none =>
      (List.range 5).foldl (fun (b : Option Nat) i =>
        match s.offer r 4 i 0 with
        | none => b
        | some (_, f, _) =>
          if ¬ isHeadFlit f then b
          else match b with
            | none => some i
            | some j => if f.arr < (match s.offer r 4 j 0 with | some (_, g, _) => g.arr | none => f.arr) then some i else b) none
  let pick (p l : Nat) (i : Option Nat) : Option (Nat × Nat × Nat) := i.map (fun i => (p, l, i))
  pick 1 0 first0 <|> pick 2 7 (s.laneInput r 4 7) <|> pick 3 1 (s.laneInput r 4 1)
    <|> (s.ranking r 4).findSome? (fun l => if l = 0 then none else pick 6 l (s.laneInput r 4 l))

/-- Takes the offered flit of input i on a lane for output o: the packet keeps the lane's turn to its last flit. -/
def State.takeFlit (s : State) (r o i l : Nat) (idx : Nat) (f : Flit) (x : Route) : State :=
  let a := s.arb r o
  let last := isLastFlit f
  let a := { a with hold := if last then sdel a.hold l else sins a.hold l i,
                    turn := if last then sput 0 a.turn l ((i + 1) % 5) else a.turn,
                    waited := if isHeadFlit f then without a.waited (8 * i + l) else a.waited }
  let s := s.setArb r o a
  let x' := { x with sent := sins x.sent o (idx + 1) }
  if x.multi then
    let s := if l = 6 ∧ last then s.bump (0x3100 + r) 0xA9 else s
    if last then
      let x' := { x' with outs := without x'.outs o, granted := without x'.granted o }
      if x'.outs.isEmpty then (s.popFlits r i l (packetSpan (s.buf r i l))).setRoute r i l none
      else s.setRoute r i l (some x')
    else s.setRoute r i l (some x')
  else
    let s := s.popFlits r i l 1
    if last then s.setRoute r i l none else s.setRoute r i l (some x')

/-- Credits that the receiving side of port p of router r returns next: the lane with the most, then the lowest
(R158). -/
def State.nextCredits (s : State) (r p : Nat) : Nat × Nat :=
  let owed := (s.dir (neighbour r p) (opposite p)).owed
  (List.range 8).foldl (fun (b : Nat × Nat) l => if sget 0 owed l > sget 0 owed b.1 then (l, min 3 (sget 0 owed l)) else b)
    (0, min 3 (sget 0 owed 0))

/-- Puts the ACK and RRQ of the opposite direction into a flit (R166, R167) and sends it on the wire. -/
def State.onWire (s : State) (r p : Nat) (f : Flit) : State :=
  let back := s.dir (neighbour r p) (opposite p)
  let f := { f with ack := (back.expected + 255) % 256, rrq := back.rrq }
  let d := s.dir r p
  s.setDir r p { d with wire := d.wire ++ [f] }

/-- An armed injection of TYPE 1 takes the next sequenced flit of its link (R552). -/
def State.injectLink (s : State) (r p : Nat) (f : Flit) : State × Flit :=
  let t := s.flt.injTarget
  if s.flt.inject = .armed ∧ field t 31 28 = 1 ∧ field t 13 8 = r ∧ field t 1 0 = p then
    (({ s with flt := { s.flt with inject := .done } }).bump 0x2440 5, { f with inj := field t 27 26 })
  else (s, f)

/-- Sends a sequenced flit on link r.p: SEQ, credits, replay buffer (R158, R164). -/
def State.sendSequenced (s : State) (r p : Nat) (f : Flit) : State :=
  let (cl, cn) := s.nextCredits r p
  let q := neighbour r p
  let back := s.dir q (opposite p)
  let s := s.setDir q (opposite p) { back with owed := smod 0 back.owed cl (· - cn) }
  let d := s.dir r p
  let f := { f with seq := d.nextSeq, crlane := if cn = 0 then 0 else cl, crcnt := cn }
  let used := if isPacketFlit f then smod 0 d.used f.lane (· + 1) else d.used
  let s := s.setDir r p { d with nextSeq := (d.nextSeq + 1) % 256, replay := d.replay ++ [{ f with arr := 0 }], used := used }
  let s := s.highWater (0x3000 + r) (16 * p + 12) (s.dir r p).replay.length
  let (s, f) := s.injectLink r p f
  s.onWire r p f

/-- The HEADs of L4 and L5 that wait with credit for the output, as 8·input + lane (R240, R264). -/
def State.sc3Waits (s : State) (r o : Nat) : List Nat :=
  (List.range 5).flatMap (fun i => ([4, 5].filter (fun l =>
    match s.offer r o i l with
    | some (n, f, _) => decide (n = 0) && isHeadFlit f
    | none => false)).map (fun l => 8 * i + l))

/-- One FAB cycle of a link output (R150, R159, R164, R168, R236). SC0_RETRIED counts an SC0 flit as it is sent again, by any
replay (R187). -/
def State.linkCycle (s : State) (r o : Nat) : State :=
  let s := s.settleFifth r o true
  if s.linkState r o ≠ .up then s
  else
    let d := s.dir r o
    let s := s.setArb r o { s.arb r o with waited := (s.arb r o).waited.filter (s.sc3Waits r o).contains }
    match d.replayPos with
    | some j =>
      match d.replay[j]? with
      | some f =>
        let s := s.setDir r o { d with replayPos := if j + 1 < d.replay.length then some (j + 1) else none }
        let s := s.linkCount r o 10 (b2n (isPacketFlit f && decide (f.lane = 0)))
        let (s, f) := s.injectLink r o { f with inj := 0 }
        s.onWire r o f
      | none => (s.setDir r o { d with replayPos := none }).onWire r o {}
    | none =>
      if d.replay.length ≥ 32 then s.onWire r o {}
      else
        match s.chooseLink r o with
        | some (prec, l, i) =>
          match s.offer r o i l with
          | some (idx, f, x) =>
            let s := s.takeFlit r o i l idx f x
            let s := s.bump (0x3440 + r) (16 * o + (if prec = 1 then 1 else if prec = 2 then 2 else if prec = 3 then 5
                       else if prec = 4 then 3 else if prec = 5 then 4 else 6))
            s.sendSequenced r o f
          | none => s.onWire r o {}
        | none =>
          if (s.nextCredits r o).2 > 0 then s.sendSequenced r o { ft := .null } else s.onWire r o {}

/-- One FAB cycle of a local output (R232). -/
def State.localCycle (s : State) (r : Nat) : State :=
  match s.chooseLocal r with
  | none => s
  | some (_, l, i) =>
    match s.offer r 4 i l with
    | none => s
    | some (idx, f, x) =>
      let s := s.takeFlit r 4 i l idx f x
      { s with fabric := { s.fabric with toNi := smod [] s.fabric.toNi r (· ++ [f]) } }

/-- LINK_OUTPUT_CYCLE (R236, R232). -/
def execLinkOutputCycle (r : RouterId) (o : Fin 5) (s : State) : Host.Outcome State Fault Refusal :=
  done s (if o.val < 4 then s.linkCycle r.val o.val else s.localCycle r.val)

/-! ### Averages and exclusions -/

/-- QDEPTH_UPDATE (R204): once per slot, L4 and L5 of every mesh output of a router. A choice in this FAB cycle still uses the
value before it. -/
def execQdepthUpdate (r : RouterId) (s : State) : Host.Outcome State Fault Refusal :=
  let shift := s.ob (0x3100 + r.val) 0x98
  done s (forEach ((List.range 4).filter (hasPort r.val)) s (fun s o =>
    forEach [4, 5] s (fun s l =>
      let q : Int := s.ob (0x3100 + r.val) (0x90 + 2 * o + (l - 4))
      let sample : Int := 16 * (16 - (s.credits r.val o l : Int))
      s.putLate (0x3100 + r.val) (0x90 + 2 * o + (l - 4)) (q + (sample - q) / 2 ^ shift).toNat (s.clk.fab + 1))))

/-- Whether some path that R201 and SC3_ALLOW permit from router r to d crosses only links that a test admits.
`src`: the router is in the packet's source column. -/
def State.reaches (s : State) (live : Nat → Nat → Bool) : Nat → Nat → Nat → Bool → Bool
  | 0, r, d, _ => decide (r = d)
  | n + 1, r, d, src =>
    decide (r = d) || (oddEven r d src).any (fun o =>
      decide (o ≠ 4) && bitAt (s.allow r d) o && hasPort r o && live r o
        && s.reaches live n (neighbour r o) d (src && decide (o = 0 ∨ o = 2)))

/-- EXCLUDE_RECOMPUTE (R207). -/
def execExcludeRecompute (s : State) : Host.Outcome State Fault Refusal :=
  let live (r o : Nat) : Bool := decide (s.linkState r o = .up)
  done s (forEach allDirs s (fun s ro =>
    let q := neighbour ro.1 ro.2
    s.obSet (0x3100 + ro.1) (0xA0 + ro.2)
      (maskOf ((List.range 48).filter (fun d => ! s.reaches live 13 q d (decide (ro.2 = 0 ∨ ro.2 = 2)))))))

end Sys2Proof.Machine
end

