-- ==== Sys2Proof/Machine/Operands.lean ====
section
/-! DEFINITION. Packet forms: header bytes and the end-to-end CRC, opcode kinds and lanes, malformed packets,
answers, and how an access of an endpoint falls into packets (R269 to R277, R646). -/

namespace Sys2Proof.Machine

/-- Bytes of a header flit (R269). -/
def headerBytes (h : Header) : Bytes :=
  leBytes h.opcode 1
    ++ leBytes (b2n h.poison * 128 + b2n h.fence * 64 + b2n h.burstEnd * 32 + b2n h.short * 16 + b2n h.wsync * 8 + b2n h.retx * 4) 1
    ++ leBytes (h.src % 64) 1 ++ leBytes (h.status % 16 * 16 + b2n h.ctrl * 8) 1 ++ leBytes h.fa 6 ++ leBytes h.pkey 2
    ++ leBytes (h.dflits % 16 * 4096 + h.len % 1024) 2 ++ leBytes (b2n h.gen * 4096 + h.tag % 4096) 2 ++ leBytes h.pseq 2
    ++ leBytes (h.flow % 1024) 2 ++ leBytes h.mask 6 ++ leBytes (h.aop % 16) 1 ++ leBytes 0 1 ++ leBytes h.crc 4 ++ padTo 32 h.inl

/-- The end-to-end CRC of a packet (R274). -/
def packetCrc (p : Packet) : Nat :=
  let hb := headerBytes { p.hdr with poison := false }
  crc32c (hb.take 28 ++ hb.drop 32 ++ (if p.hdr.dflits = 0 then [] else p.payload.take p.hdr.len))

/-- Kinds of opcode (R275). -/
inductive OpKind where
  | nonPosted | posted | response | unlisted
  deriving DecidableEq, Repr

def opKind (o : Nat) : OpKind :=
  if o = 0x01 ∨ o = 0x03 ∨ o = 0x04 ∨ o = 0x05 ∨ o = 0x06 ∨ o = 0x09 ∨ o = 0x0A ∨ o = 0x0B then .nonPosted
  else if o = 0x02 ∨ o = 0x08 ∨ o = 0x0C then .posted
  else if o = 0x81 ∨ o = 0x82 ∨ o = 0x83 ∨ o = 0x84 ∨ o = 0x8A then .response
  else .unlisted

/-- Lanes an opcode may travel on (R275). -/
def opLanes (o : Nat) : List Nat :=
  if o = 0x01 then [0, 1, 2, 4] else if o = 0x02 then [0, 1, 2, 4, 6] else if o = 0x03 then [0, 2, 4]
  else if o = 0x04 ∨ o = 0x05 then [2, 4] else if o = 0x06 then [0, 2, 4] else if o = 0x08 then [1, 2, 4]
  else if o = 0x09 then [2, 4] else if o = 0x0A ∨ o = 0x0B ∨ o = 0x0C then [7]
  else if o = 0x81 then [0, 1, 3, 5] else if o = 0x82 then [0, 3, 5] else if o = 0x83 ∨ o = 0x84 then [3, 5]
  else if o = 0x8A then [7] else []

/-- Whether a packet of this opcode carries a payload: LEN is then its length. -/
def hasPayload (o status : Nat) : Bool :=
  decide (o = 0x02 ∨ o = 0x03 ∨ o = 0x05 ∨ o = 0x06 ∨ o = 0x08 ∨ o = 0x09 ∨ o = 0x0B ∨ o = 0x0C ∨ (o = 0x81 ∧ status = 0) ∨ o = 0x82 ∨ o = 0x8A)

/-- A malformed packet (R646). -/
def malformed (p : Packet) : Bool :=
  let h := p.hdr
  (h.short != decide (h.dflits = 0)) || decide (h.dflits ≠ p.framed)
    || (hasPayload h.opcode h.status && ((h.short && decide (h.len > 32))
         || (! h.short && ! decide (64 * (h.dflits - 1) + 1 ≤ h.len ∧ h.len ≤ 64 * h.dflits))))

/-- Payload of a packet: INLINE of a SHORT one, or the data flits (R270). -/
def payloadOf (p : Packet) : Bytes := if p.hdr.dflits = 0 then p.hdr.inl.take p.hdr.len else p.payload.take p.hdr.len

/-- A packet with a payload in the form of R270; reads carry only the length. -/
def withPayload (lane : Nat) (h : Header) (data : Bytes) : Packet :=
  if data.length ≤ 32 then { lane := lane, hdr := { h with short := true, dflits := 0, inl := data, len := data.length }, framed := 0 }
  else
    let k := (data.length + 63) / 64
    { lane := lane, hdr := { h with short := false, dflits := k, len := data.length }, payload := data, framed := k }

/-- Lane of the answer to a request (R30). -/
def answerLane (l : Nat) : Nat := if l = 2 then 3 else if l = 4 then 5 else l

/-- Header of an answer (R272). -/
def answerHeader (n : Nat) (q : Header) (opcode status : Nat) : Header :=
  { opcode := opcode, src := n, status := status, ctrl := q.ctrl, fa := mkFa 0 q.src (faOffset q.fa), pkey := q.pkey,
    gen := q.gen, tag := q.tag, pseq := q.pseq, flow := 0, short := true }

/-- An answer to a request, from NI n. -/
def answerTo (n : Nat) (q : Packet) (opcode status : Nat) (data : Bytes := []) : Packet :=
  withPayload (answerLane q.lane) (answerHeader n q.hdr opcode status) data

/-- The answer opcode of a non-posted request (R275). -/
def answerOp (o : Nat) : Nat :=
  if o = 0x01 ∨ o = 0x04 then 0x81 else if o = 0x0A ∨ o = 0x0B then 0x8A else 0x82

/-- Class of a lane: SC0 to SC3, 4 for L6 and L7. -/
def classOfLane (l : Nat) : Nat := if l = 0 then 0 else if l = 1 then 1 else if l = 2 ∨ l = 3 then 2 else if l = 4 ∨ l = 5 then 3 else 4
/-- Request lane of a class. -/
def laneOfClass (c : Nat) : Nat := if c = 0 then 0 else if c = 1 then 1 else if c = 2 then 2 else 4

/-- Queues an answer of NI n for SEND: answers pass neither SHAPE nor GATE (R322). An SC0 answer waits for the
instant of its paired flow (R249); an SC1 answer rides L1 at once. -/
def State.queueAnswer (s : State) (n : Nat) (q p : Packet) : State :=
  if p.lane = 0 then
    let f := flowPair (sget 0 s.fabric.act.flows q.hdr.flow)
    s.modNi n (fun x => { x with sc0 := x.sc0 ++ [{ pkt := { p with hdr := { p.hdr with flow := f } }, cls := 0 }] })
  else
    let p := if p.lane = 1 then { p with hdr := { p.hdr with flow := q.hdr.flow } } else p
    s.modNi n (fun x => { x with sendQ := x.sendQ ++ [{ pkt := p, cls := classOfLane p.lane }] })

/-- Sends the SC2 answers whose turn has come: those with no earlier unanswered request of their source (R282). -/
def State.releaseAnswers (s : State) (n : Nat) : State :=
  let step (b : State × List Nat) (o : Nat × Nat) : State × List Nat :=
    let (s, blocked) := b
    if blocked.contains o.1 then b
    else
      match (s.ni n).ready.find? (fun p => faTarget p.hdr.fa = o.1 && p.hdr.pseq = o.2) with
      | none => (s, o.1 :: blocked)
      | some p =>
        (s.modNi n (fun x => { x with order := x.order.filter (fun y => y ≠ o), ready := x.ready.erase p,
                                      sendQ := x.sendQ ++ [{ pkt := p, cls := 2 }] }), blocked)
  ((s.ni n).order.foldl step (s, [])).1

/-- Sends an answer in the order its class asks for. -/
def State.answer (s : State) (n : Nat) (q p : Packet) : State :=
  if q.lane = 2 ∧ (s.ni n).order.contains (q.hdr.src, q.hdr.pseq) then
    (s.modNi n (fun x => { x with ready := x.ready ++ [p] })).releaseAnswers n
  else
    let s := if q.lane = 4 then s.modNi n (fun x => { x with open3 := x.open3.erase (q.hdr.src, q.hdr.pseq) }) else s
    s.queueAnswer n q p

/-- Whether SC2 or SC3 carries a packet's request. -/
def pairLane (p : Packet) : Bool := decide (p.lane = 2 ∨ p.lane = 4)

/-- Whether a packet belongs to SC2 or SC3 (R30). -/
def pairClass (p : Packet) : Bool := decide (2 ≤ p.lane ∧ p.lane ≤ 5)

/-- Notes the status of a refused request, or of an ACK, that the reply store does not hold, so that a duplicate gets the same
answer again (R307; DESIGN CHOICE, log 51). -/
def State.mark (s : State) (n : Nat) (q : Packet) (status : Nat) : State :=
  if pairLane q ∧ status ≠ 0 then
    s.modNi n (fun x => { x with marks := x.marks ++ [(q.hdr.src, decide (q.lane = 4), q.hdr.pseq, status)] })
  else s

/-- Whether a request's reply goes into the reply store (R308). -/
def storeable (q : Packet) : Bool :=
  pairLane q &&
    (decide (q.hdr.opcode = 0x03 ∨ q.hdr.opcode = 0x05 ∨ q.hdr.opcode = 0x06 ∨ q.hdr.opcode = 0x09)
      || (decide (q.hdr.opcode = 0x01) && q.hdr.ctrl))

/-- Answers an executed request, and keeps the reply where R308 says so. -/
def State.reply (s : State) (n : Nat) (q : Packet) (status : Nat) (data : Bytes := []) : State :=
  let p := answerTo n q (answerOp q.hdr.opcode) status data
  let s := if storeable q then
      s.modNi n (fun x => { x with promised := x.promised - 1,
                                   replies := x.replies ++ [{ src := q.hdr.src, sc3 := decide (q.lane = 4), pseq := q.hdr.pseq, pkt := p }] })
    else s
  s.answer n q p

/-- Acknowledges a posted SC2 or SC3 request (R275, R337); other classes get no answer. -/
def State.acknowledge (s : State) (n : Nat) (q : Packet) (status : Nat) : State :=
  if pairLane q then (s.mark n q status).answer n q (answerTo n q 0x83 status) else s

/-- Presents an access to an NI. -/
def State.pushAccess (s : State) (n : Nat) (a : Access) : State := s.modNi n (fun x => { x with inbox := x.inbox ++ [a] })

/-- The part of an origin that bytes off to off + len of its access stand for. -/
def Origin.part (o : Origin) (off len : Nat) : Origin :=
  match o with
  | .dma e q w (.source n a _) => .dma e q w (.source n (a + off) len)
  | .dma e q w (.dest n a _) => .dma e q w (.dest n (a + off) len)
  | .ring e r (.dest n a _) => .ring e r (.dest n (a + off) len)
  | .bridge b id a _ => .bridge b id (a + off) len
  | o => o

/-- Pieces of a run of bytes that cross neither a 4 KiB boundary of the address nor 512 bytes (R270, R271): offset
and length of each. -/
def pieces : Nat → Nat → Nat → Nat → List (Nat × Nat)
  | 0, _, _, _ => []
  | fuel + 1, addr, off, len =>
    if len = 0 then []
    else
      let n := min (min len 512) (4096 - (addr + off) % 4096)
      (off, n) :: pieces fuel addr (off + n) (len - n)

/-- Pieces of an access of len bytes at an address; a zero-length access is one piece. -/
def accessPieces (addr len : Nat) : List (Nat × Nat) :=
  if len = 0 then [(0, 0)] else pieces (len / 512 + len / 4096 + 4) addr 0 len

end Sys2Proof.Machine
end

