-- ==== Sys2Proof/Machine/Transfer.lean ====
section
/-! DEFINITION. Image transfer over CAN and its state (R82 to R87, R102 to R104), and the release of a claim (R94). -/

namespace Sys2Proof.Machine

/-- Device states in which the hub answers image-transfer frames (R63). -/
def State.transferServed (s : State) : Bool :=
  match s.dev with
  | .moored => true | .launch => true | .afloat => true | .easy => true
  | .standby => false | .muster => false | .halted => false

/-- 0x2080:01 (R508): 3 while an image is held. -/
def State.xferState (s : State) : Nat :=
  if s.img.state ≠ .empty then 3
  else match s.img.xfer with
    | .idle => 0 | .openCan => 1 | .openHost => 2 | .closed => 3

/-- A frame of the image-transfer service from the hub (R82). -/
def State.xferFrame (s : State) (cmd result value : Nat) (extra : Bytes := []) : State :=
  s.sendFrame { id := 0x1F4A0080 + s.nodeId, ext := true, fd := true,
                data := padTo 64 (leBytes cmd 1 ++ leBytes result 1 ++ [0, 0] ++ leBytes value 4 ++ extra) }

/-- A frame that carries a RESULT, which 0x2080:05 records (R85). -/
def State.xferResult (s : State) (cmd result value : Nat) : State := (s.obSet 0x2080 5 result).xferFrame cmd result value

/-- Discards the staged bytes and closes the transfer. -/
def State.xferReset (s : State) : State :=
  { s with img := { s.img with xfer := .idle, staging := [] }, can := { s.can with sinceAck := 0, ackTimer := false } }

/-- Staging and the shadow tables are emptied (R515, R516). -/
def State.discardImage (s : State) : State :=
  let s := ((s.obSet 0x2602 3 0).obSet 0x2602 4 0).obSet 0x2602 5 0
  { s with img := { s.img with state := .empty, xfer := .idle, staging := [], shadow := none, emptying := false, buildId := [] } }

/-- A flash write has still to read staged bytes: it erases, programs or verifies the image (R522, R526). -/
def State.flashReads (s : State) : Bool :=
  match s.boat.flash.op with
  | some o => ! o.erase && decide (o.phase < 4)
  | none => false

/-- A START change has made the staged tables active: staging empties now, or once a flash write has read it (R515, R526). -/
def State.emptyStaging (s : State) : State :=
  if s.flashReads then { s with img := { s.img with emptying := true } } else s.discardImage

/-- Aborts an open transfer with a RESULT (R85, R103, R104); the CAN client is told by an ABORT frame (DEDUCED, log 52, from
R82: ABORT travels either way and gives the reason). -/
def State.xferAbort (s : State) (result : Nat) : State :=
  if s.img.xfer = .openCan then s.xferReset.xferResult 4 result 0
  else if s.img.xfer = .openHost then s.xferReset.obSet 0x2080 5 result
  else s

/-- Releases a claim (R93, R94): EMCY 0xFF30, and an open transfer is aborted (R104). -/
def State.releaseClaim (s : State) : State :=
  match s.dict.owner with
  | none => s
  | some p =>
    (({ s with dict := { s.dict with owner := none } }).emcy 0xFF30 [0, BitVec.ofNat 8 (pathNum p)]).xferAbort 7

/-- Opens a transfer of a length. -/
def State.xferStart (s : State) (x : XferState) (length : Nat) : State :=
  let s := { s with img := { s.img with xfer := x, staging := [] }, can := { s.can with sinceAck := 0, ackTimer := false } }
  ((s.obSet 0x2080 2 length).obSet 0x2080 3 0).obSet 0x2080 4 0

/-- Stores bytes in the staging SRAM. -/
def State.stageBytes (s : State) (off : Nat) (data : Bytes) : State :=
  { s with img := { s.img with staging := ((List.range data.length).zip data).foldl (fun m e => sins m (off + e.1) e.2) s.img.staging } }

/-- A run of a sparse table of bytes; a byte not listed reads 0. -/
def denseFrom : Nat → Nat → SMap Byte → Bytes
  | _, 0, _ => []
  | _, n + 1, [] => List.replicate (n + 1) 0
  | i, n + 1, (j, v) :: rest => if j = i then v :: denseFrom (i + 1) n rest else 0 :: denseFrom (i + 1) n ((j, v) :: rest)

/-- The bytes staged so far. -/
def State.staged (s : State) : Bytes := denseFrom 0 s.img.staging.length s.img.staging

/-- DATA_ACK with the next expected offset and the window. Each DATA_ACK, whatever it is sent for, starts the count of 8 DATA
frames of R83 again (DEDUCED, log 52). -/
def State.dataAck (s : State) : State :=
  ({ s with can := { s.can with sinceAck := 0 } }).xferFrame 0x82 0 (s.ob 0x2080 3) [16]

/-- OPEN (R83, R85). A fault of the frame itself is judged before the owner and the open transfer (DEDUCED, log 52). -/
def execXopen (length : Nat) (s : State) : Host.Outcome State Fault Refusal :=
  done s (
    if ¬ s.transferServed then s
    else
      let r := if length = 0 then 4 else if length > 2097152 then 3 else if s.dict.owner ≠ some .can then 1
        else if s.xferState ≠ 0 then 2 else 0
      let s := if r = 0 then s.xferStart .openCan length else s
      s.xferResult 0x81 r 0)

/-- DATA (R84, R85). -/
def execXdata (offset len : Nat) (payload : Bytes) (s : State) : Host.Outcome State Fault Refusal :=
  done s (
    if ¬ s.transferServed then s
    else if s.img.xfer ≠ .openCan then s.xferResult 4 9 0
    else if len = 0 ∨ 56 < len ∨ s.ob 0x2080 2 < offset + len then s.xferReset.xferResult 4 4 0
    else
      let s := { s with can := { s.can with ackTimer := true } }
      if offset = s.ob 0x2080 3 then
        let s := (s.stageBytes offset (padTo len payload)).obSet 0x2080 3 (offset + len)
        let s := { s with can := { s.can with sinceAck := s.can.sinceAck + 1 } }
        if s.can.sinceAck ≥ 8 then s.dataAck else s
      else s.dataAck)

/-- Closes a transfer whose bytes are all there and whose CRC matches: the image goes to validation (R86, R509). `source` is
what IMAGE_SOURCE reads. -/
def State.xferClosed (s : State) (source : Nat) : State :=
  ({ s with img := { s.img with xfer := .closed, state := .validating, seen := s.dev } }).obSet 0x2602 5 source

/-- CLOSE (R86). -/
def execXclose (crc : Nat) (s : State) : Host.Outcome State Fault Refusal :=
  done s (
    if ¬ s.transferServed then s
    else if s.img.xfer ≠ .openCan then s.xferResult 4 9 0
    else
      let c := crc32c s.staged
      let s := s.obSet 0x2080 4 c
      let r := if s.ob 0x2080 3 ≠ s.ob 0x2080 2 then 6 else if crc ≠ c then 8 else 0
      (if r = 0 then s.xferClosed 1 else s.xferReset).xferResult 0x83 r c)

/-- ABORT from the client: ignored unless a CAN transfer is open (R85). The hub answers with no RESULT; that 0x2080:05 then
reads ABORTED is the model's choice (DEDUCED, log 52). -/
def execXabort (_reason : Nat) (s : State) : Host.Outcome State Fault Refusal :=
  done s (if s.transferServed ∧ s.img.xfer = .openCan then s.xferReset.obSet 0x2080 5 7 else s)

/-- STATUS (R82, R85). -/
def execXstatus (s : State) : Host.Outcome State Fault Refusal :=
  done s (
    if s.transferServed then
      s.xferFrame 0x85 0 (if s.img.xfer = .openCan then s.ob 0x2080 3 else 0) (leBytes s.xferState 1)
    else s)

/-- BAD_COMMAND (R85): an open transfer continues unchanged. -/
def execBadCommand (s : State) : Host.Outcome State Fault Refusal :=
  done s (if s.transferServed then s.xferResult 4 0xA 0 else s)

/-- DATA_ACK_TIMER: 2 ms after the last DATA frame (R83), whether or not a DATA_ACK has answered that frame already. -/
def execDataAckTimer (s : State) : Host.Outcome State Fault Refusal :=
  done s (if s.img.xfer = .openCan ∧ s.can.ackTimer then ({ s with can := { s.can with ackTimer := false } }).dataAck else s)

/-- TRANSFER_TIMEOUT: no frame for 1000 ms (R82, RESULT 0x05). -/
def execTransferTimeout (s : State) : Host.Outcome State Fault Refusal :=
  done s (if s.img.xfer = .openCan then s.xferAbort 5 else s)

end Sys2Proof.Machine
end

