-- ==== Sys2Proof/Machine/Events.lean ====
section
/-! DEFINITION. Event queues: the fall-through chains EQ0 to EQ7 and the ping-pong banks EQ8 to EQ15 (R423 to R432). -/

namespace Sys2Proof.Machine

/-- The idle item (R425). -/
def idleItem : Nat := 2 ^ 63

/-- Chain capacity, bank capacity (R423). -/
def eqCap (i : Nat) : Nat := if i < 8 then 16 else 256

/-- Whether the writer sees FULL: always at capacity, and perhaps up to 2 entries early, or for 2 writes after space has been
freed (R426). -/
def State.eqFull (s : State) (i : Nat) : Bool × State :=
  let n := (s.evq i).items.length
  if n ≥ eqCap i then (true, s) else if n + 2 ≥ eqCap i ∨ 0 < (s.evq i).late then s.drawBit else (false, s)

/-- The queue after items have left the writer's side: where it may have been FULL, the next 2 writes may still see that (R426). -/
def EventQ.freed (old new : EventQ) (i : Nat) : EventQ :=
  if new.items.length < old.items.length ∧ eqCap i ≤ old.items.length + 2 then { new with late := 2 } else new

/-- Counts n lost items of a queue; an engine whose doorbell queue lost one scans (R397). -/
def State.eqLose (s : State) (i n : Nat) : State :=
  if n = 0 then s
  else
    let s := s.bumpBy (0x4E00 + i) 5 n
    if i < 8 then s.modEng i (fun e => { e with scanDue := true }) else s

/-- Hands the writer's bank over when the reader holds none and it is full, or its first item is SWAP_TIME strokes
old (R427). -/
def State.eqHandover (s : State) (i : Nat) : State :=
  let q := s.evq i
  let old : Bool := match q.firstAt with
    | some t => decide (t + 2048 * s.ob (0x4E00 + i) 0xA ≤ s.clk.fab)
    | none => false
  if 8 ≤ i ∧ q.bank.isEmpty ∧ ¬ q.items.isEmpty ∧ (q.items.length ≥ 256 ∨ old) then
    s.setEvq i (q.freed { q with bank := q.items, items := [], firstAt := none } i)
  else s

/-- Takes an armed injection of TYPE 4: the next item written to its queue (R552). -/
def State.injectItem (s : State) (i : Nat) : State × Nat :=
  let t := s.flt.injTarget
  if s.flt.inject = .armed ∧ field t 31 28 = 4 ∧ field t 13 8 = i then
    (({ s with flt := { s.flt with inject := .done } }).bump 0x2440 5, field t 27 26)
  else (s, 0)

/-- Writes an item. At a full queue it overwrites the oldest item that the reader cannot see: the second-oldest of a
chain, the oldest of the writer's bank (R424, R428). A FULL seen late, when no such item is left, overwrites none and loses none. -/
def State.eqWrite (s : State) (i kind data : Nat) : State :=
  let (full, s) := s.eqFull i
  let (s, errs) := s.injectItem i
  let q := s.evq i
  let v := (kind % 128) <<< 56 ||| (q.seq % 256) <<< 48 ||| data % 2 ^ 48
  let items := if full then (if i < 8 then q.items.take 1 ++ q.items.drop 2 else q.items.drop 1) else q.items
  let s := s.setEvq i { q with
    items := items ++ [{ value := v, errs := errs, at_ := s.clk.now }]
    seq := (q.seq + 1) % 256
    late := q.late - 1
    firstAt := if 8 ≤ i then some (q.firstAt.getD s.clk.fab) else none }
  let s := s.eqLose i (q.items.length - items.length)
  s.eqHandover i

/-- The readable items: the chain, or the reader's bank. -/
def EventQ.readable (q : EventQ) (i : Nat) : List EqItem := if i < 8 then q.items else q.bank

/-- Drops uncorrectable items at the head and counts them (R429); then the head, if any, counted when corrected. -/
def State.eqClean (s : State) (i : Nat) : Nat → State
  | 0 => s
  | n + 1 =>
    match (s.evq i).readable i with
    | [] => s
    | h :: rest =>
      if h.errs < 2 then s
      else
        let q := s.evq i
        let s := s.setEvq i (if i < 8 then q.freed { q with items := rest } i else { q with bank := rest })
        ((s.bump (0x4E00 + i) 7).eqLose i 1).eqClean i n

/-- The item at the head, and the queue cleaned. -/
def State.eqHead (s : State) (i : Nat) : Option Nat × State :=
  let s := s.eqClean i 257
  match (s.evq i).readable i with
  | [] => (none, s)
  | h :: _ => (some h.value, s)

/-- Removes the head, which is delivered: a corrected item counts (R429). -/
def State.eqDrop (s : State) (i : Nat) : State :=
  let q := s.evq i
  let s := if (q.readable i).head?.any (fun h => h.errs = 1) then s.bump (0x4E00 + i) 6 else s
  (s.setEvq i (if i < 8 then q.freed { q with items := q.items.drop 1 } i else { q with bank := q.bank.drop 1 })).eqHandover i

/-- Takes the head item, as the engine or the Steward does. -/
def State.eqPop (s : State) (i : Nat) : Option Nat × State :=
  match s.eqHead i with
  | (none, s) => (none, s)
  | (some v, s) => (some v, s.eqDrop i)

/-- Whether an item may still be hidden from the reader of a queue (R426). -/
def State.eqFresh (s : State) (i : Nat) (h : EqItem) : Bool := decide (s.clk.now ≤ h.at_ + (if i < 8 then 9 else 36))

/-- EMPTY may persist for up to 3 reader cycles after a write (R426): 9 FAB cycles of a DME reader, 36 whole ones of an
MGT reader. -/
def State.eqPersists (s : State) (i : Nat) : Bool × State :=
  match (s.evq i).readable i with
  | [] => (true, s)
  | h :: _ => if s.eqFresh i h then s.drawBit else (false, s)

/-- Whether the dictionary is the reader of a queue (R423, R430). -/
def State.dictReads (s : State) (i : Nat) : Bool := decide (8 ≤ i) && bitAt (s.ob (0x4E00 + i) 9) 15

/-- A read of EQ_HEAD and the value it returns (R430, R431). -/
def State.eqRead (s : State) (i : Nat) (how : EqRead) : Nat × State :=
  match how, (s.evq i).latched with
  | .dictHigh, some x => (x, s.setEvq i { s.evq i with latched := none })
  | _, _ =>
  let (empty, s) := s.eqPersists i
  let (h, s) := if empty then (none, s) else s.eqHead i
  let v := h.getD idleItem
  let pop (s : State) : State := if h.isSome then s.eqDrop i else s
  match how with
  | .named => (v, pop s)
  | .dict8 => (v, if s.dictReads i then pop s else s)
  | .dictLow =>
    let s := if s.dictReads i then pop s else s
    (v % 2 ^ 32, s.setEvq i { s.evq i with latched := some (v / 2 ^ 32) })
  | .dictHigh => (if h.isSome then v / 2 ^ 32 else 0x80000000, s)

/-- Empties a queue (R431). -/
def State.eqFlush (s : State) (i : Nat) : State :=
  let q := s.evq i
  let n := q.items.length + q.bank.length
  let latched := q.latched.map (fun _ => 0x80000000)
  let s := s.setEvq i (q.freed { q with items := [], bank := [], firstAt := none, latched := latched } i)
  let s := s.eqLose i n
  if i < 8 then s.modEng i (fun e => { e with scanDue := true }) else s

/-- EQ_COUNT and EQ_FLAGS as they stand. -/
def State.eqCount (s : State) (i : Nat) : Nat := ((s.evq i).readable i).length
def State.eqFlags (s : State) (i : Nat) : Nat :=
  2 * b2n (decide ((s.evq i).items.length ≥ eqCap i)) + b2n (((s.evq i).readable i).isEmpty)

/-- A read of EQ_COUNT, which is never above the true count: items written a moment ago may be missing (R426, R434). -/
def State.eqCountRead (s : State) (i : Nat) : Nat × State :=
  let r := (((s.evq i).readable i).filter (s.eqFresh i)).length
  if r = 0 then (s.eqCount i, s)
  else
    let (x, s) := s.drawNat
    (s.eqCount i - x % (r + 1), s)

/-- A read of EQ_FLAGS: both flags are pessimistic (R426, R434). -/
def State.eqFlagsRead (s : State) (i : Nat) : Nat × State :=
  let (empty, s) := s.eqPersists i
  let (full, s) := s.eqFull i
  (2 * b2n full + b2n empty, s)

/-- Whether an engine has power. -/
def State.engineOn (s : State) (e : Nat) : Bool :=
  decide (s.domain (40 + e) = .on ∨ s.domain (40 + e) = .fencing ∨ s.domain (40 + e) = .draining)

/-- Whether an event queue has power: a chain lies in its engine's domain, the banks in PD01 (R435). -/
def State.eqOn (s : State) (i : Nat) : Bool := decide (8 ≤ i) || s.engineOn i

/-- EQ_WRITE: a block writes an item (R424, R428). -/
def execEqWrite (i : Fin 16) (kind data : Nat) (s : State) : Host.Outcome State Fault Refusal :=
  done s (if s.eqOn i.val then s.eqWrite i.val kind data else s)

/-- EQ_HEAD_READ (R430). -/
def execEqHeadRead (i : Fin 16) (how : EqRead) (s : State) : Host.Outcome State Fault Refusal :=
  done s (if s.eqOn i.val then (s.eqRead i.val how).2 else s)

/-- BANK_HANDOVER (R427). -/
def execBankHandover (i : Fin 16) (s : State) : Host.Outcome State Fault Refusal := done s (s.eqHandover i.val)

end Sys2Proof.Machine
end

