-- ==== Sys2Proof/Machine/Engines.lean ====
section
/-! DEFINITION. DMA-and-message engines: descriptor queues, what becomes of a completed access, doorbells, aborts and
completion records (R389 to R410). -/

namespace Sys2Proof.Machine

/-! ### Configuration of a queue -/

def qConfig (s : State) (e q : Nat) : Nat := s.kv (skey (0x4C00 + e) 4 q)
def qLog (s : State) (e q : Nat) : Nat := field (qConfig s e q) 27 24
def qRing (s : State) (e q : Nat) : Nat := s.kv (skey (0x4C00 + e) 2 q)
def qCmpl (s : State) (e q : Nat) : Nat := s.kv (skey (0x4C00 + e) 3 q)

def State.dq (s : State) (e q : Nat) : DQueue := sget {} (s.eng e).queues q
def State.setDq (s : State) (e q : Nat) (x : DQueue) : State := s.modEng e (fun g => { g with queues := sput {} g.queues q x })

/-- Queue states as numbers (R410). -/
def qNum : QState → Nat
  | .disabled => 0 | .idle => 1 | .running => 2 | .aborting => 3 | .stopped => 4 | .error => 5

/-- Q_STATUS. -/
def State.qStatus (s : State) (e q : Nat) : Nat :=
  let x := s.dq e q
  qNum x.state <<< 61 ||| b2n x.abortLate <<< 60 ||| b2n x.ringError <<< 59 ||| x.producer <<< 16 ||| x.consumer

/-- The distance from one 16-bit index to another (R390). -/
def ahead (a b : Nat) : Nat := (a + 65536 - b) % 65536

/-- A window of an NI that translates an address (R324): number, base, limit, target, attributes. -/
def State.windowAt (s : State) (n addr : Nat) : Option (Nat × Nat × Nat × Nat × Nat) :=
  (List.range 32).findSome? (fun w =>
    let b := s.ob (0x4000 + n) (4 * w + 1)
    let l := s.ob (0x4000 + n) (4 * w + 2)
    let a := s.ob (0x4000 + n) (4 * w + 4)
    if bitAt a 31 ∧ b ≤ addr ∧ addr ≤ l then some (w, b, l, s.ob (0x4000 + n) (4 * w + 3), a) else none)

/-- Signals an interrupt vector (R405, R417, R452): a posted write to INT_TRIGGER of the host bridge of `cfg`,
formed without a window, with the key of the window that translates `base`. -/
def State.signal (s : State) (e cfg base : Nat) : State :=
  let n := niOfDm e
  let key := match s.windowAt n base with
    | some (_, _, _, t, _) => field t 63 48
    | none => 0
  let target := if bitAt cfg 8 then 4 else 3
  s.pushAccess n { kind := .write, len := 8, data := leBytes (cfg % 256) 8, direct := some (mkFa 1 target 0, key) }

/-- A queue enters ERROR. -/
def State.qError (s : State) (e q : Nat) (ring : Bool) : State :=
  let x := s.dq e q
  let s := if x.state = .error then s else s.bump (0x4C00 + e) 0x42
  s.setDq e q { s.dq e q with state := .error, ringError := x.ringError || ring }

/-! ### Descriptors -/

/-- Reads a descriptor's 32 bytes (R398), and says whether R400 refuses it. -/
def parseDesc (index : Nat) (b : Bytes) : Desc :=
  let c := leAt b 0 4
  let l := leAt b 4 4
  let op := field c 31 28
  let len := field l 24 0
  let src := leAt b 8 8
  let dst := leAt b 16 8
  let aux := leAt b 24 8
  let aop := field c 19 16
  let lenOk : Bool :=
    if op = 0 then decide (len = 0) else if op = 1 ∨ op = 5 then decide (1 ≤ len ∧ len ≤ 16777216)
    else if op = 2 ∨ op = 3 then decide (1 ≤ len ∧ len ≤ 16) else if op = 4 then decide (1 ≤ len ∧ len ≤ 65536) else true
  let srcAddr : Bool := decide (op = 1 ∨ op = 3 ∨ op = 4 ∨ op = 5 ∨ (op = 6 ∧ aop = 5))
  let dstAddr : Bool := decide (op = 1 ∨ op = 2 ∨ op = 4 ∨ op = 5 ∨ op = 6)
  let auxOk : Bool := if op = 2 ∨ op = 6 then true else if op = 4 then decide (aux < 2 ^ 32) else decide (aux = 0)
  let bad := decide (op > 6 ∨ field c 27 26 = 3 ∨ field c 22 20 ≠ 0 ∨ field l 31 25 ≠ 0) || ! lenOk || ! auxOk
    || (srcAddr && decide (2 ^ 48 ≤ src)) || (dstAddr && decide (2 ^ 48 ≤ dst))
  { index := index, op := op, barrier := field c 27 26, irq := bitAt c 25, ackReq := bitAt c 24, fence := bitAt c 23, aop := aop,
    userTag := field c 15 0, length := len, src := src, dst := dst, aux := aux, bad := bad }

/-- A descriptor that moves its data in chunks (R393). -/
def Desc.chunked (d : Desc) : Bool := decide (d.op = 1 ∨ d.op = 4 ∨ d.op = 5) && ! d.bad

/-- Size of an atomic (R299); 0 for the unassigned codes. -/
def atomicSize (aop : Nat) : Nat :=
  if aop = 5 then 16 else if aop ≥ 14 then 0
  else if aop = 4 then 8 else if aop % 2 = 0 then 4 else 8

/-- Every access of a work has been issued: its chunks read and written out, the atomic after its operand block. -/
def Work.issued (w : Work) : Bool :=
  ! w.failed.isEmpty || w.desc.bad
    || (if w.desc.chunked then decide (w.next ≥ w.desc.length) && w.chunks.isEmpty else decide (w.operands = 0))

/-- A work has completed: all is issued, and answered. -/
def Work.complete (w : Work) : Bool := w.issued && decide (w.pending = 0)

/-- Place of a packet in the order of issue: that of its access, then its first byte. -/
def issuePlace (seq off : Nat) : Nat := seq * 2 ^ 25 + off

/-- STATUS of a record: that of the failed packet issued first (R401). -/
def Work.status (w : Work) : Nat :=
  if w.desc.bad then 2
  else (w.failed.foldl (fun (b : Option (Nat × Nat)) f =>
    match b with
    | none => some f
    | some g => if f.1 < g.1 then some f else b) none).elim 0 (·.2)

/-- The longest prefix that ranges cover. -/
def prefixOf : Nat → List (Nat × Nat) → Nat → Nat
  | 0, _, p => p
  | n + 1, l, p =>
    match l.find? (fun r => decide (r.1 ≤ p ∧ p < r.1 + r.2)) with
    | some r => prefixOf n l (r.1 + r.2)
    | none => p

/-- BYTES_DONE (R403). -/
def Work.bytesDone (w : Work) (aborted : Bool) : Nat :=
  if ! aborted && (w.status = 0 || w.status = 0xC) then w.desc.length
  else min w.desc.length (prefixOf (w.done.length + 1) w.done 0)

/-- A completion record (R402). -/
def recordBytes (i log state status bytes tag stamp : Nat) (result : Bytes) : Bytes :=
  leBytes (state <<< 30 ||| ((i / 2 ^ log) % 2) <<< 29 ||| status <<< 24 ||| i % 65536) 4
    ++ leBytes bytes 4 ++ leBytes (tag <<< 48 ||| stamp % 2 ^ 48) 8 ++ padTo 16 result

/-! ### Completions of accesses -/

/-- Adds a work at the end of a queue's works. -/
def DQueue.addWork (x : DQueue) (w : Work) : DQueue := { x with works := x.works ++ [w], nextId := x.nextId + 1 }

/-- Packets of a SEND chunk (R411, R412). -/
def sendAccesses (e q : Nat) (w : Work) (c : Chunk) : List Access :=
  (accessPieces (w.desc.dst + c.off) c.len).map (fun p =>
    let off := c.off + p.1
    let first := decide (off = 0)
    let last := decide (off + p.2 = w.desc.length)
    { kind := if last && w.desc.ackReq then .sendNp else .send, addr := w.desc.dst + off, len := p.2, data := slice c.data p.1 p.2,
      inl := leBytes w.desc.length 4 ++ leBytes (((q % 64) <<< 10) ||| (w.desc.index % 1024)) 2
               ++ leBytes (2 * b2n last + b2n first) 1 ++ [0] ++ leBytes w.desc.aux 4,
      fence := w.desc.fence || ! first, origin := .dma e q w.id (.dest w.seq off p.2) })

/-- The accesses that write a whole chunk out. -/
def chunkAccesses (e q : Nat) (w : Work) (c : Chunk) : List Access :=
  if w.desc.op = 4 then sendAccesses e q w c
  else [{ kind := .write, addr := w.desc.dst + c.off, len := c.len, data := c.data, fence := w.desc.fence,
          mcast := some (decide (w.desc.op = 5)), origin := .dma e q w.id (.dest w.seq c.off c.len) }]

/-- Writes out the chunks at the front that have wholly arrived; a failed or aborted work writes no more. -/
def drainChunks (e q : Nat) (halt : Bool) : Nat → Work → Work × List Access
  | 0, w => (w, [])
  | n + 1, w =>
    match w.chunks with
    | [] => (w, [])
    | c :: rest =>
      if c.left > 0 then (w, [])
      else if halt || ! w.failed.isEmpty then drainChunks e q halt n { w with chunks := rest }
      else
        let accs := chunkAccesses e q w c
        let w' := { w with chunks := rest, pending := w.pending + c.len, seq := w.seq + 1 }
        let (w'', more) := drainChunks e q halt n w'
        (w'', accs ++ more)

/-- The atomic of an ATOMIC descriptor (R299). -/
def atomicAccess (e q : Nat) (w : Work) : Access :=
  let d := w.desc
  let ops := if d.aop = 5 then padTo 32 w.block else leBytes d.src 16 ++ leBytes d.aux 16
  { kind := .atomic, addr := d.dst, len := atomicSize d.aop, inl := ops, aop := d.aop, fence := d.fence,
    origin := .dma e q w.id (.result w.seq) }

/-- Replaces a work of a queue. -/
def DQueue.putWork (x : DQueue) (w : Work) : DQueue :=
  { x with works := x.works.map (fun v => if v.id = w.id then w else v) }

/-- An access of a work has been answered: data of a source read fills its chunk or the result; a whole chunk is
written out; the atomic follows its operand block (R399, R401). What BYTES_MOVED counts is DEDUCED, log 107. -/
def State.workAnswer (s : State) (e q : Nat) (w : Work) (use : DmaUse) (status : Nat) (data : Bytes) : State :=
  let fail (w : Work) (n off : Nat) : Work := if status = 0 then w else { w with failed := w.failed ++ [(issuePlace n off, status)] }
  let moved (n : Nat) : State := if status = 0 then s.bumpBy (0x4C00 + e) 0x43 n else s
  let halt : Bool := decide ((s.dq e q).state ≠ .running)
  let finish (s : State) (w : Work) (accs : List Access) : State :=
    let s := s.setDq e q ((s.dq e q).putWork w)
    accs.foldl (fun s a => s.pushAccess (niOfDm e) a) s
  match use with
  | .source n off len =>
    let s := moved len
    let w := fail { w with pending := w.pending - len } n off
    if w.desc.chunked then
      let w := { w with chunks := w.chunks.map (fun c =>
        if c.off ≤ off ∧ off < c.off + c.len then { c with left := c.left - len, data := patch c.data (off - c.off) data } else c) }
      let (w, accs) := drainChunks e q halt 17 w
      finish s w accs
    else
      let w := if w.desc.op = 3 then
          (if status = 0 then { w with result := patch w.result off data, done := w.done ++ [(off, len)] } else w)
        else { w with block := patch w.block off data, operands := w.operands - len }
      if w.desc.op = 6 ∧ w.operands = 0 ∧ w.failed.isEmpty ∧ ¬ halt then
        finish s { w with pending := w.pending + 1, seq := w.seq + 1 } [atomicAccess e q w]
      else finish s w []
  | .dest n off len =>
    let s := moved len
    let w := { w with pending := w.pending - len, done := if status = 0 then w.done ++ [(off, len)] else w.done }
    finish s (fail w n off) []
  | .result n =>
    let s := moved (atomicSize w.desc.aop)
    let w := { w with pending := w.pending - 1, result := if status = 0 then data else [] }
    finish s (fail w n 0) []
  | .barrier => finish s { w with pending := w.pending - 1 } []
  | .descriptors _ _ => s
  | .record _ => s

/-- Takes the answer of a descriptor read (R392). A read that fails gives a record with its status (DEDUCED, log 34,
from R401). -/
def State.ringAnswer (s : State) (e q first count status : Nat) (data : Bytes) : State :=
  let x := s.dq e q
  let x := { x with fetching := none }
  if status = 0 then
    s.setDq e q { x with descs := x.descs ++ (List.range count).map (fun j => parseDesc ((first + j) % 65536) (slice data (32 * j) 32)),
                         fetch := (first + count) % 65536 }
  else
    s.setDq e q ({ x with fetch := (first + 1) % 65536 }.addWork { id := x.nextId, desc := { index := first }, failed := [(0, status)] })

/-- Takes the answer of a record's write: it is acknowledged, or the queue enters ERROR (R404, R405). -/
def State.recordAnswer (s : State) (e q index status : Nat) : State :=
  let x := s.dq e q
  match x.records.find? (fun r => decide (r.1 = index)) with
  | none => s
  | some r =>
    let x := { x with records := x.records.erase r }
    if status = 0 then s.setDq e q { x with acked := x.acked ++ [r.2] }
    else
      ((s.setDq e q x).qError e q true).raise 0x0702 2 (niOfDm e) q index

/-- An access of a descriptor queue has completed. -/
def State.dmaAnswer (s : State) (e q w : Nat) (use : DmaUse) (status : Nat) (data : Bytes) : State :=
  match use with
  | .descriptors first count => if (s.dq e q).fetching = some w then s.ringAnswer e q first count status data else s
  | .record i => s.recordAnswer e q i status
  | use =>
    match (s.dq e q).works.find? (fun v => decide (v.id = w)) with
    | some v => s.workAnswer e q v use status data
    | none => s

/-! ### Doorbells, abort and restart -/

/-- A write to a register of a fast page. That of an engine without power falls to the domain's proxy, which drops and counts it
(R51, R436, R568; DESIGN CHOICE, log 105: the row brings no packet to answer). -/
def State.atEngine (s : State) (e : Nat) (go : State → State) : State :=
  if s.engineOn e then go s else s.bump (0x2210 + (40 + e)) 6

/-- Q_DOORBELL: stores the index and writes the notification item (R396). -/
def State.doorbell (s : State) (e q v : Nat) : State :=
  (s.setDq e q { s.dq e q with producer := v % 65536 }).eqWrite e 1 (q <<< 16 ||| v % 65536)

/-- MB_PRODUCER (R396). -/
def State.mbPost (s : State) (e r v : Nat) : State :=
  (s.modEng e (fun g => { g with rings := smod {} g.rings r (fun x => { x with producer := v % 65536 }) })).eqWrite e 4 (r <<< 16 ||| v % 65536)

/-- The engine acts on a producer index (R391, R409, R410). -/
def State.actDoorbell (s : State) (e q p : Nat) : State :=
  let x := s.dq e q
  if x.state = .disabled ∨ x.state = .stopped ∨ x.state = .error then s.setDq e q { x with seen := p }
  else if ahead p x.consumer > 2 ^ qLog s e q then
    ((s.setDq e q { x with seen := p }).qError e q true).raise 0x0701 2 (niOfDm e) q p
  else s.setDq e q { x with seen := p, state := if x.state = .idle ∧ p ≠ x.consumer then .running else x.state }

/-- A DOORBELL item of queue q tells nothing new any more. -/
def EqItem.spend (i : EqItem) (q : Nat) : EqItem :=
  if field i.value 62 56 = 1 ∧ field i.value 21 16 = q then { i with scanned := true } else i

/-- The engine acts on the producer register as it stands: the DOORBELL items of the queue that wait in EQ e tell nothing new. -/
def State.actProducer (s : State) (e q : Nat) : State :=
  let s := s.setEvq e { s.evq e with items := (s.evq e).items.map (fun i => i.spend q) }
  s.actDoorbell e q (s.dq e q).producer

/-- The engine acts on an ABORT item (R406, R407, R409), up to the producer register, which it judges as it takes it (R391). -/
def State.actAbort (s : State) (e q : Nat) : State :=
  let st := (s.dq e q).state
  if st = .idle ∨ st = .running then
    let s := s.actProducer e q
    let x := s.dq e q
    if x.state = .error then s
    else if x.producer = x.consumer then s.setDq e q { x with state := .stopped, abortLate := true }
    else s.setDq e q { x with state := .aborting, abortTo := some x.producer }
  else s

/-- The engine acts on a RESTART item (R409): what was read before is read anew from the consumer index on. The producer register,
which doorbells moved meanwhile, is judged now (R391). -/
def State.actRestart (s : State) (e q : Nat) : State :=
  let x := s.dq e q
  if x.state = .stopped ∨ x.state = .error then
    (s.setDq e q { x with abortLate := false, ringError := false, works := [], descs := [], fetch := x.consumer,
                          fetching := none, abortTo := none, state := .idle }).actProducer e q
  else s

/-! ### Rows of the fast pages -/

def execQDoorbell (e : EngineId) (q : Fin 64) (value : Nat) (s : State) : Host.Outcome State Fault Refusal :=
  done s (s.atEngine e.val (fun s => s.doorbell e.val q.val value))
/-- Q_ABORT and Q_RESTART write only the item (R396). -/
def execQAbort (e : EngineId) (q : Fin 64) (s : State) : Host.Outcome State Fault Refusal :=
  done s (s.atEngine e.val (fun s => s.eqWrite e.val 2 (q.val <<< 16)))
def execQRestart (e : EngineId) (q : Fin 64) (s : State) : Host.Outcome State Fault Refusal :=
  done s (s.atEngine e.val (fun s => s.eqWrite e.val 3 (q.val <<< 16)))
def execMbProducer (e : EngineId) (r : Fin 16) (value : Nat) (s : State) : Host.Outcome State Fault Refusal :=
  done s (s.atEngine e.val (fun s => s.mbPost e.val r.val value))

/-- Takes the item at the head of EQ e when it is of a kind, and acts on it. A scan has already acted on the producer registers
behind a notification that was there before it (R397). -/
def State.takeItem (s : State) (e kind : Nat) (act : State → Nat → State) : State :=
  let s := s.eqClean e 17
  match (s.evq e).items with
  | [] => s
  | h :: _ =>
    if field h.value 62 56 = kind then
      match s.eqPop e with
      | (some v, s) => if h.scanned && (kind = 1 || kind = 4) then s else act s v
      | (none, s) => s
    else s

def execDoorbellItem (e : EngineId) (s : State) : Host.Outcome State Fault Refusal :=
  done s (s.takeItem e.val 1 (fun s v => s.actDoorbell e.val (field v 21 16) (field v 15 0)))
def execAbortItem (e : EngineId) (s : State) : Host.Outcome State Fault Refusal :=
  done s (s.takeItem e.val 2 (fun s v => s.actAbort e.val (field v 21 16)))
def execRestartItem (e : EngineId) (s : State) : Host.Outcome State Fault Refusal :=
  done s (s.takeItem e.val 3 (fun s v => s.actRestart e.val (field v 21 16)))

/-! ### Reading and executing descriptors -/

/-- DESCRIPTOR_READ (R392): up to 8 descriptors in one read that wraps neither the ring nor a 4 KiB page. -/
def State.readDescriptors (s : State) (e q : Nat) : State :=
  let x := s.dq e q
  let log := qLog s e q
  let upto := x.abortTo.getD x.seen
  let n := min (min 8 (ahead upto x.fetch)) (min (2 ^ log - x.fetch % 2 ^ log) (128 - x.fetch % 128))
  if (x.state = .running ∨ x.state = .aborting) ∧ x.fetching = none ∧ x.descs.isEmpty ∧ 0 < n ∧ ahead upto x.fetch ≤ 2 ^ log then
    let s := s.setDq e q { x with fetching := some x.nextId, nextId := x.nextId + 1 }
    s.pushAccess (niOfDm e) { kind := .read, addr := qRing s e q + x.fetch % 2 ^ log * 32, len := 32 * n,
                              origin := .dma e q x.nextId (.descriptors x.fetch n) }
  else s

def execDescriptorRead (e : EngineId) (q : Fin 64) (s : State) : Host.Outcome State Fault Refusal :=
  done s (s.readDescriptors e.val q.val)

/-- The work that has a chunk to issue. -/
def DQueue.chunkWork (x : DQueue) : Option Work :=
  x.works.find? (fun w => w.desc.chunked && w.failed.isEmpty && decide (w.next < w.desc.length))

/-- A queue's next descriptor may start: the last chunk of the one before has been issued (R392). -/
def DQueue.mayStart (x : DQueue) : Bool :=
  decide (x.state = .running) && x.works.all Work.issued && x.works.all (fun w => w.status = 0 || w.status = 0xC)

/-- A queue has a chunk to issue or a descriptor to start. One with a reserved OP executes nothing: it takes its turn when its
record is written. -/
def DQueue.hasWork (x : DQueue) : Bool :=
  decide (x.state = .running) && (x.chunkWork.isSome || (x.mayStart && (match x.descs with
    | [] => false
    | d :: _ => decide (d.op ≤ 6) || x.works.isEmpty)))

/-- The queue whose turn it is (R393): the one that has turns left, or the next that has work, in rising order. -/
def State.turnOf (s : State) (e : Nat) : Option Nat :=
  let g := s.eng e
  if g.turnLeft > 0 ∧ (s.dq e g.turn).hasWork then some g.turn
  else ((List.range 64).map (fun k => (g.turn + 1 + k) % 64)).find? (fun q => (s.dq e q).hasWork)

/-- Takes one chunk of queue q's turn. -/
def State.takeTurn (s : State) (e q : Nat) : State :=
  let g := s.eng e
  let left := if g.turn = q ∧ g.turnLeft > 0 then g.turnLeft else field (qConfig s e q) 23 20
  s.modEng e (fun g => { g with turn := q, turnLeft := left - 1 })

/-- Starts the descriptor at the front of a queue when it is of an operation (R392 to R394, R399, R400). -/
def State.startDesc (s : State) (e q op : Nat) : State :=
  let x := s.dq e q
  match x.descs with
  | [] => s
  | d :: rest =>
    if d.op ≠ op ∨ ¬ x.mayStart ∨ s.turnOf e ≠ some q then s
    else
      let s := if d.chunked then s else s.takeTurn e q
      let w : Work := { id := x.nextId, desc := d }
      let x := { x with descs := rest }
      let put (w : Work) (accs : List Access) : State :=
        accs.foldl (fun s a => s.pushAccess (niOfDm e) a) (s.setDq e q (x.addWork w))
      if d.bad then put w []
      else
        let bar : List Access := if d.barrier = 0 then []
          else [{ kind := if d.barrier = 1 then .barW else .barFull, origin := .dma e q w.id .barrier }]
        let w := { w with pending := bar.length }
        let org (u : DmaUse) : Origin := .dma e q w.id u
        if d.op = 2 then
          put { w with pending := w.pending + d.length, seq := 1 }
            (bar ++ [{ kind := .write, addr := d.dst, len := d.length, data := (leBytes d.src 8 ++ leBytes d.aux 8).take d.length,
                       fence := d.fence, mcast := some false, short := true, origin := org (.dest 0 0 d.length) }])
        else if d.op = 3 then
          put { w with pending := w.pending + d.length, seq := 1 }
            (bar ++ [{ kind := .read, addr := d.src, len := d.length, fence := d.fence, origin := org (.source 0 0 d.length) }])
        else if d.op = 6 then
          if d.aop = 5 then
            put { w with pending := w.pending + 32, seq := 1, operands := 32 }
              (bar ++ [{ kind := .read, addr := d.src, len := 32, fence := d.fence, origin := org (.source 0 0 32) }])
          else put { w with pending := w.pending + 1, seq := 1 } (bar ++ [atomicAccess e q w])
        else put w bar

def execNop (e : EngineId) (q : Fin 64) (s : State) : Host.Outcome State Fault Refusal := done s (s.startDesc e.val q.val 0)
def execCopy (e : EngineId) (q : Fin 64) (s : State) : Host.Outcome State Fault Refusal := done s (s.startDesc e.val q.val 1)
def execPut (e : EngineId) (q : Fin 64) (s : State) : Host.Outcome State Fault Refusal := done s (s.startDesc e.val q.val 2)
def execGet (e : EngineId) (q : Fin 64) (s : State) : Host.Outcome State Fault Refusal := done s (s.startDesc e.val q.val 3)
def execSendDescriptor (e : EngineId) (q : Fin 64) (s : State) : Host.Outcome State Fault Refusal := done s (s.startDesc e.val q.val 4)
def execMcastPut (e : EngineId) (q : Fin 64) (s : State) : Host.Outcome State Fault Refusal := done s (s.startDesc e.val q.val 5)
def execAtomicDescriptor (e : EngineId) (q : Fin 64) (s : State) : Host.Outcome State Fault Refusal := done s (s.startDesc e.val q.val 6)

/-- Chunk buffers of an engine in use (R393). -/
def State.chunksUsed (s : State) (e : Nat) : Nat :=
  ((s.eng e).queues.map (fun q => (q.2.works.map (fun w => w.chunks.length)).sum)).sum

/-- CHUNK_ISSUE (R393): the read of the next chunk, up to the first 4 KiB boundary of source or destination. -/
def State.issueChunk (s : State) (e q : Nat) : State :=
  let x := s.dq e q
  match x.chunkWork with
  | none => s
  | some w =>
    if x.state ≠ .running ∨ s.turnOf e ≠ some q ∨ s.chunksUsed e ≥ 16 then s
    else
      let d := w.desc
      let len := min (d.length - w.next) (min (4096 - (d.src + w.next) % 4096) (4096 - (d.dst + w.next) % 4096))
      let s := s.takeTurn e q
      let w' := { w with next := w.next + len, seq := w.seq + 1, pending := w.pending + len, chunks := w.chunks ++ [{ off := w.next, len := len, left := len }] }
      (s.setDq e q (x.putWork w')).pushAccess (niOfDm e)
        { kind := .read, addr := d.src + w.next, len := len, fence := d.fence, origin := .dma e q w.id (.source w.seq w.next len) }

def execChunkIssue (e : EngineId) (q : Fin 64) (s : State) : Host.Outcome State Fault Refusal := done s (s.issueChunk e.val q.val)

/-! ### Records -/

/-- Issues a record (R402, R404): its write goes out, and the consumer index passes it. RESULT holds what has been answered, in every
state of the record. -/
def State.issueRecord (s : State) (e q : Nat) (w : Work) (aborted : Bool) : State :=
  let x := s.dq e q
  let i := x.consumer
  let log := qLog s e q
  let status := w.status
  let b := recordBytes i log (if aborted then 2 else 1) status (w.bytesDone aborted) w.desc.userTag s.stamp w.result
  let next := (i + 1) % 65536
  let s := s.setDq e q { x with consumer := next, records := x.records ++ [(i, w.desc.irq)] }
  let s := s.pushAccess (niOfDm e) { kind := .write, addr := qCmpl s e q + i % 2 ^ log * 32, len := 32, data := b, origin := .dma e q 0 (.record i) }
  let s := (s.setKv (skey (0x4C00 + e) 6 q) (satAdd 32 (s.kv (skey (0x4C00 + e) 6 q)) 1)).bump (0x4C00 + e) (if aborted then 0x41 else 0x40)
  if aborted then s
  else if status ≠ 0 ∧ status ≠ 0xC then s.qError e q false
  else
    let x := s.dq e q
    s.setDq e q { x with state := if x.state = .running ∧ next = x.seen then .idle else x.state }

/-- RECORD_WRITE: the record of the oldest descriptor without one, once it has completed (R401, R404). One with a reserved OP
counts as one chunk of its queue's turn (R393). -/
def State.recordStep (s : State) (e q : Nat) : State :=
  let x := s.dq e q
  if x.state ≠ .running then s
  else
    match x.works, x.descs with
    | w :: rest, _ => if w.complete then (s.setDq e q { x with works := rest }).issueRecord e q w false else s
    | [], d :: rest =>
      if d.op > 6 ∧ s.turnOf e = some q then ((s.takeTurn e q).setDq e q { x with descs := rest }).issueRecord e q { id := 0, desc := d } false else s
    | [], [] => s

/-- ABORTED records in ring order for every descriptor read and not yet recorded, up to the abort's index (R406). -/
def State.abortRecords (s : State) (e q : Nat) : Nat → State
  | 0 => s
  | n + 1 =>
    let x := s.dq e q
    if x.abortTo = some x.consumer then s
    else
      match x.works, x.descs with
      | w :: rest, _ =>
        ((s.setDq e q { x with works := rest }).issueRecord e q { w with desc := { w.desc with bad := false } } true).abortRecords e q n
      | [], d :: rest =>
        ((s.setDq e q { x with descs := rest }).issueRecord e q { id := 0, desc := { d with bad := false } } true).abortRecords e q n
      | [], [] => s

def execRecordWrite (e : EngineId) (q : Fin 64) (s : State) : Host.Outcome State Fault Refusal := done s (s.recordStep e.val q.val)

/-- RECORD_ACKNOWLEDGED: the interrupt of a record whose write has been acknowledged (R405). -/
def State.recordSignal (s : State) (e q : Nat) : State :=
  let x := s.dq e q
  match x.acked with
  | [] => s
  | irq :: rest =>
    let s := s.setDq e q { x with acked := rest }
    if irq then s.signal e (qConfig s e q) (qCmpl s e q) else s

def execRecordAcknowledged (e : EngineId) (q : Fin 64) (s : State) : Host.Outcome State Fault Refusal := done s (s.recordSignal e.val q.val)

/-- ABORT_COMPLETE: once every issued access is answered, the ABORTED records are written; with the last of them the
queue enters STOPPED (R406). Descriptors not yet read from the ring are read first, for their USER_TAG. -/
def execAbortComplete (e : EngineId) (q : Fin 64) (s : State) : Host.Outcome State Fault Refusal :=
  let e := e.val
  let q := q.val
  let x := s.dq e q
  done s (if x.state = .aborting ∧ x.works.all (fun w => decide (w.pending = 0)) then
      let s := s.abortRecords e q 4200
      let x := s.dq e q
      if x.abortTo = some x.consumer then
        s.setDq e q { x with state := .stopped, abortTo := none, works := [], descs := [], fetch := x.consumer, fetching := none }
      else s
    else s)

end Sys2Proof.Machine
end

