-- ==== Sys2Proof/Machine/Mailboxes.lean ====
section
/-! DEFINITION. Mailbox receive rings: frames, receive descriptors, ring exhaustion and the hold buffer (R411 to
R422), and the fast pages of an engine (R395). -/

namespace Sys2Proof.Machine

def mbConfig (s : State) (e r : Nat) : Nat := s.kv (skey (0x4C00 + e) 0x12 r)
def mbLog (s : State) (e r : Nat) : Nat := field (mbConfig s e r) 29 26
def mbHold (s : State) (e r : Nat) : Bool := bitAt (mbConfig s e r) 30
def mbRing (s : State) (e r : Nat) : Nat := s.kv (skey (0x4C00 + e) 0x11 r)

def State.ring (s : State) (e r : Nat) : Ring := sget {} (s.eng e).rings r
def State.setRing (s : State) (e r : Nat) (x : Ring) : State := s.modEng e (fun g => { g with rings := sput {} g.rings r x })

/-- MB_STATUS. -/
def State.mbStatus (s : State) (e r : Nat) : Nat :=
  let x := s.ring e r
  let st := match x.state with
    | .disabled => 0
    | .running => 1
    | .error => 2
  let openFrames := ((s.eng e).frames.filter (fun f => f.ring = r && ! f.dead)).length
  st <<< 62 ||| (openFrames % 16) <<< 32 ||| x.producer <<< 16 ||| x.consumer

/-- A frame is named by its ring, sender and FRAME_ID. -/
def Frame.same (f : Frame) (ring src id : Nat) : Bool := decide (f.ring = ring ∧ f.src = src ∧ f.frameId = id)

def State.frame (s : State) (e ring src id : Nat) : Option Frame := (s.eng e).frames.find? (fun f => f.same ring src id)
/-- Replaces a frame. -/
def State.putFrame (s : State) (e : Nat) (f : Frame) : State :=
  s.modEng e (fun g => { g with frames := g.frames.map (fun h => if h.same f.ring f.src f.frameId then f else h) })
/-- Forgets a frame. -/
def State.dropFrame (s : State) (e : Nat) (f : Frame) : State :=
  s.modEng e (fun g => { g with frames := g.frames.filter (fun h => ! h.same f.ring f.src f.frameId) })

/-- Bytes of a frame's packets that stand in no buffer. -/
def Frame.parkedBytes (f : Frame) : Nat := (f.parked.map List.length).sum

/-- Bytes in the hold buffer (R419): they stay there while a descriptor for them is read. -/
def State.held (s : State) (e : Nat) : Nat :=
  (((s.eng e).frames.filter (fun f => ! f.dead)).map Frame.holdBytes).sum

/-- Writes a receive descriptor back (R413, R415): the last of its frame gets EOF and the timestamp. -/
def State.writeBack (s : State) (e : Nat) (f : Frame) (b : RxBuf) (eof trunc : Bool) : State :=
  let w := 1 <<< 31 ||| b2n b.first <<< 30 ||| b2n eof <<< 29 ||| b2n trunc <<< 28 ||| b.fill
  let data := leBytes w 4 ++ leBytes f.info 4 ++ leBytes (f.src <<< 16 ||| f.frameId) 4 ++ (if eof then leBytes s.stamp 8 else [])
  s.pushAccess (niOfDm e)
    { kind := .write, addr := mbRing s e f.ring + b.index % 2 ^ mbLog s e f.ring * 32 + 12, len := data.length, data := data,
      origin := if eof ∧ ¬ trunc then .ring e f.ring (.record b.index) else .none }

/-- Answers the SEND_NPs of a frame that wait. -/
def State.answerSend (s : State) (e : Nat) (f : Frame) (status : Nat) : State :=
  f.nps.foldl (fun s q => s.reply (niOfDm e) q.2 status) s

/-- Writes back the descriptors that a frame holds when it ends: the last with EOF, and with TRUNC for a truncated frame. -/
def State.closeBufs (s : State) (e : Nat) (f : Frame) (trunc : Bool) : State :=
  let bs := f.buf.toList ++ f.more
  ((List.range bs.length).zip bs).foldl (fun s b =>
    let eof := decide (b.1 + 1 = bs.length)
    s.writeBack e f b.2 eof (eof && trunc)) s

/-- Ends a frame early (R416, R418, R421): it counts in sub-index `count`, its SEND_NPs answer TRUNCATED, the rest is discarded. -/
def State.truncate (s : State) (e : Nat) (f : Frame) (count : Nat) : State :=
  let s := ((s.closeBufs e f true).bump (0x4C00 + e) count).answerSend e f 0xC
  if f.last then s.dropFrame e f
  else s.putFrame e { f with dead := true, buf := none, more := [], want := none, parked := [], holdBytes := 0, holding := false, nps := [] }

/-- Ends a frame whole (R417). -/
def State.frameWhole (s : State) (e : Nat) (f : Frame) : State :=
  let s := (s.closeBufs e f false).bump (0x4C00 + e) 0x44
  let s := if f.everHeld then s.bump (0x4C00 + e) 0x46 else s
  (s.answerSend e f 0).dropFrame e f

/-- Room in the buffers that a frame has taken. -/
def Frame.room (f : Frame) : Nat := ((f.buf.toList ++ f.more).map (fun b => b.size - b.fill)).sum

/-- Writes bytes to a frame's buffers (R414): a full one is written back as the frame moves to the next (R415). -/
def State.fillBufs (s : State) (e : Nat) : Nat → Frame → Bytes → State × Frame
  | 0, f, _ => (s, f)
  | fuel + 1, f, data =>
    match f.buf with
    | none => (s, f)
    | some b =>
      let n := min (b.size - b.fill) data.length
      let b' := { b with fill := b.fill + n }
      let s := if n = 0 then s
        else s.pushAccess (niOfDm e) { kind := .write, addr := b.addr + b.fill, len := n, data := data.take n, origin := .ring e f.ring (.dest 0 0 n) }
      if data.length ≤ n then (s, { f with buf := some b' })
      else
        match f.more with
        | [] => (s, { f with buf := some b' })
        | c :: more => (s.writeBack e f b' false false).fillBufs e fuel { f with buf := some c, more := more } (data.drop n)

/-- Later answers of their pairs no longer wait for the SEND_NPs of a frame that parks, so that parking delays no ACK (R282, R419;
DEDUCED, log 47). -/
def State.passParked (s : State) (e : Nat) (f : Frame) : State :=
  (s.modNi (niOfDm e) (fun x => { x with
    order := x.order.filter (fun o => ! f.nps.any (fun q => decide (q.2.lane = 2 ∧ (q.2.hdr.src, q.2.hdr.pseq) = o))) })).releaseAnswers (niOfDm e)

/-- A frame meets exhaustion (R418, R419, R421): it is dropped whole when it has no descriptor; under HOLD its packets are
parked as far as the hold buffer takes them whole; under TRUNCATE its buffers are filled up, and it is truncated. -/
def State.exhaust (s : State) (e : Nat) (f : Frame) : State :=
  if ! f.anyBuf then s.truncate e f 0x47
  else if mbHold s e f.ring then
    let others := s.held e - f.holdBytes
    if others + f.parkedBytes > 16384 then s.truncate e f 0x45
    else
      let need := if f.holding then f.need else (s.eng e).needs
      let s := s.modEng e (fun g => { g with needs := max g.needs (need + 1) })
      let s := (s.putFrame e { f with holding := true, everHeld := true, holdBytes := f.parkedBytes, need := need }).highWater (0x4C00 + e) 0x49 (others + f.parkedBytes)
      s.passParked e f
  else
    let (s, f) := s.fillBufs e (f.more.length + 1) f (f.parked.head?.getD [])
    s.truncate e f 0x45

/-- Whether a ring has a posted descriptor that no frame has taken. -/
def State.posted (s : State) (e r : Nat) : Bool :=
  decide ((s.ring e r).state = .running ∧ (s.ring e r).consumer ≠ (s.ring e r).producer)

/-- A frame takes the next posted descriptor of its ring, and reads it (R414). -/
def State.grant (s : State) (e : Nat) (f : Frame) : State :=
  let x := s.ring e f.ring
  let s := s.setRing e f.ring { x with consumer := (x.consumer + 1) % 65536 }
  let s := s.putFrame e { f with want := some x.consumer, holding := false }
  s.pushAccess (niOfDm e) { kind := .read, addr := mbRing s e f.ring + x.consumer % 2 ^ mbLog s e f.ring * 32, len := 32,
                            origin := .ring e f.ring (.descriptors x.consumer 1) }

/-- The frame of a ring that has waited longest for a posted descriptor. -/
def State.firstWaiting (s : State) (e r : Nat) : Option Frame :=
  let l := (s.eng e).frames.filter (fun f => decide (f.ring = r) && f.holding && ! f.dead)
  l.find? (fun f => l.all (fun g => decide (f.need ≤ g.need)))

/-- Frames that wait take the posted descriptors of their ring, in the order in which they needed them (R414, R418). -/
def State.serveWaiting (s : State) (e r : Nat) : Nat → State
  | 0 => s
  | n + 1 =>
    match s.firstWaiting e r with
    | none => s
    | some f => if s.posted e r then (s.grant e f).serveWaiting e r n else s

/-- The frame needs a receive descriptor: it comes after those of its ring that have waited for one. A frame that a bad descriptor
parked waits while its ring is in ERROR (R413). -/
def State.needDesc (s : State) (e : Nat) (f : Frame) : State :=
  let st := (s.ring e f.ring).state
  if st ≠ .running then
    if st = .error ∧ f.holding then s.exhaust e f else s.truncate e f (if f.anyBuf then 0x45 else 0x47)
  else
    let s := s.serveWaiting e f.ring 8
    if (s.frame e f.ring f.src f.frameId).any (fun g => g.want.isSome) then s
    else if s.posted e f.ring then s.grant e f
    else s.exhaust e f

/-- Moves a frame on: a packet that its buffers take whole is written to them, for another it asks for the next descriptor, and an
exhausted ring holds or truncates (R414, R418, R419). -/
def State.pumpFrame (s : State) (e ring src id : Nat) : Nat → State
  | 0 => s
  | fuel + 1 =>
    match s.frame e ring src id with
    | none => s
    | some f =>
      if f.dead ∨ f.want.isSome then s
      else
        match f.parked with
        | [] => if f.last then s.frameWhole e f else s
        | d :: rest =>
          if d.length ≤ f.room then
            let (s, f) := s.fillBufs e (f.more.length + 1) f d
            (s.putFrame e { f with parked := rest, holdBytes := f.holdBytes - d.length }).pumpFrame e ring src id fuel
          else s.needDesc e f

/-- Takes a receive descriptor that has been read (R413): a bad one puts the ring in ERROR, and the frame meets
exhaustion. A read that fails counts as bad (DEDUCED, log 45). -/
def State.rxDesc (s : State) (e r index status : Nat) (data : Bytes) : State :=
  match (s.eng e).frames.find? (fun f => decide (f.ring = r ∧ f.want = some index)) with
  | none => s
  | some f =>
    let addr := leAt data 0 8
    let size := leAt data 8 4
    let f := { f with want := none }
    if status ≠ 0 ∨ 2 ^ 48 ≤ addr ∨ size < 256 ∨ 65536 < size ∨ size % 64 ≠ 0 then
      let s := s.setRing e r { s.ring e r with state := .error }
      let s := s.raise 0x0703 2 (niOfDm e) r index
      (s.putFrame e f).exhaust e f
    else
      let b : RxBuf := { index := index, addr := addr, size := size, first := ! f.anyBuf }
      let f := if f.buf.isSome then { f with more := f.more ++ [b] } else { f with buf := some b, anyBuf := true }
      (s.putFrame e f).pumpFrame e f.ring f.src f.frameId 70000

/-- An access of a ring has completed: a receive descriptor, bytes moved to a buffer (R433), or the EOF write-back, after which
the ring's vector is signalled (R417). -/
def State.ringDone (s : State) (e r : Nat) (use : DmaUse) (status : Nat) (data : Bytes) : State :=
  match use with
  | .descriptors first _ => s.rxDesc e r first status data
  | .record _ => s.signal e (mbConfig s e r) (mbRing s e r)
  | .dest _ _ len => if status = 0 then s.bumpBy (0x4C00 + e) 0x43 len else s
  | _ => s

/-- A SEND_NP that is not the LAST of its frame, as a Control window makes every packet (R279), is answered as a SEND is
acknowledged, unless it parks (R417, R419; DEDUCED, log 47). -/
def State.answerPart (s : State) (e r : Nat) (q : Packet) (id place : Nat) : State :=
  match s.frame e r q.hdr.src id with
  | some f =>
    if f.dead ∨ f.holding then s
    else (s.putFrame e { f with nps := f.nps.filter (fun x => decide (x.1 ≠ place)) }).reply (niOfDm e) q 0
  | none => s

/-- Acknowledges a SEND, or answers a SEND_NP. -/
def State.sendAck (s : State) (e : Nat) (q : Packet) (status : Nat) : State :=
  if q.hdr.opcode = 0x09 then s.reply (niOfDm e) q status else s.acknowledge (niOfDm e) q 0

/-- A SEND or SEND_NP packet at its mailbox aperture (R411 to R421). -/
def State.receiveSend (s : State) (e : Nat) (q : Packet) : State :=
  let off := faOffset q.hdr.fa - 0x100000
  let r := off / 0x10000
  let at' := off % 0x10000
  let flags := leAt q.hdr.inl 6 1
  let first := bitAt flags 0
  let last := bitAt flags 1
  let id := leAt q.hdr.inl 4 2
  let data := q.payload.take q.hdr.len
  let isNp := decide (q.hdr.opcode = 0x09)
  let dead (s : State) (count : Nat) : State :=
    let s := s.bump (0x4C00 + e) count
    let s := s.sendAck e q 0xC
    if last then s
    else s.modEng e (fun g => { g with frames := g.frames ++ [{ ring := r, src := q.hdr.src, frameId := id, len := 0, info := 0, dead := true }] })
  let feed (s : State) (f : Frame) : State :=
    let s := if isNp then s.modEng e (fun g => { g with sendNps := g.sendNps + 1 }) else s
    let place := (s.eng e).sendNps
    let f := { f with next := at' + data.length, parked := f.parked ++ [data], last := last,
                      nps := if isNp then f.nps ++ [(place, q)] else f.nps }
    let s := s.putFrame e f
    -- a SEND is acknowledged as it comes; the LAST packet, a SEND_NP, is answered when its frame ends (R417, R419)
    let s := if isNp then s else s.sendAck e q 0
    let s := s.pumpFrame e r q.hdr.src id 70000
    if isNp && ! last then s.answerPart e r q id place else s
  match s.frame e r q.hdr.src id with
  | some f =>
    if first ∧ at' = 0 ∧ f.dead then
      openFrame (s.dropFrame e f) r at' first id last feed dead
    else if f.dead then
      let s := s.sendAck e q 0xC
      if last then s.dropFrame e f else s
    else if first ∨ at' ≠ f.next ∨ f.last then
      -- does not continue its frame: the frame ends as truncated (R416)
      let s := s.truncate e { f with last := f.last || last } 0x45
      s.sendAck e q 0xC
    else feed s f
  | none => openFrame s r at' first id last feed dead
where
  /-- A packet of no open frame. -/
  openFrame (s : State) (r at' : Nat) (first : Bool) (id : Nat) (_last : Bool) (feed : State → Frame → State)
      (dead : State → Nat → State) : State :=
    if ¬ first ∨ at' ≠ 0 then dead s 0x45
    else if (s.ring e r).state ≠ .running ∨ ((s.eng e).frames.filter (fun f => ! f.dead)).length ≥ 8 then dead s 0x47
    else
      let f : Frame := { ring := r, src := q.hdr.src, frameId := id, len := leAt q.hdr.inl 0 4 % 2 ^ 17, info := leAt q.hdr.inl 8 4 }
      feed (s.modEng e (fun g => { g with frames := g.frames ++ [f] })) f

/-- Forgets what a doorbell scan or an item tells of a ring: the engine has seen the index, and frames that wait go on
(R418). -/
def State.actPost (s : State) (e r : Nat) : State :=
  (s.setRing e r { s.ring e r with seen := (s.ring e r).producer }).serveWaiting e r 8

def execMbPostItem (e : EngineId) (s : State) : Host.Outcome State Fault Refusal :=
  done s (s.takeItem e.val 4 (fun s v => s.actPost e.val (field v 19 16)))

/-- DOORBELL_SCAN (R397): every producer register that has moved is acted on, so that the notifications which wait in EQ e tell
nothing new. -/
def execDoorbellScan (e : EngineId) (s : State) : Host.Outcome State Fault Refusal :=
  done s (
    if (s.eng e.val).scanDue then
      let s := (s.modEng e.val (fun g => { g with scanDue := false })).bump (0x4C00 + e.val) 0x48
      let s := s.setEvq e.val { s.evq e.val with items := (s.evq e.val).items.map (fun i => { i with scanned := true }) }
      let s := (List.range 64).foldl (fun s q =>
        if (s.dq e.val q).producer ≠ (s.dq e.val q).seen then s.actDoorbell e.val q (s.dq e.val q).producer else s) s
      (List.range 16).foldl (fun s r =>
        if (s.ring e.val r).producer ≠ (s.ring e.val r).seen then s.actPost e.val r else s) s
    else s)

/-- HOLD_TIME_EXPIRY (R418): frames of the ring that still hold are truncated. -/
def execHoldTimeExpiry (e : EngineId) (r : Fin 16) (s : State) : Host.Outcome State Fault Refusal :=
  done s (((s.eng e.val).frames.filter (fun f => decide (f.ring = r.val) && f.holding && ! f.dead)).foldl (fun s f => s.truncate e.val f 0x45) s)

/-- Place of the oldest SEND_NP of a frame. -/
def Frame.npAt (f : Frame) : Nat := (f.nps.headD (0, {})).1

/-- The frame of a ring that holds and whose parked SEND_NP arrived first. -/
def State.oldestNp (s : State) (e r : Nat) : Option Frame :=
  let l := (s.eng e).frames.filter (fun f => decide (f.ring = r) && f.holding && ! f.dead && ! f.nps.isEmpty)
  l.find? (fun f => l.all (fun g => decide (f.npAt ≤ g.npAt)))

/-- SEND_NP_HOLD_BOUND (R420): 150 µs have passed since the SEND_NP arrived that the ring has parked longest. Its frame is truncated,
unless a descriptor has been posted for it by then; a ring in ERROR takes none. -/
def execSendNpHoldBound (e : EngineId) (r : Fin 16) (s : State) : Host.Outcome State Fault Refusal :=
  done s (
    match s.oldestNp e.val r.val with
    | none => s
    | some f =>
      let s := s.serveWaiting e.val r.val 8
      match s.frame e.val f.ring f.src f.frameId with
      | some g => if g.holding then s.truncate e.val g 0x45 else s
      | none => s)

/-! ### Fast pages -/

/-- An 8-byte read of a fast page (R395). -/
def State.fastRead (s : State) (e off : Nat) : Option Nat :=
  if off < 0x40000 ∧ off % 0x1000 = 8 then some (s.qStatus e (off / 0x1000))
  else if 0x40000 ≤ off ∧ off < 0x50000 ∧ off % 0x1000 = 8 then some (s.mbStatus e ((off - 0x40000) / 0x1000))
  else none

/-- An 8-byte write of a fast page (R395); `none` where no such register takes it. A Q_ABORT or Q_RESTART written with
another value than 1, or an index above 16 bits, is no access of the table. -/
def State.fastWrite (s : State) (e off v : Nat) : Option State :=
  if off < 0x40000 then
    let q := off / 0x1000
    if off % 0x1000 = 0 ∧ v < 65536 then some (s.doorbell e q v)
    else if off % 0x1000 = 0x10 ∧ v = 1 then some (s.eqWrite e 2 (q <<< 16))
    else if off % 0x1000 = 0x18 ∧ v = 1 then some (s.eqWrite e 3 (q <<< 16))
    else none
  else if off < 0x50000 ∧ off % 0x1000 = 0 ∧ v < 65536 then some (s.mbPost e ((off - 0x40000) / 0x1000) v)
  else none

end Sys2Proof.Machine
end

