-- ==== Sys2Proof/Machine/Bridges.lean ====
section
/-! DEFINITION. The PCI Express bridges: link state, BARs and the local page, MSI-X, the exclusive aperture,
configuration space and outbound requests (chapter 11). Bridges: 0 HB0, 1 HB1, 2 + k PBk. -/

namespace Sys2Proof.Machine

/-- ROLE of a bridge (R460): host bridges are endpoints. -/
def State.role (s : State) (b : Nat) : Nat := if b < 2 then 2 else s.ob (brIdx b) 0x20
/-- Vectors of a bridge's MSI-X table (R439). -/
def State.vectors (s : State) (b : Nat) : Nat := if b < 2 then 256 else if s.role b = 2 then 32 else 0
def State.brCount (s : State) (b sub n : Nat) : State := s.bumpBy (brIdx b) sub n
/-- Where the fabric carries traffic for bridges (R448). -/
def State.fabricRuns (s : State) : Bool :=
  match s.dev with
  | .launch => true | .afloat => true | .easy => true
  | .standby => false | .muster => false | .moored => false | .halted => false

def pcieNum : PcieState → Nat
  | .disabled => 0 | .idle => 1 | .training => 2 | .up => 3 | .recovery => 4 | .down => 5 | .contained => 6

/-- Moves the link to a state and notes when (0x5000:0D). -/
def State.setLink (s : State) (b : Nat) (x : PcieState) : State :=
  if (s.br b).state = x then s else (s.modBr b (fun r => { r with state := x })).obSet (brIdx b) 0xD s.stamp

/-- A TLP toward the partner. -/
def State.tlp (s : State) (b : Nat) (t : Tlp) : State := s.modBr b (fun r => { r with out := r.out ++ [t] })

/-! ### Registers of a function -/

/-- Size of a BAR in address bits (R443, R463). -/
def State.barLog (s : State) (b reg : Nat) : Option Nat :=
  if reg = 4 then some (if b < 2 then 24 else 14) else if reg = 6 ∧ b < 2 then some 26 else if reg = 8 then some (s.br b).bar4 else none

/-- The registers of the AER capability that hold errors: the statuses, cleared by writing ones, and the sources of the messages
(PRESUMED, log 10). -/
def errorStatus (reg : Nat) : Bool := decide (reg = 0x41 ∨ reg = 0x44 ∨ reg = 0x4C ∨ reg = 0x4D)

/-- The largest payload of a TLP that a bridge sends: 512 bytes at most, and what the Device Control register allows (R439, R464; its
place is PRESUMED, log 10). -/
def State.maxPayload (s : State) (b : Nat) : Nat := 128 * 2 ^ min 2 (field (sget 0 (s.br b).cfg 0x1A) 7 5)

/-- A dword of a function's configuration space, the Device Serial Number of 0x1018:04 among them (R439). The header and the identifiers follow R440 and R443; the places of the
capabilities are the model's own (log 10); what neither gives is open. -/
def State.cfgRead (s : State) (b reg : Nat) : Nat :=
  let r := s.br b
  let root := decide (s.role b = 1)
  let st := sget 0 r.cfg reg
  if reg = 0 then (if b < 2 then 0x9648 else if root then 0x964A else 0x9649) <<< 16 ||| s.otp.pciVendor
  else if reg = 1 then 0x00100000 ||| (clrBitN (st % 65536) 2 ||| (if r.bme then 4 else 0))
  else if reg = 2 then (if root then 0x060400 else 0x058000) <<< 8 ||| Config.pciConfig b 2 % 256
  else if reg = 3 then (if root then 0x10000 else 0)
  else if reg = 6 ∧ root then st
  else if 4 ≤ reg ∧ reg ≤ 9 ∧ ¬ root then
    match s.barLog b (reg - reg % 2) with
    | none => 0
    | some n =>
      let v := sget 0 r.cfg (reg - reg % 2) ||| sget 0 r.cfg (reg - reg % 2 + 1) <<< 32
      let v := (v >>> n) <<< n ||| (if reg ≥ 8 then 0xC else 4)
      if reg % 2 = 0 then v % 2 ^ 32 else v / 2 ^ 32 % 2 ^ 32
  else if reg = 0x11 then st ||| (if r.d3 then 3 else 0)
  else if reg = 0x14 ∧ ¬ root then b2n r.msixEnable <<< 31 ||| b2n r.funcMask <<< 30 ||| (s.vectors b - 1) <<< 16 ||| 0x11
  else if reg = 0x1A then putField (Config.pciConfig b reg % 2 ^ 32) 7 5 (field st 7 5)
  else if reg = 0x61 ∧ root then putField (Config.pciConfig b reg % 2 ^ 32) 31 16 (field st 31 16)
  else if reg = 0x62 ∧ root then clrBitN st 0 ||| b2n r.contained
  else if errorStatus reg then st
  else if reg = 0x54 then 0x00010003
  else if reg = 0x55 then s.otp.serial % 2 ^ 32
  else if reg = 0x56 then s.otp.serial / 2 ^ 32
  else match sfind r.cfg reg with
    | some v => v
    | none => Config.pciConfig b reg % 2 ^ 32

/-- What a CFG_DATA access meets (R463): its own space, no request, or a request of type 0 or 1. -/
inductive CfgRoute where
  | self | none | type0 | type1
  deriving DecidableEq, Repr

/-- Bus numbers stand in dword 6 of the port's Type 1 header. -/
def State.cfgRoute (s : State) (b : Nat) : CfgRoute :=
  let a := (s.br b).cfgAddr
  let bus := field a 27 20
  let n := s.cfgRead b 6
  if bitAt a 28 then .self
  else if bus = field n 15 8 then .type0
  else if field n 15 8 < bus ∧ bus ≤ field n 23 16 then .type1
  else .none

/-! ### Training and link down -/

/-- Whether a bridge may train (R441, R461, R462, R475, R476). -/
def State.mayTrain (s : State) (b : Nat) : Bool :=
  let r := s.br b
  decide (s.domain (bridgeDom b) = .on) && ! r.disabled && ! r.contained &&
    (if b < 2 then ! r.perst && (match s.dev with | .standby => false | .muster => false | _ => true)
     else s.fabricRuns && r.waveDone && (if s.role b = 1 then ! r.perstOut else decide (s.role b = 2) && ! r.perst))

/-- Starts training where R441 and R462 let the bridge train. -/
def State.tryTrain (s : State) (b : Nat) : State :=
  let st := (s.br b).state
  if s.mayTrain b ∧ (st = .disabled ∨ st = .idle ∨ st = .down) then s.setLink b .training else s

/-- Toggles a generation bit. -/
def toggle (l : List Nat) (n : Nat) : List Nat := if l.contains n then without l n else l ++ [n]

/-- Inbound reads of a bridge that its NI still carries are abandoned, or those of BAR0 and BAR4 alone: each TAG is freed and its
GEN toggles (R276, R473). -/
def State.abandonReads (s : State) (b : Nat) (mgmt : Bool) : State :=
  let n := niOfBridge b
  let gone (q : InReq) : Bool := ! q.acc.write && (mgmt || ! q.mgmt)
  let reads := ((s.br b).inbound.filter gone).map (·.id)
  let mine (o : Origin) : Bool :=
    match o with
    | .bridge b' id _ _ => decide (b' = b) && reads.contains id
    | .localReg b' id _ => decide (b' = b) && reads.contains id
    | .exLoad b' _ _ _ _ => decide (b' = b)
    | _ => false
  let tags := (s.ni n).tags.filter (fun t => t.2.origins.any mine)
  let s := s.modNi n (fun x => { x with
    tags := x.tags.filter (fun t => ! t.2.origins.any mine)
    gens := tags.foldl (fun g t => toggle g t.1) x.gens
    cur := if x.inbox.head?.any (fun a => mine a.origin) then none else x.cur
    inbox := x.inbox.filter (fun a => ! mine a.origin) })
  s.modBr b (fun r => { r with inbound := r.inbound.filter (fun q => ! gone q) })

def State.abandonInbound (s : State) (b : Nat) : State := s.abandonReads b true

/-- What R473 does within 2 µs of the detection instant. A dropped posted write is acknowledged with LINK_LOST
(DEDUCED, log 38, from R286 and R337: its ACK is due and carries the status). -/
def State.clearOutbound (s : State) (b : Nat) : State :=
  let n := niOfBridge b
  let r := s.br b
  let s := s.setBr b { r with slots := [], gens := r.slots.foldl (fun g x => toggle g x.1) r.gens, outQ := [], dll := [],
                              pending := r.pending.map (fun v => (v.1, 0)) }
  let s := r.slots.foldl (fun s x => (s.reply n x.2.pkt 6).brCount b 0x12 1) s
  let s := (r.dll ++ r.outQ).foldl (fun s p =>
    if p.hdr.opcode = 0x02 then (s.acknowledge n p 6).brCount b 0x13 1 else (s.reply n p 6).brCount b 0x12 1) s
  -- a CFG_DATA access that waits for a completion is outstanding as well
  if s.cfgRoute b = .self ∨ s.cfgRoute b = .none then s
  else r.cfgQ.foldl (fun s p => (s.reply n p 6).brCount b 0x12 1) (s.modBr b (fun r => { r with cfgQ := [] }))

/-- Sets bits of a configuration register. -/
def State.cfgSet (s : State) (b reg bits : Nat) : State :=
  s.modBr b (fun r => { r with cfg := sins r.cfg reg (sget 0 r.cfg reg ||| bits) })

/-- A link goes down (R472 to R474, R476); AER reports a surprise as Surprise Down (R439; the bit is PRESUMED, log 10). Down from
another state than UP or RECOVERY it is no link down, and the link of a domain without power stays DISABLED (R479). -/
def State.pcieDown (s : State) (b : Nat) (final : PcieState) (surprise : Bool) : State :=
  let st := (s.br b).state
  if st = .up ∨ st = .recovery then
    let s := (s.setLink b final).brCount b 0x10 1
    let s := s.modBr b (fun r => { r with speed := 0, width := 0, flit := false, trainWanted := true, credits := true })
    let s := if surprise then ((s.brCount b 0x11 1).cfgSet b 0x41 0x20).raise 0x0901 2 (niOfBridge b) 0 0 else s
    let s := (s.clearOutbound b).abandonInbound b
    if b < 2 ∧ s.dict.owner.bind pathBridge = some b then s.releaseClaim else s
  else if s.answers (bridgeDom b) then s.setLink b final
  else s

/-- A function's registers at PERST_N, hot reset or FLR: configuration space, MSI-X, power state; BAR4_SIZE_LOG2 takes
effect (R446). -/
def State.resetFunction (s : State) (b : Nat) : State :=
  let log := s.ob (brIdx b) 0xA
  s.modBr b (fun r => { r with msix := [], pending := [], msixEnable := false, funcMask := false, bme := false, d3 := false, cfg := [],
                               bar4 := log, lastPosted := none })

def execHbPerstAssert (hb : Fin 2) (s : State) : Host.Outcome State Fault Refusal :=
  done s (
    let s := (s.modBr hb.val (fun r => { r with perst := true })).pcieDown hb.val .down false
    let s := if s.dict.owner.bind pathBridge = some hb.val then s.releaseClaim else s
    s.resetFunction hb.val)

def execHbPerstDeassert (hb : Fin 2) (s : State) : Host.Outcome State Fault Refusal :=
  done s ((s.modBr hb.val (fun r => { r with perst := false })).tryTrain hb.val)

/-- The width of a link: x8 at a host bridge and x4 at a port bridge, or what the downtrain leaves (R439). -/
def linkWidth (b width : Nat) : Nat := ([8, 4, 2, 1].find? (fun w => decide (w ≤ width ∧ (b < 2 ∨ w ≤ 4)))).getD 1

/-- PCIE_LINK_UP: training or Recovery ends in L0 (R439, R441). -/
def execPcieLinkUp (b : BridgeId) (speed width : Nat) (flit : Bool) (s : State) : Host.Outcome State Fault Refusal :=
  let r := s.br b.val
  let speed := min (min speed 6) (s.ob (brIdx b.val) 5)
  done s (
    if r.state = .recovery then s.setLink b.val .up
    else if r.state = .training ∨ (r.trainWanted ∧ s.mayTrain b.val) then
      (s.modBr b.val (fun r => { r with speed := speed, width := linkWidth b.val width, flit := flit || decide (speed = 6), trainWanted := false,
                                        credits := true })).setLink b.val .up
    else s)

def execPcieRecoveryEntry (b : BridgeId) (s : State) : Host.Outcome State Fault Refusal :=
  done s (if (s.br b.val).state = .up then s.setLink b.val .recovery else s)

/-- PCIE_LINK_DOWN for the causes without a row of their own (R472): Data Link Layer Down is surprise. -/
def execPcieLinkDown (b : BridgeId) (cause : LinkDownCause) (s : State) : Host.Outcome State Fault Refusal :=
  done s (
    match cause with
    | .dllDown => s.pcieDown b.val .down true
    | .commanded => s.pcieDown b.val .down false
    | .perst =>
      let s := (s.modBr b.val (fun r => { r with perst := true })).pcieDown b.val .down false
      let s := if b.val < 2 ∧ s.dict.owner.bind pathBridge = some b.val then s.releaseClaim else s
      if s.role b.val = 2 then s.resetFunction b.val else s)

/-- FLR (R472): commanded by the host's software, so no surprise (DEDUCED, log 40). -/
def execFlr (b : BridgeId) (s : State) : Host.Outcome State Fault Refusal :=
  done s (if s.role b.val = 2 then (s.pcieDown b.val .down false).resetFunction b.val else s)

def execHotResetReceived (b : BridgeId) (s : State) : Host.Outcome State Fault Refusal :=
  done s (if s.role b.val = 2 then (s.pcieDown b.val .down false).resetFunction b.val else s)

/-- DPC Trigger Enable (R475; its place is PRESUMED, log 10): 0 never, 1 for fatal errors, 2 for non-fatal ones too. -/
def State.dpcEnable (s : State) (b : Nat) : Nat := field (sget 0 (s.br b).cfg 0x61) 17 16

/-- DPC containment begins, for a reason and from a source: the link stays down until software clears the DPC Trigger Status
(R472, R475). -/
def State.contain (s : State) (b reason source : Nat) : State :=
  (s.modBr b (fun r => { r with contained := true, cfg := sins r.cfg 0x62 (source <<< 16 ||| reason <<< 1) })).pcieDown b .contained true

/-- Whether a port can enter containment: a root port with power that is not contained already. -/
def State.containable (s : State) (b : Nat) : Bool :=
  decide (2 ≤ b ∧ s.role b = 1) && s.answers (bridgeDom b) && ! (s.br b).contained

/-- DPC_TRIGGER (R472, R475): an uncorrectable error that a root port detects, where its DPC capability is enabled. -/
def execDpcTrigger (b : BridgeId) (s : State) : Host.Outcome State Fault Refusal :=
  done s (if s.containable b.val ∧ s.dpcEnable b.val ≠ 0 then s.contain b.val 0 0 else s)

/-- AER notes a received message and, of the first, its requester (R475; the bits are PRESUMED, log 10). -/
def State.logError (s : State) (b : Nat) (m : ErrMsg) (requester : Nat) : State :=
  let st := sget 0 (s.br b).cfg 0x4C
  let first (bits shift : Nat) : State :=
    (s.cfgSet b 0x4C bits).modBr b (fun r => { r with cfg := sins r.cfg 0x4D (putField (sget 0 r.cfg 0x4D) (shift + 15) shift requester) })
  match m with
  | .cor => if bitAt st 0 then s.cfgSet b 0x4C 2 else first 1 0
  | .nonfatal => if bitAt st 2 then s.cfgSet b 0x4C 0x28 else first 0x24 16
  | .fatal => if bitAt st 2 then s.cfgSet b 0x4C 0x48 else first 0x54 16

/-- DOWNSTREAM_ERROR_MESSAGE (R475): root role. -/
def execDownstreamErrorMessage (b : BridgeId) (m : ErrMsg) (requester : Nat) (s : State) : Host.Outcome State Fault Refusal :=
  let n := niOfBridge b.val
  let q := requester % 65536
  done s (
    if 2 ≤ b.val ∧ s.role b.val = 1 then
      let s := s.logError b.val m q
      let dpc (s : State) (least reason : Nat) : State :=
        if s.containable b.val ∧ least ≤ s.dpcEnable b.val ∧ s.dpcEnable b.val ≤ 2 then s.contain b.val reason q else s
      match m with
      | .cor => s.raise 0x0902 1 n 0 q
      | .nonfatal => dpc (s.raise 0x0903 2 n 0 q) 2 1
      | .fatal => dpc (s.raise 0x0903 2 n 0 (65536 + q)) 1 2
    else s)

/-! ### Configuration space -/

/-- Sends what the masks no longer hold is MSIX_SEND's; a write only changes the registers. Clearing the DPC Trigger
Status ends containment, and the DPC Software Trigger begins it (R475). Error statuses clear where ones are written. -/
def State.cfgWrite (s : State) (b reg v be : Nat) : State :=
  let old := s.cfgRead b reg
  let be := if be = 0 then 15 else be
  let written := (List.range 4).foldl (fun a i => if bitAt be i then putField a (8 * i + 7) (8 * i) (field v (8 * i + 7) (8 * i)) else a) 0
  let v := (List.range 4).foldl (fun a i => if bitAt be i then putField a (8 * i + 7) (8 * i) (field v (8 * i + 7) (8 * i)) else a) (old % 2 ^ 32)
  let root := decide (s.role b = 1)
  if reg = 1 then s.modBr b (fun r => { r with bme := bitAt v 2, cfg := sins r.cfg 1 (clrBitN (v % 65536) 2) })
  else if reg = 0 ∨ reg = 2 ∨ reg = 3 ∨ reg = 0x54 ∨ reg = 0x55 ∨ reg = 0x56 then s
  else if reg = 0x11 then
    if s.role b = 2 then s.modBr b (fun r => { r with d3 := decide (v % 4 = 3) }) else s
  else if reg = 0x14 ∧ ¬ root then s.modBr b (fun r => { r with msixEnable := bitAt v 31, funcMask := bitAt v 30 })
  else if reg = 0x62 ∧ root then
    if bitAt v 0 ∧ (s.br b).contained then
      let s := s.modBr b (fun r => { r with contained := false })
      (if (s.br b).state = .contained then s.setLink b .down else s).tryTrain b
    else s
  else if reg = 0x61 ∧ root then
    let s := s.modBr b (fun r => { r with cfg := sins r.cfg 0x61 (clrBitN v 22) })
    if bitAt v 22 ∧ s.containable b ∧ s.dpcEnable b ≠ 0 then s.contain b 3 0 else s
  else if errorStatus reg then (if reg = 0x4D then s else s.modBr b (fun r => { r with cfg := sins r.cfg reg (old - (old &&& written)) }))
  else s.modBr b (fun r => { r with cfg := sins r.cfg reg v })

/-- Whether a host function can serve its configuration space (R442). -/
def State.cfgReady (s : State) (b : Nat) : Bool :=
  s.answers (bridgeDom b) && (match s.dev with | .standby => false | .muster => false | _ => true)

/-- CONFIG_REQUEST (R440, R442): a request from the partner to an endpoint function. -/
def execConfigRequest (b : BridgeId) (wr : Bool) (reg value tag : Nat) (s : State) : Host.Outcome State Fault Refusal :=
  let b := b.val
  done s (
    if ¬ s.cfgReady b then s.tlp b (.cpl tag .rrs false [])
    else if s.role b ≠ 2 then s.tlp b (.cpl tag .ur false [])
    else if wr then (s.cfgWrite b reg value 0).tlp b (.cpl tag .sc false [])
    else s.tlp b (.cpl tag .sc false (leBytes (s.cfgRead b reg) 4)))

/-! ### MSI-X -/

/-- A request that leaves as an MWr, with or without a read behind it (R464). -/
def sendsMwr (p : Packet) : Bool := decide (p.hdr.opcode = 0x02 ∨ p.hdr.opcode = 0x03)

/-- A vector is pending behind the MWr of every write already at the bridge (R453, R464); a masked vector is pending once. -/
def State.addVector (s : State) (b v : Nat) : State :=
  let r := s.br b
  let before := (r.outQ.filter sendsMwr).length
  let held := ! r.msixEnable || ! r.bme || r.d3 || (v ≠ 255 && (r.funcMask || (sget {} r.msix v).masked))
  if held && r.pending.any (fun p => p.1 = v) then s else s.setBr b { r with pending := r.pending ++ [(v, before)] }

/-- A write's MWr has left the bridge's input, or never will. -/
def Bridge.postedLeft (r : Bridge) : Bridge := { r with pending := r.pending.map (fun v => (v.1, v.2 - 1)) }

/-- A write to INT_TRIGGER (R451): vector 255, a set bit above the vector, a vector without an entry and a write from the
PCIe side are dropped and counted. -/
def State.trigger (s : State) (b value : Nat) (fromPcie : Bool) : State :=
  let v := value % 256
  if fromPcie ∨ value ≥ 256 ∨ v ≥ s.vectors b ∨ v = 255 then s.brCount b 0x1B 1 else s.addVector b v

def execIntTrigger (b : BridgeId) (value : Nat) (fromPcie : Bool) (s : State) : Host.Outcome State Fault Refusal :=
  done s (s.trigger b.val value fromPcie)

/-- Whether a pending vector may be sent now (R453, R454). -/
def Bridge.sendable (r : Bridge) (p : Nat × Nat) : Bool :=
  decide (p.2 = 0 ∧ r.state = .up) && r.msixEnable && r.bme && ! r.d3 && (p.1 = 255 || (! r.funcMask && ! (sget {} r.msix p.1).masked))

/-- MSIX_SEND (R453, R454). -/
def execMsixSend (b : BridgeId) (s : State) : Host.Outcome State Fault Refusal :=
  let r := s.br b.val
  done s (
    match r.pending.find? r.sendable with
    | none => s
    | some p =>
      let e := sget {} r.msix p.1
      ((s.setBr b.val { r with pending := r.pending.erase p }).tlp b.val (.mwr e.addr (leBytes e.data 4))).brCount b.val 0x1A 1)

/-- Bytes of an MSI-X table entry. -/
def MsixEntry.bytes (e : MsixEntry) (v : Nat) : Bytes := leBytes e.addr 8 ++ leBytes e.data 4 ++ leBytes (b2n (e.masked && v ≠ 255)) 4

/-- Reads the MSI-X table. -/
def State.msixRead (s : State) (b off len : Nat) : Bytes :=
  (List.range len).map (fun i =>
    let v := (off + i) / 16
    (((sget {} (s.br b).msix v).bytes v).getD ((off + i) % 16) 0))

/-- Writes the MSI-X table; the Mask bit of vector 255 ignores it (R454). -/
def State.msixWrite (s : State) (b off : Nat) (data : Bytes) : State :=
  ((List.range data.length).zip data).foldl (fun s d =>
    let v := (off + d.1) / 16
    let e := patch ((sget {} (s.br b).msix v).bytes v) ((off + d.1) % 16) [d.2]
    s.modBr b (fun r => { r with msix := sput {} r.msix v { addr := leAt e 0 8, data := leAt e 8 4, masked := v = 255 || bitAt (leAt e 12 4) 0 } })) s

/-- Pending-bit array. -/
def State.msixPba (s : State) (b off len : Nat) : Bytes :=
  let p := (s.br b).pending.map (·.1)
  slice (leBytes (maskOf p) 32) off len

/-! ### Inbound requests -/

/-- Whether the bridge takes no new request (R560): it answers DOMAIN_OFF, which its partner sees as CA (R465). -/
def State.bridgeFenced (s : State) (b : Nat) : Bool := decide (s.domain (bridgeDom b) = .fencing ∨ s.domain (bridgeDom b) = .draining)

/-- PCIe completion of a fabric status (R465): status, EP, and whether every byte reads 0xFF. -/
def cplOf (status : Nat) : CplStatus × Bool × Bool :=
  if status = 0 then (.sc, false, false) else if status = 7 ∨ status = 0xB then (.sc, true, false)
  else if status = 9 then (.sc, false, true) else if status = 2 then (.ur, false, false) else (.ca, false, false)

/-- Sends the completion of `len` bytes. -/
def State.complete (s : State) (b tag len status : Nat) (data : Bytes) : State :=
  let (c, ep, ff) := cplOf status
  s.tlp b (.cpl tag c ep (if c ≠ .sc then [] else if ff then List.replicate len 0xFF else padTo len data))

/-- The parts of a read of more than 512 bytes that complete one by one: each ends at a boundary of 64 bytes (R450). A shorter
one completes whole (DEDUCED, log 42). -/
def completionEnd (addr len off : Nat) : Nat := if len ≤ 512 then len else min len (off + 64 - (addr + off) % 64)

/-- The completions of a read whose data are all there. -/
def State.completeAll (s : State) (b : Nat) (a : BarAccess) (status : Nat) (data : Bytes) (off : Nat) : Nat → State
  | 0 => s
  | n + 1 =>
    if (cplOf status).1 ≠ .sc then s.complete b a.tag a.len status []
    else
      let stop := completionEnd a.offset a.len off
      let s := s.complete b a.tag (stop - off) status (slice data off (stop - off))
      if stop ≥ a.len then s else s.completeAll b a status data stop n

/-- Answers a read whole. -/
def State.completeRead (s : State) (b : Nat) (a : BarAccess) (status : Nat) (data : Bytes) : State :=
  s.completeAll b a status data 0 (a.len / 64 + 2)

/-- Counts and records a failed inbound access (R466). -/
def State.inboundError (s : State) (b addr status : Nat) : State :=
  if status = 0 then s
  else (s.brCount b (if status = 2 then 0x17 else 0x18) 1).obSet (brIdx b) 0x19 (status <<< 60 ||| addr % 2 ^ 48)

/-- An inbound access that the bridge answers itself. -/
def State.answerLocal (s : State) (b : Nat) (a : BarAccess) (status : Nat) (data : Bytes := []) : State :=
  let s := s.inboundError b a.offset status
  if a.write then s else s.completeRead b a status data

/-- A request that relies on an absent feature, an I/O request or an AtomicOp, completes with UR (R439): neither is posted (that it
counts is DEDUCED, log 108). -/
def State.unsupported (s : State) (b : Nat) (a : BarAccess) : State := (s.inboundError b a.offset 2).complete b a.tag a.len 2 []

/-- What an access moves: its bytes, or 1 for an access without any. -/
def moves (len : Nat) : Nat := max 1 len

/-- Opens an inbound request and presents its accesses to the NI. -/
def State.openInbound (s : State) (b : Nat) (a : BarAccess) (whole : Bool) (accs : Nat → List Access) (mgmt : Bool := false) : State :=
  let r := s.br b
  let id := r.nextIn
  let l := accs id
  let left := (l.map (fun x => moves x.len)).sum
  let s := s.setBr b { r with nextIn := id + 1, inbound := r.inbound ++ [{ id := id, acc := a, left := left, whole := whole, mgmt := mgmt }] }
  l.foldl (fun s x => s.pushAccess (niOfBridge b) x) s

/-- The status and the bytes of a read from an offset up to another, once every answer that holds some of them is there: the status
is the first that is not OK. An access without bytes counts as one. -/
def InReq.gather (q : InReq) : Nat → Nat → Nat → Option (Nat × Bytes)
  | 0, _, _ => none
  | n + 1, off, stop =>
    if off ≥ stop then some (0, [])
    else
      match q.got.find? (fun g => decide (g.1 ≤ off ∧ off < g.1 + max 1 g.2.1)) with
      | none => none
      | some (o, len, status, data) =>
        let upto := min stop (o + max 1 len)
        (q.gather n upto stop).map (fun r => (if status = 0 then r.1 else status, slice (padTo len data) (off - o) (upto - off) ++ r.2))

/-- An access of an inbound request has been answered: completions go out in address order, a failed one ends a read
(R450, R465, R466). -/
def State.bridgeAnswer (s : State) (b id off len status : Nat) (data : Bytes) : State :=
  match (s.br b).inbound.find? (fun q => decide (q.id = id)) with
  | none => s
  | some q =>
    let s := if q.counted then s else s.inboundError b q.acc.offset status
    let q := { q with left := q.left - moves len, got := sins q.got off (len, status, data), counted := q.counted || decide (status ≠ 0) }
    let put (s : State) (q : InReq) : State := s.modBr b (fun r => { r with inbound := r.inbound.map (fun x => if x.id = id then q else x)})
    let drop (s : State) : State := s.modBr b (fun r => { r with inbound := r.inbound.filter (fun x => decide (x.id ≠ id)) })
    if q.acc.write then (if q.left = 0 then drop s else put s q)
    else if q.whole then
      if q.left = 0 then
        let st := (q.got.find? (fun g => decide (g.2.2.1 ≠ 0))).elim 0 (fun g => g.2.2.1)
        (drop s).completeRead b q.acc st (q.got.flatMap (fun g => padTo g.2.1 g.2.2.2))
      else put s q
    else emit drop put s q (q.acc.len / 64 + 2)
where
  /-- Sends the completions that are next in address order. -/
  emit (drop : State → State) (put : State → InReq → State) (s : State) (q : InReq) : Nat → State
    | 0 => put s q
    | n + 1 =>
      let stop := completionEnd q.acc.offset q.acc.len q.sent
      match q.gather 4 q.sent (max 1 stop) with
      | none => put s q
      | some (status, data) =>
        let s := s.complete b q.acc.tag (stop - q.sent) status data
        if (cplOf status).1 ≠ .sc ∨ stop ≥ q.acc.len then drop s else emit drop put s { q with sent := stop } n

/-- Whether INBOUND_ORDER asks for a barrier before an inbound access (R449): before a write not where the one before it went to the
same target through an SC2 window. -/
def State.needsBarrier (s : State) (b : Nat) (a : BarAccess) (target : Option Nat) : Bool :=
  let mode := s.ob (brIdx b) 8
  let same := a.write && target.isSome && decide ((s.br b).lastPosted = target)
  ! (decide (mode = 2) || (decide (mode = 1) && a.ro) || same)

/-- Notes the target of a posted write that went through an SC2 window, and that any other went elsewhere (R449). -/
def State.notePosted (s : State) (b : Nat) (a : BarAccess) (target : Option Nat) : State :=
  if a.write then s.modBr b (fun r => { r with lastPosted := target }) else s

/-- The barrier before an inbound access that goes into the fabric, and the note of a posted write's target. -/
def State.orderInbound (s : State) (b : Nat) (a : BarAccess) (target : Option Nat) (sc2 : Bool) : State :=
  (if s.needsBarrier b a target then s.pushAccess (niOfBridge b) { kind := .barW } else s).notePosted b a (if sc2 then target else none)

/-- The barrier before an access through the windows of the bridge's NI (R449): its initiator address names the target and whether
its window is of SC2. -/
def State.orderWindow (s : State) (b : Nat) (a : BarAccess) (addr : Nat) : State :=
  match s.windowAt (niOfBridge b) addr with
  | some (_, base, _, tgt, attr) => s.orderInbound b a (some (faTarget ((tgt + (addr - base)) % 2 ^ 48))) (decide (field attr 29 28 = 2))
  | none => s.orderInbound b a none false

/-- An inbound access through the windows of the bridge's NI (R446, R449, R450): the NI cuts the read into READs of 512 bytes. -/
def State.windowAccess (s : State) (b : Nat) (a : BarAccess) : State :=
  let s := s.orderWindow b a a.offset
  if a.write then
    s.openInbound b a false (fun id =>
      [{ kind := .write, addr := a.offset, len := a.data.length, data := a.data, origin := .bridge b id 0 a.data.length }])
  else
    s.openInbound b a false (fun id => (accessPieces a.offset a.len).map (fun p =>
      { kind := .read, addr := a.offset + p.1, len := p.2, origin := .bridge b id p.1 p.2 }))

/-- Size of an exclusive slot's accesses (R456). -/
def ExSlot.bytes (x : ExSlot) : Nat := if x.size = 0 then 4 else if x.size = 1 then 8 else 16

def State.exSlot (s : State) (b i : Nat) : ExSlot := sget {} (s.br b).exs i
def State.setEx (s : State) (b i : Nat) (x : ExSlot) : State := s.modBr b (fun r => { r with exs := sput {} r.exs i x })

/-- EX_LOAD (R456 to R458): issues LDRES. -/
def State.exLoadOp (s : State) (b slot len tag : Nat) (ro : Bool := false) : State :=
  let x := s.exSlot b slot
  let a : BarAccess := { write := false, offset := x.addr, len := len, tag := tag, ro := ro }
  if ¬ s.fabricRuns ∨ (s.br b).d3 then s.answerLocal b a 2
  else if s.bridgeFenced b then s.answerLocal b a 5
  else if len ≠ x.bytes then s.answerLocal b a 2
  else (s.orderWindow b a x.addr).pushAccess (niOfBridge b) { kind := .ldres, addr := x.addr, len := len, origin := .exLoad b slot tag x.addr len }

/-- EX_STORE (R456, R457, R459): issues STCOND. -/
def State.exStoreOp (s : State) (b slot : Nat) (data : Bytes) (ro : Bool := false) : State :=
  let x := s.exSlot b slot
  let a : BarAccess := { write := true, offset := x.addr, len := data.length, data := data, ro := ro }
  if ¬ s.fabricRuns ∨ (s.br b).d3 then s.answerLocal b a 2
  else if s.bridgeFenced b then s.answerLocal b a 5
  else if data.length ≠ x.bytes ∨ x.state = 1 then s.answerLocal b a 2
  else
    let simple : Bool := match (s.br b).simple with
      | some (i, some t) => decide (i = slot ∧ s.clk.fab < t + 3072)
      | _ => false
    let s := if simple then s else s.brCount b 0x1C 1
    let s := (s.orderWindow b a x.addr).setEx b slot { x with state := 1 }
    (s.pushAccess (niOfBridge b) { kind := .stcond, addr := x.addr, len := data.length, data := data, origin := .exStore b slot x.addr }).modBr b
      (fun r => { r with simple := none })

/-- The NI of a bridge issues a fabric access: an LDRES may begin a simple pair for its slot, any other access ends one (R459). -/
def State.noteIssue (s : State) (n : Nat) (j : Job) : State :=
  match endpointOf n with
  | .bridge b =>
    if opKind j.pkt.hdr.opcode = .response ∨ j.pkt.hdr.retx then s
    else s.modBr b (fun r => { r with simple := match j.origins with
      | [.exLoad _ slot _ _ _] => some (slot, none)
      | _ => none })
  | _ => s

/-- An EX_LOAD of an address and so many bytes has been answered (R457, R465, R466). -/
def State.exLoadAnswer (s : State) (b slot tag addr len status : Nat) (data : Bytes) : State :=
  let s := s.modBr b (fun r => { r with simple := if r.simple = some (slot, none) then some (slot, some s.clk.fab) else r.simple })
  (s.inboundError b addr status).complete b tag len status data

/-- An EX_STORE to an address has been answered: EX_RESULT shows it (R457), and a status that is not OK counts and is recorded as
that of any inbound access, EXCL_FAIL too (R466; DEDUCED, log 127). -/
def State.exStoreAnswer (s : State) (b slot addr status : Nat) : State :=
  let x := s.exSlot b slot
  (s.inboundError b addr status).setEx b slot { x with state := 2, status := status, count := (x.count + 1) % 65536 }

/-- On entry to HALTED the reads of BAR0 and BAR4 in flight complete with UR (R447). -/
def State.haltReads (s : State) (b : Nat) : State :=
  let n := niOfBridge b
  let reads := (s.br b).inbound.filter (fun q => ! q.acc.write && ! q.mgmt)
  let loads := (((s.ni n).tags.flatMap (fun t => t.2.origins)) ++ (s.ni n).inbox.map (·.origin)).filterMap (fun o =>
    match o with
    | .exLoad b' _ tag addr len => if b' = b then some (tag, addr, len) else none
    | _ => none)
  let s := s.abandonReads b false
  let s := reads.foldl (fun s q => (if q.counted then s else s.inboundError b q.acc.offset 2).complete b q.acc.tag (q.acc.len - q.sent) 2 []) s
  loads.foldl (fun s l => (s.inboundError b l.2.1 2).complete b l.1 l.2.2 2 []) s

/-- EX_RESULT (R456). -/
def ExSlot.result (x : ExSlot) : Nat := x.count <<< 32 ||| x.state <<< 4 ||| x.status

/-- FLUSH (R455): BAR_FULL, then a completion with 0. -/
def State.flushOp (s : State) (b tag : Nat) : State :=
  s.openInbound b { write := false, offset := 0, len := 8, tag := tag } true
    (fun id => [{ kind := .barFull, len := 8, origin := .bridge b id 0 8 }])

/-- Where the bridge serves its local page, table and pending bits (R448). -/
def State.localServed (s : State) : Bool := s.fabricRuns || decide (s.dev = .moored)

/-- Serves an access to a register that the bridge holds itself: the MSI-X table, the pending bits, EX_ADDR, EX_SIZE, EX_RESULT
(R444, R454 to R456). -/
def State.serveLocal (s : State) (b : Nat) (a : BarAccess) (place : LocalAt) : State :=
  let n := if a.write then a.data.length else a.len
  match place with
  | .table off => if a.write then s.msixWrite b off a.data else s.answerLocal b a 0 (s.msixRead b off n)
  | .bits off => if a.write then s else s.answerLocal b a 0 (s.msixPba b off n)
  | .page rel =>
    let slot := (rel - 0x10000) / 0x40
    let reg := rel % 0x40
    let x := s.exSlot b slot
    let v := fromLe a.data
    if rel < 0x10000 ∨ 16 ≤ slot ∨ n ≠ 8 then s.answerLocal b a 2
    else if reg = 0 then
      (if ! a.write then s.answerLocal b a 0 (leBytes x.addr 8) else if v < 2 ^ 48 then s.setEx b slot { x with addr := v } else s.answerLocal b a 2)
    else if reg = 8 then
      (if ! a.write then s.answerLocal b a 0 (leBytes x.size 8) else if v < 3 then s.setEx b slot { x with size := v } else s.answerLocal b a 2)
    else if reg = 0x30 ∧ ! a.write then s.answerLocal b a 0 (leBytes x.result 8)
    else s.answerLocal b a 2

/-- An inbound access to such a register, behind the barrier that INBOUND_ORDER asks for (R449): where one is due the access is
served once the NI has satisfied it. -/
def State.localAccess (s : State) (b : Nat) (a : BarAccess) (place : LocalAt) : State :=
  let t := s.notePosted b a none
  if s.needsBarrier b a none then t.openInbound b a true (fun id => [{ kind := .barW, origin := .localReg b id place }]) else t.serveLocal b a place

/-- The barrier before a local access is satisfied. -/
def State.localAnswer (s : State) (b id : Nat) (place : LocalAt) : State :=
  match (s.br b).inbound.find? (fun q => decide (q.id = id)) with
  | none => s
  | some q => (s.modBr b (fun r => { r with inbound := r.inbound.filter (fun x => decide (x.id ≠ id)) })).serveLocal b q.acc place

/-- An access to the local page (R455 to R457, R560); the BAR_FULL of a FLUSH is barrier enough (R449). A function in D3hot answers UR
(PRESUMED from PCI Express, log 39). Where the bridge's domain is FENCING or DRAINING in HALTED, R49's UR goes
before R560's DOMAIN_OFF (DEDUCED, log 114). -/
def State.localPage (s : State) (b : Nat) (a : BarAccess) (rel : Nat) : State :=
  let n := if a.write then a.data.length else a.len
  let slot := (rel - 0x10000) / 0x40
  let reg := rel % 0x40
  let load : Bool := decide (0x10000 ≤ rel ∧ slot < 16 ∧ reg = 0x10) && ! a.write
  let store : Bool := decide (0x10000 ≤ rel ∧ slot < 16 ∧ reg = 0x20) && a.write
  if load then s.exLoadOp b slot n a.tag a.ro
  else if store then s.exStoreOp b slot a.data a.ro
  else if ¬ s.localServed ∨ (s.br b).d3 then s.answerLocal b a 2
  else if s.bridgeFenced b then s.answerLocal b a 5
  else if rel = 0 ∧ ¬ a.write ∧ n = 8 then s.flushOp b a.tag
  else s.localAccess b a (.page rel)

/-- Whether an inbound memory request reaches the bridge: the link carries TLPs. -/
def State.linkCarries (s : State) (b : Nat) : Bool := decide ((s.br b).state = .up ∨ (s.br b).state = .recovery)

/-- BAR0_ACCESS (R444, R445, R447, R448, R463, R560). A function in D3hot answers UR (PRESUMED from PCI Express, log 39). -/
def State.bar0 (s : State) (b : Nat) (a : BarAccess) : State :=
  let off := a.offset
  let n := if a.write then a.data.length else a.len
  if ¬ s.linkCarries b then s
  else if a.form ≠ .memory then s.unsupported b a
  else if s.dev = .halted ∨ (s.br b).d3 ∨ s.role b ≠ 2 then s.answerLocal b a 2
  else if b < 2 then
    if off < 0x800000 ∧ off % 0x100000 + max 1 n ≤ 0x50000 then
      if ¬ s.fabricRuns then s.answerLocal b a 2
      else
        let e := off / 0x100000
        let t := niOfDm e
        let s := s.orderInbound b a (some t) false
        let page := off % 0x100000
        let dir := some (mkFa 1 t page, s.ob (brIdx b) 9)
        if a.write then
          s.openInbound b a false (fun id => [{ kind := .write, np := true, addr := page, len := n, data := a.data, direct := dir, origin := .bridge b id 0 n }])
        else
          s.openInbound b a true (fun id => [{ kind := .read, np := true, addr := page, len := n, direct := dir, origin := .bridge b id 0 n }])
    else if 0x800000 ≤ off ∧ off < 0x820000 then s.localPage b a (off - 0x800000)
    else if s.bridgeFenced b then s.answerLocal b a 5
    else if 0xF00000 ≤ off ∧ off + n ≤ 0xF01000 ∧ s.localServed then s.localAccess b a (.table (off - 0xF00000))
    else if 0xF01000 ≤ off ∧ off + n ≤ 0xF01020 ∧ s.localServed then s.localAccess b a (.bits (off - 0xF01000))
    else s.answerLocal b a 2
  else if s.bridgeFenced b then s.answerLocal b a 5
  else if off + n ≤ 0x200 then s.localAccess b a (.table off)
  else if 0x2000 ≤ off ∧ off + n ≤ 0x2008 then s.localAccess b a (.bits (off - 0x2000))
  else s.answerLocal b a 2

def execBar0Access (b : BridgeId) (acc : BarAccess) (s : State) : Host.Outcome State Fault Refusal := done s (s.bar0 b.val acc)

/-- BAR4_ACCESS (R446, R447, R455); at a root port the offset is a PCIe address from downstream. -/
def State.bar4Access (s : State) (b : Nat) (a : BarAccess) : State :=
  let n := if a.write then a.data.length else a.len
  let page := s.ob (brIdx b) 0xB
  if ¬ s.linkCarries b then s
  else if a.form ≠ .memory then s.unsupported b a
  else if s.dev = .halted ∨ (s.br b).d3 ∨ s.role b = 0 then s.answerLocal b a 2
  else if 2 ≤ b ∧ page < 2 ^ 64 - 1 ∧ page ≤ a.offset ∧ a.offset < page + 0x20000 then s.localPage b a (a.offset - page)
  else if s.role b = 2 ∧ a.offset + max 1 n > 2 ^ (s.br b).bar4 then s.answerLocal b a 2
  else s.windowAccess b a

def execBar4Access (b : BridgeId) (acc : BarAccess) (s : State) : Host.Outcome State Fault Refusal := done s (s.bar4Access b.val acc)

def execFlush (b : BridgeId) (tag : Nat) (s : State) : Host.Outcome State Fault Refusal :=
  done s (if s.linkCarries b.val then s.localPage b.val { write := false, offset := 0, len := 8, tag := tag } 0 else s)

def execExLoad (b : BridgeId) (slot : Fin 16) (len tag : Nat) (s : State) : Host.Outcome State Fault Refusal :=
  done s (if s.linkCarries b.val then s.exLoadOp b.val slot.val len tag else s)

def execExStore (b : BridgeId) (slot : Fin 16) (data : Bytes) (s : State) : Host.Outcome State Fault Refusal :=
  done s (if s.linkCarries b.val then s.exStoreOp b.val slot.val data else s)

/-! ### Outbound requests -/

/-- The PCIe address of a fabric offset (R464). -/
def State.outAddr (s : State) (b fa : Nat) : Nat := field (s.ob (brIdx b) 7) 23 0 <<< 40 ||| faOffset fa

/-- Whether posted credits are left after a write: the partner's to say, so free (R467). -/
def State.usePosted (s : State) (b : Nat) : State :=
  let (c, s) := s.drawBit
  s.modBr b (fun r => { r with credits := c })

/-- The lowest free outbound slot. -/
def Bridge.freeSlot (r : Bridge) : Option Nat := (List.range 512).find? (fun i => (sfind r.slots i).isNone)

/-- The PCIe tag of a slot (R467). -/
def Bridge.tagOf (r : Bridge) (slot : Nat) : Nat := b2n (r.gens.contains slot) <<< 9 ||| slot

/-- The MWrs of a write, none longer than the link's largest payload (R464). -/
def State.sendMwrs (s : State) (b addr : Nat) (data : Bytes) : State :=
  let m := s.maxPayload b
  (List.range (max 1 ((data.length + m - 1) / m))).foldl (fun s j => s.tlp b (.mwr (addr + m * j) (slice data (m * j) (min m (data.length - m * j))))) s

/-- BRIDGE_OUTBOUND_REQUEST: the request at the front of the bridge's input (R464, R467, R471, R473, R481). -/
def State.outbound (s : State) (b : Nat) : State :=
  let r := s.br b
  let n := niOfBridge b
  match r.outQ with
  | [] => s
  | p :: rest =>
    let posted := decide (p.hdr.opcode = 0x02)
    let off (s : State) : State := s.modBr b (fun r => if sendsMwr p then { r with outQ := rest }.postedLeft else { r with outQ := rest })
    if r.state = .recovery then s
    else if r.state ≠ .up then
      if posted then ((off s).acknowledge n p 6).brCount b 0x13 1 else ((off s).reply n p 6).brCount b 0x12 1
    else if ! r.bme || r.d3 then
      if posted then ((off s).acknowledge n p 3).brCount b 0x13 1 else (off s).reply n p 3
    else
      let addr := s.outAddr b p.hdr.fa
      if posted then
        if r.credits then
          (((off s).sendMwrs b addr (payloadOf p)).usePosted b).modBr b (fun r => { r with dll := r.dll ++ [p] })
        else s
      else
        match r.freeSlot with
        | none => ((off s).reply n p 0xA).brCount b 0x16 1
        | some slot =>
          let take (s : State) : State := s.modBr b (fun r => { r with slots := sins r.slots slot { pkt := p } })
          if p.hdr.opcode = 0x03 then
            if r.credits then
              ((take (((off s).sendMwrs b addr (payloadOf p)).usePosted b)).tlp b (.mrd (addr + max 1 p.hdr.len - 1) 0 (r.tagOf slot)))
            else s
          else (take (off s)).tlp b (.mrd addr p.hdr.len (r.tagOf slot))

def execBridgeOutboundRequest (b : BridgeId) (s : State) : Host.Outcome State Fault Refusal := done s (s.outbound b.val)

/-- DATA_LINK_LAYER_ACCEPT: the ACK of the oldest outbound posted write (R464). -/
def execDataLinkLayerAccept (b : BridgeId) (s : State) : Host.Outcome State Fault Refusal :=
  done s (
    match (s.br b.val).dll with
    | [] => s
    | p :: rest => (s.modBr b.val (fun r => { r with dll := rest })).acknowledge (niOfBridge b.val) p 0)

def execPostedCreditReturn (b : BridgeId) (s : State) : Host.Outcome State Fault Refusal :=
  done s (s.modBr b.val (fun r => { r with credits := true }))

/-- PCIE_COMPLETION (R464, R465, R469): a read is answered when every completion has arrived; one that brings no byte, or more than are
left, is malformed. -/
def execPcieCompletion (b : BridgeId) (tag : Nat) (status : CplStatus) (ep : Bool) (data : Bytes) (s : State) : Host.Outcome State Fault Refusal :=
  let b := b.val
  let slot := tag % 512
  let r := s.br b
  done s (
    match sfind r.slots slot with
    | some x =>
      if bitAt tag 9 ≠ r.gens.contains slot then (s.brCount b 0x15 1).cfgSet b 0x41 0x10000
      else
        let rd := decide (x.pkt.hdr.opcode = 0x01)
        let got := x.data ++ data
        let poisoned := x.ep || ep
        if status = .sc ∧ rd ∧ data ≠ [] ∧ got.length < x.pkt.hdr.len then
          s.setBr b { r with slots := sins r.slots slot { x with data := got, ep := poisoned } }
        else
        let st := match status with
          | .sc => if rd ∧ got.length ≠ x.pkt.hdr.len then 3 else if poisoned then 7 else 0
          | .ur => 2
          | .rrs => 3
          | .ca => 3
          | .timeout => 8
        (s.setBr b { r with slots := sdel r.slots slot }).reply (niOfBridge b) x.pkt st (if st = 0 ∧ rd then got else [])
    | none => (s.brCount b 0x15 1).cfgSet b 0x41 0x10000)

/-- CPL_TIMEOUT_EXPIRY (R468). -/
def execCplTimeoutExpiry (b : BridgeId) (slot : Fin 512) (s : State) : Host.Outcome State Fault Refusal :=
  let b := b.val
  let r := s.br b
  done s (
    match sfind r.slots slot.val with
    | some x =>
      ((s.setBr b { r with slots := sdel r.slots slot.val, gens := toggle r.gens slot.val }).reply (niOfBridge b) x.pkt 8).brCount b 0x14 1
    | none => s)

/-! ### Downstream configuration space -/

def cplNum : CplStatus → Nat
  | .sc => 0 | .ur => 1 | .rrs => 2 | .ca => 4 | .timeout => 8

/-- CFG_DATA_READ (R463): the CFG_DATA read that waits is issued and answered with its outcome. Where the link is
not UP no request can leave (R465; DEDUCED, log 109). -/
def execCfgDataRead (b : BridgeId) (outcome : CplStatus) (data : Nat) (s : State) : Host.Outcome State Fault Refusal :=
  let b := b.val
  let r := s.br b
  let a := r.cfgAddr
  done s (
    match r.cfgQ with
    | p :: rest =>
      if p.hdr.opcode ≠ 0x01 then s
      else
        let s := s.setBr b { r with cfgQ := rest }
        let ans (s : State) (st v : Nat) : State := s.reply (niOfBridge b) p 0 (leBytes (st <<< 32 ||| v % 2 ^ 32) 8)
        let lost (s : State) : State := (s.reply (niOfBridge b) p 6).brCount b 0x12 1
        match s.cfgRoute b with
        | .self => ans s 0 (s.cfgRead b (field a 11 2))
        | .none => ans s 1 0
        | r =>
          if ¬ s.linkCarries b then lost s
          else ans (s.tlp b (.cfg false (decide (r = .type1)) (a % 2 ^ 28) 0 15)) (cplNum outcome) (if outcome = .sc then data else 0)
    | [] => s)

/-- CFG_DATA_WRITE (R463). The value written is that of the waiting access; the outcome of its request is its status
(R465). -/
def execCfgDataWrite (b : BridgeId) (_value : Nat) (outcome : CplStatus) (s : State) : Host.Outcome State Fault Refusal :=
  let b := b.val
  let r := s.br b
  let a := r.cfgAddr
  done s (
    match r.cfgQ with
    | p :: rest =>
      if p.hdr.opcode ≠ 0x03 then s
      else
        let s := s.setBr b { r with cfgQ := rest }
        let v := fromLe (payloadOf p)
        let be := if field v 35 32 = 0 then 15 else field v 35 32
        let st := match outcome with
          | .sc => 0 | .ur => 2 | .rrs => 3 | .ca => 3 | .timeout => 8
        let ans (s : State) (x : Nat) : State := s.reply (niOfBridge b) p x
        let lost (s : State) : State := (s.reply (niOfBridge b) p 6).brCount b 0x12 1
        match s.cfgRoute b with
        | .self => ans (s.cfgWrite b (field a 11 2) (v % 2 ^ 32) be) 0
        | .none => ans s 2
        | r =>
          if ¬ s.linkCarries b then lost s
          else ans (s.tlp b (.cfg true (decide (r = .type1)) (a % 2 ^ 28) (v % 2 ^ 32) be)) st
    | [] => s)

/-- An accepted access to SPACE 0b01 of a bridge (R451, R463): `none` where no register takes it. -/
def State.bridgeFast (s : State) (b : Nat) (p : Packet) : Option State :=
  let n := niOfBridge b
  let off := faOffset p.hdr.fa
  let wr := decide (p.hdr.opcode = 0x02 ∨ p.hdr.opcode = 0x03)
  let fin (s : State) : State := if p.hdr.opcode = 0x03 then s.reply n p 0 else s.acknowledge n p 0
  let root := decide (2 ≤ b ∧ s.role b = 1)
  let v := fromLe (payloadOf p)
  if p.hdr.len ≠ 8 then none
  else if off = 0 ∧ wr ∧ ¬ root then some (fin (s.trigger b v (decide (p.hdr.src = n))))
  else if off = 0x100 ∧ root then
    if wr then (if v < 2 ^ 29 ∧ v % 4 = 0 then some (fin (s.modBr b (fun r => { r with cfgAddr := v }))) else none)
    else if p.hdr.opcode = 0x01 then some (s.reply n p 0 (leBytes (s.br b).cfgAddr 8)) else none
  else if off = 0x108 ∧ root ∧ (p.hdr.opcode = 0x01 ∨ (p.hdr.opcode = 0x03 ∧ v < 2 ^ 36)) then
    some (s.modBr b (fun r => { r with cfgQ := r.cfgQ ++ [p] }))
  else none

/-! ### Training of port bridges -/

/-- PORT_WAVE_START (R462): wave w + 1. -/
def execPortWaveStart (wave : Fin 3) (s : State) : Host.Outcome State Fault Refusal :=
  done s (
    if s.fabricRuns then
      let s := { s with pwr := { s.pwr with waves := addOnce s.pwr.waves wave.val } }
      ((List.range 12).filter (fun k => decide (k / 4 = wave.val))).foldl (fun s k =>
        let b := 2 + k
        if s.role b = 0 ∨ s.domain (bridgeDom b) ≠ .on then s
        else
          let s := s.modBr b (fun r => { r with waveDone := true })
          if s.role b = 2 then s.tryTrain b else s) s
    else s)

/-- PERST_DELAY_EXPIRY (R462): the root port lets PBk_PERST_N go and trains. -/
def execPerstDelayExpiry (pb : Fin 12) (s : State) : Host.Outcome State Fault Refusal :=
  let b := 2 + pb.val
  done s (
    if s.role b = 1 ∧ (s.br b).waveDone ∧ s.domain (bridgeDom b) = .on then
      (s.modBr b (fun r => { r with perstOut := false })).tryTrain b
    else s)

/-- PB_PERST_DEASSERT (R461, R462): endpoint role. -/
def execPbPerstDeassert (pb : Fin 12) (s : State) : Host.Outcome State Fault Refusal :=
  let b := 2 + pb.val
  done s ((s.modBr b (fun r => { r with perst := false })).tryTrain b)

end Sys2Proof.Machine
end

