-- ==== Sys2Proof/Machine/Initiators.lean ====
section
/-! DEFINITION. The initiator side of a network interface: ACCEPT, TRANSLATE, ADMIT, BUFFER, SHAPE, GATE and SEND, the
posted-write buffer, barriers, and what becomes of a completed access (chapters 07 and 08; R246 to R256). -/

namespace Sys2Proof.Machine

/-! ### Completions -/

/-- Tells the issuer of an access, or of a part of it, that it has completed. -/
def State.finish (s : State) (o : Origin) (status : Nat) (data : Bytes := []) : State :=
  match o with
  | .none => s
  | .dma e q w use => s.dmaAnswer e q w use status data
  | .ring e r use => s.ringDone e r use status data
  | .bridge b id off len => s.bridgeAnswer b id off len status data
  | .localReg b id place => s.localAnswer b id place
  | .exLoad b slot tag addr len => s.exLoadAnswer b slot tag addr len status data
  | .exStore b slot addr => s.exStoreAnswer b slot addr status

def State.finishAll (s : State) (l : List Origin) (status : Nat) (data : Bytes := []) : State :=
  l.foldl (fun s o => s.finish o status data) s

/-- Frees a TAG; `stale` toggles its GEN, as every completion but the response's does (R276). -/
def NI.freeTag (x : NI) (tag : Nat) (stale : Bool) : NI :=
  { x with tags := sdel x.tags tag, gens := if stale then toggle x.gens tag else x.gens }

/-- Completes a job without a response: a non-posted request frees its TAG and toggles GEN. -/
def State.fail (s : State) (n : Nat) (j : Job) (status : Nat) : State :=
  let s := if opKind j.pkt.hdr.opcode = .nonPosted then
      s.modNi n (fun x => if (sfind x.tags j.pkt.hdr.tag).isSome then x.freeTag j.pkt.hdr.tag true else x)
    else s
  s.finishAll j.origins status

/-! ### Ranges and pairs -/

/-- Class of a request job's pair. -/
def Job.paired (j : Job) : Bool := decide ((j.cls = 2 ∨ j.cls = 3) ∧ opKind j.pkt.hdr.opcode ≠ .response)
def Job.target (j : Job) : Nat := faTarget j.pkt.hdr.fa
/-- Key of a pair and class (R304). -/
def pairKey (target cls : Nat) : Nat := 2 * target + (if cls = 3 then 1 else 0)
def NI.pair (x : NI) (target cls : Nat) : Pair := sget {} x.pairs (pairKey target cls)
/-- Opcodes that write. -/
def writes (o : Nat) : Bool := decide (o = 0x02 ∨ o = 0x03 ∨ o = 0x05 ∨ o = 0x06 ∨ o = 0x08 ∨ o = 0x09 ∨ o = 0x0B)
/-- Bytes that a packet touches at its target. -/
def span (p : Packet) : Nat := if p.hdr.opcode = 0x06 then max 1 (atomicSize p.hdr.aop) else p.hdr.len
/-- Whether two runs of bytes of fabric addresses overlap. -/
def overlap (fa len fb lenb : Nat) : Bool := decide (fa < fb + lenb ∧ fb < fa + len)

/-- Every job the NI holds that is on its way to SEND. -/
def NI.moving (x : NI) : List Job := x.shape ++ x.gate ++ x.sendQ
/-- The place of the youngest access a job carries. -/
def Job.youngest (j : Job) : Nat := max j.ord j.last
/-- Every unacknowledged request. -/
def NI.unacked (x : NI) : List Job := x.pairs.flatMap (fun p => p.2.unacked)

/-- An SC3 write that the NI took before the access at a place, and whose receipt has not arrived, overlaps bytes of it (R284). -/
def NI.sc3Overlap (x : NI) (place fa len : Nat) : Bool :=
  (x.held ++ x.moving ++ x.unacked).any (fun j => decide (j.cls = 3 ∧ j.ord < place) && writes j.pkt.hdr.opcode
    && overlap fa len j.pkt.hdr.fa (span j.pkt))

/-! ### The gate and the shapers -/

/-- FAB cycles before a gate class next closes, `none` when it never does; 0 while it is closed (R347, R348, R350). -/
def State.gateLeft (s : State) (n cls : Nat) : Option Nat :=
  let g := (s.ni n).gates
  if ¬ g.enable ∨ cls ≥ 8 then none
  else
    let cyc := (g.entries.map (fun e => field e 23 0)).sum
    let t : Int := (s.netCount : Nat)
    let base : Int := ((g.seconds * 1500000 + g.stroke) * 2048 : Nat)
    let pos := if cyc = 0 then 0 else ((t - base) % (cyc : Int)).toNat
    run (g.entries ++ g.entries) pos cls false cyc
where
  /-- Walks the entries from the one in force. -/
  run : List Nat → Nat → Nat → Bool → Nat → Option Nat
    | [], _, _, _, _ => none
    | e :: rest, pos, cls, started, cyc =>
      let d := field e 23 0
      if ! started && decide (pos ≥ d) then run rest (pos - d) cls false cyc
      else
        let here := if started then d else d - pos
        if bitAt e (24 + cls) then
          (run rest 0 cls true cyc).map (here + ·)
        else some 0

/-- Flits of a packet. -/
def flitCount (p : Packet) : Nat := p.hdr.dflits + 1

/-- Whether a job may leave GATE now: open, and long enough (R348). -/
def State.gateOpen (s : State) (n : Nat) (j : Job) : Bool :=
  match s.gateLeft n j.gate with
  | none => true
  | some k => decide (0 < k ∧ flitCount j.pkt ≤ k)

/-- Whether an earlier SC2 packet of the same pair stands in a list (R323). A resend is earlier than every packet that has not
been sent yet. -/
def behind (j : Job) (l : List Job) : Bool :=
  decide (j.cls = 2) && l.any (fun k => k.cls = 2 && k.target = j.target && opKind k.pkt.hdr.opcode ≠ .response && (! j.pkt.hdr.retx || k.pkt.hdr.retx))

/-- A job at GATE: it passes, or waits (R323, R348). -/
def State.atGate (s : State) (n : Nat) (j : Job) : State :=
  if s.gateOpen n j ∧ ¬ behind j (s.ni n).gate then s.modNi n (fun x => { x with sendQ := x.sendQ ++ [j] })
  else (s.modNi n (fun x => { x with gate := x.gate ++ [j] })).bump (0x4300 + n) 0x50

def State.shaperEntry (s : State) (n sh : Nat) : Nat := s.kv (skey (0x4200 + n) 3 sh)
/-- The enabled shaper of a job. -/
def State.shaperOf (s : State) (n : Nat) (j : Job) : Option Nat :=
  match j.shaper with
  | some sh => if bitAt (s.shaperEntry n sh) 63 then some sh else none
  | none => none
/-- Charge of a packet in 1/1024 byte (R341). -/
def charge (j : Job) : Nat := 64 * flitCount j.pkt * 1024

/-- Places a shaper in the calendar wheel (R345). -/
def State.placeShaper (s : State) (n sh need : Nat) : State :=
  let rate := field (s.shaperEntry n sh) 57 40
  let have_ := sget 0 (s.ni n).tokens sh
  let cycles := if rate = 0 then 0 else (need - have_ + rate - 1) / rate
  let now := s.nsCycle / 32
  let slot := (s.nsCycle + 2 * cycles + 31) / 32
  let lap := decide (slot > now + 1023)
  let slot := if lap then now + 1023 else slot
  let s := s.modNi n (fun x => { x with wheel := sins x.wheel sh (slot % 1024) })
  let s := if lap then s.bump (0x4200 + n) 0x11 else s
  s.highWater (0x4200 + n) 0x13 (s.ni n).wheel.length

/-- The oldest packet of a shaper leaves SHAPE when its turn and its tokens allow, or its shaper enters the wheel
(R323, R343, R345); a packet that waits for tokens is counted once. -/
def State.evalShaper (s : State) (n sh : Nat) : State :=
  let x := s.ni n
  match x.shape.find? (fun j => j.shaper = some sh) with
  | none => s
  | some j =>
    let before := x.shape.takeWhile (fun k => k ≠ j)
    if (sfind x.wheel sh).isSome ∨ x.gate.any (fun k => k.shaper = some sh) ∨ behind j before then s
    else if s.shaperOf n j = none then (s.setNi n { x with shape := x.shape.erase j }).atGate n j
    else if sget 0 x.tokens sh ≥ charge j then
      (s.setNi n { x with shape := x.shape.erase j, tokens := smod 0 x.tokens sh (· - charge j) }).atGate n j
    else if j.waited then s.placeShaper n sh (charge j)
    else ((s.setNi n { x with shape := x.shape.map (fun k => if k = j then { k with waited := true } else k) }).bump (0x4200 + n) 0x10).placeShaper n sh (charge j)

/-- Whether an earlier packet of the same shaper stands in a list: packets of one shaper leave in arrival order (R323). -/
def sameShaper (j : Job) (l : List Job) : Bool := j.shaper.isSome && l.any (fun k => k.shaper = j.shaper)

/-- Lets packets that no shaper charges leave SHAPE once the packets that R323 puts before them have left. -/
def State.flushShape (s : State) (n : Nat) : Nat → State
  | 0 => s
  | f + 1 =>
    let x := s.ni n
    let free (j : Job) : Bool := (s.shaperOf n j).isNone && ! behind j (x.shape.takeWhile (fun k => k ≠ j))
      && ! sameShaper j (x.shape.takeWhile (fun k => k ≠ j))
      && (match j.shaper with
         | some sh => (sfind x.wheel sh).isNone
         | none => true)
    match x.shape.find? free with
    | none => s
    | some j => ((s.setNi n { x with shape := x.shape.erase j }).atGate n j).flushShape n f

/-- A job at SHAPE: it passes at once, or waits (R341, R343). -/
def State.atShape (s : State) (n : Nat) (j : Job) : State :=
  let x := s.ni n
  match s.shaperOf n j with
  | none => if behind j x.shape || sameShaper j x.shape then s.setNi n { x with shape := x.shape ++ [j] } else s.atGate n j
  | some sh =>
    let first := ! x.shape.any (fun k => k.shaper = some sh)
    let ready := first && ! behind j x.shape && ! x.gate.any (fun k => k.shaper = some sh)
    if ready && decide (sget 0 x.tokens sh ≥ charge j) then
      (s.setNi n { x with tokens := smod 0 x.tokens sh (· - charge j) }).atGate n j
    else
      let s := s.setNi n { x with shape := x.shape ++ [j] }
      if first then s.evalShaper n sh else s

/-! ### ADMIT -/

def Xlat.ctrl (x : Xlat) : Bool := bitAt x.attr 30
/-- Class, or 4 for a mask-tree group (R327). -/
def State.xcls (s : State) (x : Xlat) : Nat :=
  if faSpace x.fa = 3 ∧ field (s.group (faTarget x.fa)) 63 62 = 1 then 4 else field x.attr 29 28

/-- Whether an access is non-posted: every kind but a Bulk write and a Bulk SEND (R275, R279). -/
def nonPosted (a : Access) (x : Xlat) : Bool :=
  match a.kind with
  | .write => a.np || x.ctrl
  | .send => x.ctrl
  | _ => true

/-- ADMIT: the refusal of an access, if any: status, and the counter of a dropped posted write (R26, R215, R218, R326,
R327, R400). -/
def State.admission (s : State) (n : Nat) (a : Access) (x : Xlat) : Option (Nat × Nat × Nat) :=
  let bad := some (2, 0x4000 + n, 0x84)
  let space := faSpace x.fa
  let t := faTarget x.fa
  let np := nonPosted a x
  let flow := field x.attr 9 0
  let g := s.group t
  let kind := field g 63 62
  if a.mcast = some (decide (space ≠ 3)) then bad
  else if space = 2 then bad
  else if space < 2 ∧ (¬ validNi t ∨ ¬ spaceAccepted t space) then bad
  else if space = 3 ∧ (np ∨ a.kind ≠ .write ∨ kind = 0) then bad
  else if space = 3 ∧ kind = 1 then none
  else
    let c := field x.attr 29 28
    if space = 3 ∧ (¬ s.cox.running ∨ c > 1) then bad
    else if c = 0 then
      let v := sget 0 s.fabric.act.flows flow
      if space = 3 ∧ ¬ (flowType v ≠ 0 ∧ flowMcast v ∧ flowDst v = t) then bad
      else if ¬ s.sc0Runs then some (0xA, 0x3493, 2)
      else if flowType v = 0 ∨ flowSrc v ≠ n ∨ flowDst v ≠ t ∨ flowMcast v ≠ decide (space = 3) ∨ (np ∧ flowType v ≠ 2) then
        some (0xA, 0x3493, 2)
      else none
    else if c = 1 then
      let v := sget 0 s.fabric.act.circuits flow
      if space = 3 ∧ ¬ (circDefined v ∧ circMcast v ∧ circDst v = t) then bad
      else if ¬ s.cox.running ∨ ¬ circDefined v ∨ circSrc v ≠ n ∨ circDst v ≠ t ∨ circMcast v ≠ decide (space = 3) then
        some (0xA, 0x3493, 3)
      else none
    else none

/-- Opcode of an access (R275). -/
def opcodeOf (a : Access) (x : Xlat) : Nat :=
  match a.kind with
  | .read => 0x01
  | .write => if nonPosted a x then 0x03 else 0x02
  | .ldres => 0x04
  | .stcond => 0x05
  | .atomic => 0x06
  | .send => if nonPosted a x then 0x09 else 0x08
  | .sendNp => 0x09
  | .mgmtRead => 0x0A
  | .mgmtWrite => 0x0B
  | .barW => 0
  | .barFull => 0

/-- The lowest free TAG (R276). -/
def NI.newTag (x : NI) : Option Nat := (List.range 512).find? (fun t => (sfind x.tags t).isNone)

/-! ### BUFFER -/

/-- Whether a write may merge into an entry (R289, R290). The entry keeps the gate class and the shaper of its first write
(DESIGN CHOICE, log 48). -/
def WbEntry.matches (w : WbEntry) (j : Job) (line : Nat) : Bool :=
  decide (w.fa = line ∧ w.cls = j.cls ∧ w.pkey = j.pkt.hdr.pkey) && ! w.closed

/-- The lines of a run of bytes: line address, offset in the run, offset in the line, length. -/
def linesOf : Nat → Nat → Nat → Nat → List (Nat × Nat × Nat × Nat)
  | 0, _, _, _ => []
  | f + 1, fa, off, len =>
    if len = 0 then []
    else
      let a := fa + off
      let k := min len (64 - a % 64)
      (a - a % 64, off, a % 64, k) :: linesOf f fa (off + k) (len - k)

/-- Merges one line of a write into the buffer (R290, R291). -/
def NI.mergeLine (x : NI) (j : Job) (data : Bytes) (line off at_ len : Nat) : NI :=
  let part := j.origins.map (fun o => (at_, o.part off len))
  let put (bs : List (Option Byte)) : List (Option Byte) :=
    bs.take at_ ++ (slice data off len).map some ++ bs.drop (at_ + len)
  match x.wb.find? (fun w => w.matches j line) with
  | some w =>
    let bs := put w.bytes
    let w' := { w with bytes := bs, origins := w.origins ++ part, fence := w.fence || j.pkt.hdr.fence, closed := bs.all Option.isSome,
                       ord := if j.pkt.hdr.fence then j.ord else w.ord, last := j.ord }
    { x with wb := x.wb.map (fun v => if v = w then w' else v) }
  | none =>
    let bs := put (List.replicate 64 none)
    let w : WbEntry := { fa := line, cls := j.cls, pkey := j.pkt.hdr.pkey, gate := j.gate, shaper := j.shaper, bytes := bs,
                         closed := bs.all Option.isSome, fence := j.pkt.hdr.fence, origins := part, ord := j.ord, last := j.ord }
    { x with wb := (x.wb.map (fun v => if v.fa = line then { v with closed := true } else v)) ++ [w] }

/-- Whether an entry holds valid bytes of a run. -/
def WbEntry.touches (w : WbEntry) (fa len : Nat) : Bool :=
  (List.range 64).any (fun i => ((w.bytes.getD i none).isSome) && decide (fa ≤ w.fa + i ∧ w.fa + i < fa + len))

/-- The youngest buffered byte at a fabric address. -/
def NI.buffered (x : NI) (a : Nat) : Option Byte :=
  x.wb.foldl (fun b w => if w.fa ≤ a ∧ a < w.fa + 64 then
      (match w.bytes.getD (a - w.fa) none with
       | some v => some v
       | none => b)
    else b) none

/-- FENCE of a request as it leaves BUFFER: on SC3 where the endpoint asked for it, for STCOND, and over an earlier write that
is on its way (R269, R284, R294). A packet with FENCE takes the place of its youngest write. -/
def State.fenced (s : State) (n : Nat) (j : Job) : Job :=
  let f := decide (j.cls = 3) && (j.pkt.hdr.fence || (s.ni n).sc3Overlap j.youngest j.pkt.hdr.fa (span j.pkt) || decide (j.pkt.hdr.opcode = 0x05))
  { j with pkt := { j.pkt with hdr := { j.pkt.hdr with fence := f } }, ord := if f then j.youngest else j.ord }

/-- A job leaves BUFFER: SC0 and SC1 wait in queues of their own, the others go to SHAPE (R321). -/
def State.afterBuffer (s : State) (n : Nat) (j : Job) : State :=
  let j := s.fenced n j
  if j.cls = 0 then s.modNi n (fun x => { x with sc0 := x.sc0 ++ [j] })
  else if j.cls = 1 then s.modNi n (fun x => { x with circ := x.circ ++ [j] })
  else s.atShape n j

/-- Whether an access must not pass an earlier one that is held: they share bytes that one of them writes, or both are Control
accesses (R280, R283; DEDUCED, log 123). -/
def Job.keepsBehind (j k : Job) : Bool :=
  ((writes j.pkt.hdr.opcode || writes k.pkt.hdr.opcode) && overlap j.pkt.hdr.fa (span j.pkt) k.pkt.hdr.fa (span k.pkt))
    || (j.pkt.hdr.ctrl && k.pkt.hdr.ctrl)

/-- Whether a held access may go on: the entries it overlapped and the held accesses before it have left, and for SC3 their
receipts have arrived (R293). -/
def NI.heldFree (x : NI) (j : Job) : Bool :=
  ! x.held.any (fun k => decide (k.ord < j.ord) && j.keepsBehind k)
    && ! x.wb.any (fun w => decide (w.last < j.ord) && w.touches j.pkt.hdr.fa (span j.pkt))
    && (j.cls ≠ 3 || ! (x.moving ++ x.unacked).any (fun k => decide (k.cls = 3 ∧ k.youngest < j.ord) && writes k.pkt.hdr.opcode
         && overlap j.pkt.hdr.fa (span j.pkt) k.pkt.hdr.fa (span k.pkt)))

/-- Lets held accesses go on in their order. -/
def State.releaseHeld (s : State) (n : Nat) : State :=
  (s.ni n).held.foldl (fun s j =>
    if (s.ni n).heldFree j then (s.modNi n (fun x => { x with held := x.held.erase j })).afterBuffer n j else s) s

/-- An access that writes and bypasses the buffer closes the entries of its lines (R291). -/
def NI.closeLines (x : NI) (p : Packet) : NI :=
  if writes p.hdr.opcode then
    { x with wb := x.wb.map (fun w => if overlap w.fa 64 p.hdr.fa (span p) then { w with closed := true } else w) }
  else x

/-- An access is held at BUFFER; the entries whose bytes it shares close (R293). -/
def NI.hold (x : NI) (j : Job) : NI :=
  { x with wb := x.wb.map (fun w => if w.touches j.pkt.hdr.fa (span j.pkt) then { w with closed := true } else w), held := x.held ++ [j] }

/-- A formed packet at BUFFER (R289 to R293). `false`: it must wait for a free entry, and the oldest is closed. An access
that does not enter the buffer but writes bytes it holds waits for them as a load does (DEDUCED, log 48, from R283, R291); a
load of a Control window is never answered from the buffer (R279) and waits as well. -/
def State.atBuffer (s : State) (n : Nat) (j : Job) (data : Bytes) (direct : Bool) : State × Bool :=
  let x := s.ni n
  let p := j.pkt
  let bufferable := decide (p.hdr.opcode = 0x02 ∧ (j.cls = 2 ∨ j.cls = 3) ∧ faSpace p.hdr.fa ≠ 3 ∧ s.ob (0x3800 + n) 4 ≠ 0) && ! direct && ! p.hdr.ctrl
  let len := span p
  if bufferable then
    let lines := linesOf 10 p.hdr.fa 0 data.length
    let fresh := (lines.filter (fun l => ! x.wb.any (fun w => w.matches j l.1))).length
    if x.wb.length + fresh > 32 then
      (s.setNi n { x with wb := match x.wb with
                                | w :: more => { w with closed := true } :: more
                                | [] => [] }, false)
    else (s.setNi n (lines.foldl (fun x l => x.mergeLine j data l.1 l.2.1 l.2.2.1 l.2.2.2) x), true)
  else if x.held.any (fun k => j.keepsBehind k) then (s.setNi n ((x.closeLines p).hold j), true)
  else if p.hdr.opcode = 0x01 ∧ len > 0 ∧ x.wb.any (fun w => w.touches p.hdr.fa len) then
    let bytes := (List.range len).map (fun i => x.buffered (p.hdr.fa + i))
    let whole := bytes.all Option.isSome
    if whole ∧ ¬ p.hdr.ctrl then
      -- answered from the buffer: nothing is sent (R292), and the request completes without a response (R276)
      let s := s.modNi n (fun x => x.freeTag p.hdr.tag true)
      ((s.bump (0x3800 + n) 0x17).finishAll j.origins 0 (bytes.map (·.getD 0)), true)
    else
      let s := s.setNi n (x.hold j)
      (if whole then s else s.bump (0x3800 + n) 0x18, true)
  else if len > 0 ∧ (j.cls = 2 ∨ j.cls = 3) ∧ x.wb.any (fun w => w.touches p.hdr.fa len) then (s.setNi n ((x.closeLines p).hold j), true)
  else ((s.setNi n (x.closeLines p)).afterBuffer n j, true)

/-! ### ACCEPT and TRANSLATE -/

/-- Moves a cached window to the front. -/
def NI.useCached (x : NI) (c : CacheEntry) : NI := { x with cache := c :: x.cache.erase c }

/-- TRANSLATE (R324, R325, R331): the translated access and whether its last byte lies in its window, with the cache hit,
missed or filled. Windows are defined while the image's tables are (R45, R330). -/
def State.translate (s : State) (n : Nat) (a : Access) : Option (Xlat × Bool) × State :=
  match a.direct with
  | some (fa, key) => (some ({ fa := fa, pkey := key, attr := 2 ^ 31 + b2n a.np * 2 ^ 30 + 2 * 2 ^ 28, direct := true }, true), s)
  | none =>
    if ¬ s.fabricRuns then (none, s)
    else
      let last := a.addr + (a.len - 1)
      let form (base limit target attr : Nat) : Option (Xlat × Bool) :=
        some ({ fa := (target % 2 ^ 48 + (a.addr - base)) % 2 ^ 48, pkey := field target 63 48, attr := attr, direct := false }, decide (last ≤ limit))
      match (s.ni n).cache.find? (fun c => decide (c.base ≤ a.addr ∧ a.addr ≤ c.limit)) with
      | some c => (form c.base c.limit c.target c.attr, (s.modNi n (fun x => x.useCached c)).bump (0x4000 + n) 0x82)
      | none =>
        let s := s.bump (0x4000 + n) 0x83
        match s.windowAt n a.addr with
        | none => (none, s)
        | some (w, b, l, t, attr) =>
          let c : CacheEntry := { win := w, base := b, limit := l, target := t, attr := attr }
          (form b l t attr, s.modNi n (fun x => { x with cache := (c :: x.cache.filter (fun e => decide (e.win ≠ w))).take 8 }))

/-- Whether an access waits at ACCEPT for the barrier in force (R287). -/
def NI.barred (x : NI) (a : Access) : Bool :=
  match x.barrier with
  | none => false
  | some (true, _) => true
  | some (false, _) =>
    match a.kind with
    | .read => false | .ldres => false | .mgmtRead => false
    | .write => true | .stcond => true | .atomic => true | .send => true | .sendNp => true | .mgmtWrite => true
    | .barW => true | .barFull => true

/-- Refuses an access at once (R320, R560). -/
def State.refuse (s : State) (a : Access) (posted : Bool) (status obj sub : Nat) : State :=
  let s := if posted then s.bump obj sub else s
  s.finish (a.origin.part 0 (max a.len (match a.origin with | .bridge _ _ _ l => l | _ => 0))) status

/-- Forms the packet of one piece of an access (R269 to R271, R276). -/
def State.formJob (s : State) (n : Nat) (a : Access) (x : Xlat) (off len : Nat) (tag : Option Nat) : Job × Bytes :=
  let op := opcodeOf a x
  let cls := s.xcls x
  let lane := if op = 0x0A ∨ op = 0x0B then 7 else if cls = 4 then 6 else laneOfClass cls
  let data := slice a.data off len
  let h : Header := { opcode := op, src := n, ctrl := x.ctrl, fa := x.fa + off, pkey := x.pkey, tag := tag.getD 0,
                      gen := tag.any (fun t => (s.ni n).gens.contains t), fence := a.fence, burstEnd := decide (cls = 1) && a.burstEnd,
                      flow := if cls < 2 then field x.attr 9 0 else 0,
                      aop := if a.kind = .atomic then a.aop else 0, len := len }
  let p : Packet :=
    match a.kind with
    | .read => { lane := lane, hdr := h, framed := 0 }
    | .ldres => { lane := lane, hdr := h, framed := 0 }
    | .mgmtRead => { lane := lane, hdr := h, framed := 0 }
    | .atomic => { lane := lane, hdr := { h with len := 32, inl := padTo 32 a.inl }, framed := 0 }
    | .send => { lane := lane, hdr := { h with short := false, dflits := (len + 63) / 64, inl := padTo 32 a.inl }, payload := data, framed := (len + 63) / 64 }
    | .sendNp => { lane := lane, hdr := { h with short := false, dflits := (len + 63) / 64, inl := padTo 32 a.inl }, payload := data, framed := (len + 63) / 64 }
    | _ => withPayload lane h data
  ({ pkt := p, cls := if lane = 7 then 4 else cls, gate := if x.direct then 8 else field x.attr 26 24,
     shaper := if ! x.direct && bitAt x.attr 27 then some (field x.attr 23 16) else none,
     origins := [a.origin.part off (max len (if a.kind = .barFull then 8 else len))], ord := (s.ni n).ord }, data)

/-- Members of a multicast group but for an initiator, as a mask (R215). -/
def State.membersFrom (s : State) (n g : Nat) : Nat := clrBitN (field (s.group g) 47 0) n

/-- Whether every pair of a request is marked unreachable: that of its target, or for a ROW or COLUMN group those of all its
members (R185; the latter a DESIGN CHOICE, log 102). -/
def State.cutOff (s : State) (n : Nat) (j : Job) : Bool :=
  let gone (d : Nat) : Bool := (s.ni n).unreach.contains (4 * d + j.cls)
  if faSpace j.pkt.hdr.fa < 2 then decide (j.cls < 4) && gone j.target
  else
    let m := (List.range 48).filter (fun d => bitAt (s.membersFrom n j.target) d)
    decide (j.cls < 2) && ! m.isEmpty && m.all gone

/-- Takes one piece of an access into the pipeline; `false` when it must wait. -/
def State.takePiece (s : State) (n : Nat) (a : Access) (x : Xlat) (off len : Nat) : State × Bool :=
  let np := nonPosted a x
  let tag := if np then (s.ni n).newTag else none
  if np ∧ tag = none then (s, false)
  else
    let (j, data) := s.formJob n a x off len tag
    if s.cutOff n j then
      -- a new request to an unreachable pair (R185)
      ((if np then s else s.bump (0x3800 + n) 0x15).finishAll j.origins 6, true)
    else
      let s1 := s.modNi n (fun x => { x with ord := x.ord + 1, tags := match tag with | some t => sins x.tags t j | none => x.tags })
      let s1 := if np then s1.highWater (0x3800 + n) 0x1E (s1.ni n).tags.length else s1
      if j.cls = 4 ∧ j.pkt.lane = 7 then (s1.modNi n (fun x => { x with sendQ := x.sendQ ++ [j] }), true)
      else
        let (s2, ok) := s1.atBuffer n j data (x.direct || a.short)
        if ok then (s2, true) else (s2.modNi n (fun x => { x with ord := x.ord - 1 }), false)

/-- The access at the front leaves the presents. -/
def NI.nextAccess (x : NI) : NI := { x with inbox := x.inbox.drop 1, cur := none }

/-- Takes the pieces of the access at the front, as far as TAGs and buffer entries go; the rest stays at the front, with its
translation (R333). -/
def State.takePieces (s : State) (n : Nat) (a : Access) (x : Xlat) : List (Nat × Nat) → State
  | [] => s.modNi n NI.nextAccess
  | (off, len) :: rest =>
    let (s', ok) := s.takePiece n a x off len
    if ok then s'.takePieces n a x rest
    else
      let a' := { a with addr := a.addr + off, len := a.len - off, data := a.data.drop off, origin := a.origin.part off (a.len - off),
                         direct := a.direct.map (fun d => (d.1 + off, d.2)) }
      s'.modNi n (fun y => { y with inbox := (if off = 0 then a else a') :: y.inbox.drop 1, cur := some { x with fa := x.fa + off } })

/-- The pieces of a translated access. -/
def Access.pieces (a : Access) (x : Xlat) : List (Nat × Nat) := if a.kind = .read ∨ a.kind = .write then accessPieces x.fa a.len else [(0, a.len)]

/-- ADMIT and BUFFER of the translated access at the front. What is left of one that waits at BUFFER is admitted again, since a
heat may have changed meanwhile (R248, R256). -/
def State.letIn (s : State) (n : Nat) (a : Access) (x : Xlat) : State :=
  match (if a.kind = .mgmtRead ∨ a.kind = .mgmtWrite then none else s.admission n a x) with
  | some (status, obj, sub) => (s.modNi n NI.nextAccess).refuse a (! nonPosted a x) status obj sub
  | none => s.takePieces n a x (a.pieces x)

/-- ACCESS_ACCEPT: the access at the front of the endpoint's presents passes ACCEPT, TRANSLATE, ADMIT and BUFFER, or is
refused, or waits (R319). In FENCING and DRAINING it is refused at once (R560). -/
def State.accept (s : State) (n : Nat) : State :=
  match (s.ni n).inbox with
  | [] => s
  | a :: _ =>
    let gone (s : State) : State := s.modNi n NI.nextAccess
    let needsTag : Bool := match a.kind with
      | .write => a.np | .send => false | _ => true
    match (s.ni n).cur with
    | some x => s.letIn n a x
    | none =>
    if a.kind = .barW ∨ a.kind = .barFull then s
    else if s.domain (niDom n) = .fencing ∨ s.domain (niDom n) = .draining then
      let posted := decide (a.kind = .write ∨ a.kind = .send) && ! a.np
      (gone s).refuse a posted 5 (0x2210 + niDom n) 6
    else if (s.ni n).barred a ∨ (needsTag ∧ (s.ni n).newTag = none) then s
    else
      let (x, s) := s.translate n a
      match x with
      | none => (gone s).refuse a (decide (a.kind = .write ∨ a.kind = .send) && ! a.np) 2 (0x4000 + n) 0x84
      | some (x, false) => (gone s).refuse a (! nonPosted a x) 2 (0x4000 + n) 0x84
      | some (x, true) => s.letIn n a x

def execAccessAccept (n : RouterId) (s : State) : Host.Outcome State Fault Refusal := done s (s.accept n.val)

/-! ### Write buffer, shaper and gate rows -/

/-- Runs of valid bytes of an entry: offset and bytes. -/
def runsOf : Nat → List (Option Byte) → List (Nat × Bytes)
  | _, [] => []
  | i, none :: rest => runsOf (i + 1) rest
  | i, some b :: rest =>
    match runsOf (i + 1) rest with
    | (j, bs) :: more => if j = i + 1 then (i, b :: bs) :: more else (i, [b]) :: (j, bs) :: more
    | [] => [(i, [b])]

/-- The packet of buffered bytes. -/
def wbJob (n : Nat) (w : WbEntry) (off : Nat) (data : Bytes) (origins : List Origin) : Job :=
  { pkt := withPayload (laneOfClass w.cls) { opcode := 0x02, src := n, fa := w.fa + off, pkey := w.pkey, fence := w.fence } data
    cls := w.cls, gate := w.gate, shaper := w.shaper, origins := origins, ord := w.ord, last := w.last }

/-- Full closed entries that continue an entry line by line, within 8 lines and one 4 KiB page (R271, R291). No entry leaves
before an older one of its line. -/
def chainOf (wb : List WbEntry) : Nat → WbEntry → List WbEntry
  | 0, _ => []
  | k + 1, w =>
    let next := w.fa + 64
    if next % 4096 = 0 then []
    else
      match wb.find? (fun v => decide (v.fa = next)) with
      | some v =>
        if v.cls = w.cls ∧ v.pkey = w.pkey ∧ v.gate = w.gate ∧ v.shaper = w.shaper ∧ v.fence = w.fence ∧ v.closed ∧ v.bytes.all Option.isSome then
          v :: chainOf wb k v
        else []
      | none => []

/-- WB_ENTRY_DEPART: the oldest closed entry leaves, with the full lines that follow it, or as one packet per run
(R291). Each packet completes the writes that lie in it. -/
def State.departEntry (s : State) (n : Nat) : State :=
  let x := s.ni n
  match x.wb.find? (·.closed) with
  | none => s
  | some w =>
    let s :=
      if w.bytes.all Option.isSome then
        let more := chainOf x.wb 7 w
        let all := w :: more
        let data := all.flatMap (fun v => v.bytes.map (·.getD 0))
        let s := s.setNi n { x with wb := x.wb.filter (fun v => ! all.contains v) }
        let place := all.foldl (fun m v => if w.fence then max m v.ord else min m v.ord) w.ord
        let last := all.foldl (fun m v => max m v.last) w.last
        s.afterBuffer n { wbJob n w 0 data (all.flatMap (fun v => v.origins.map (·.2))) with ord := place, last := last }
      else
        let rs := runsOf 0 w.bytes
        let s := s.setNi n { x with wb := x.wb.erase w }
        rs.foldl (fun s r => s.afterBuffer n (wbJob n w r.1 r.2
          ((w.origins.filter (fun o => decide (r.1 ≤ o.1 ∧ o.1 < r.1 + r.2.length))).map (·.2)))) s
    s.releaseHeld n

def execWbEntryDepart (n : RouterId) (s : State) : Host.Outcome State Fault Refusal := done s (s.departEntry n.val)

/-- WB_IDLE_EXPIRY (R291): entry i, counted from the oldest. -/
def execWbIdleExpiry (n : RouterId) (i : Fin 32) (s : State) : Host.Outcome State Fault Refusal :=
  done s (s.modNi n.val (fun x => { x with wb := (List.range x.wb.length).zip x.wb |>.map (fun w => if w.1 = i.val then { w.2 with closed := true } else w.2) }))

def State.closeAll (s : State) (n : Nat) : State :=
  s.modNi n (fun x => { x with wb := x.wb.map (fun w => { w with closed := true }) })

/-- Puts a barrier in force (R287): the one at the front of the endpoint's presents, or one that nobody waits for. While
another holds, it waits. -/
def State.issueBarrier (s : State) (n : Nat) (full : Bool) : State :=
  let x := s.ni n
  if x.barrier.isSome then s
  else
    match x.inbox with
    | a :: rest =>
      if a.kind = (if full then AccKind.barFull else AccKind.barW) then (s.setNi n { x with barrier := some (full, a.origin), inbox := rest }).closeAll n
      else (s.setNi n { x with barrier := some (full, .none) }).closeAll n
    | [] => (s.setNi n { x with barrier := some (full, .none) }).closeAll n

def execBarW (n : RouterId) (s : State) : Host.Outcome State Fault Refusal := done s (s.issueBarrier n.val false)
def execBarFull (n : RouterId) (s : State) : Host.Outcome State Fault Refusal := done s (s.issueBarrier n.val true)

/-- What a barrier waits for (R287, R288): no write buffered, on its way or unacknowledged; for BAR_FULL no non-posted
access outstanding either. -/
def NI.quiet (x : NI) (full : Bool) : Bool :=
  x.wb.isEmpty && ! (x.moving ++ x.unacked ++ x.sc0 ++ x.circ ++ x.held).any (fun j => writes j.pkt.hdr.opcode && opKind j.pkt.hdr.opcode ≠ .response)
    && ! x.tags.any (fun t => writes t.2.pkt.hdr.opcode && decide (t.2.cls = 2 ∨ t.2.cls = 3))
    && (! full || x.tags.isEmpty)

/-- BARRIER_SATISFIED. -/
def execBarrierSatisfied (n : RouterId) (s : State) : Host.Outcome State Fault Refusal :=
  let x := s.ni n.val
  done s (
    match x.barrier with
    | some (full, o) => if x.quiet full then (s.setNi n.val { x with barrier := none }).finish o 0 else s
    | none => s)

/-- SHAPER_RELEASE (R343). -/
def execShaperRelease (n : RouterId) (sh : Fin 256) (s : State) : Host.Outcome State Fault Refusal :=
  done s ((s.evalShaper n.val sh.val).flushShape n.val 4096)

/-- SHAPER_TOKEN_TICK: one NIC cycle (R342). -/
def execShaperTokenTick (n : RouterId) (s : State) : Host.Outcome State Fault Refusal :=
  done s ((List.range 256).foldl (fun s sh =>
    let v := s.shaperEntry n.val sh
    if bitAt v 63 then
      s.modNi n.val (fun x => { x with tokens := smod 0 x.tokens sh (fun t => min (t + field v 57 40) (1024 * field v 20 0)) })
    else s) s)

/-- Takes shapers out of the wheel and evaluates them again. -/
def State.releaseShapers (s : State) (n : Nat) (p : Nat → Bool) : State :=
  let l := ((s.ni n).wheel.filter (fun w => p w.2)).map (·.1)
  let s := s.modNi n (fun x => { x with wheel := x.wheel.filter (fun w => ! p w.2) })
  (l.foldl (fun s sh => s.evalShaper n sh) s).flushShape n 4096

/-- CALENDAR_SLOT: the slot that begins now (R345). -/
def execCalendarSlot (n : RouterId) (s : State) : Host.Outcome State Fault Refusal :=
  let now := s.nsCycle / 32 % 1024
  done s (s.releaseShapers n.val (fun w => decide (w = now)))

/-- Every shaper of every NI leaves the wheel (R346). -/
def State.releaseWheels (s : State) : State :=
  (List.range 48).foldl (fun s n =>
    if (s.ni n).wheel.isEmpty then s else (s.bump (0x4200 + n) 0x12).releaseShapers n (fun _ => true)) s

/-- The oldest packet at GATE that may leave (R323, R348). -/
def State.gateOut (s : State) (n : Nat) : Option Job :=
  let g := (s.ni n).gate
  g.find? (fun j => s.gateOpen n j && ! behind j (g.takeWhile (fun k => k ≠ j)))

/-- GATE_RELEASE (R348). -/
def execGateRelease (n : RouterId) (s : State) : Host.Outcome State Fault Refusal :=
  done s (
    match s.gateOut n.val with
    | some j => s.modNi n.val (fun x => { x with gate := x.gate.erase j, sendQ := x.sendQ ++ [j] })
    | none => s)

/-- GATE_ENTRY_CHANGE (R347): with the next entry in force, every packet whose class it opens for long enough leaves. -/
def State.gateFlush (s : State) (n : Nat) : Nat → State
  | 0 => s
  | f + 1 =>
    match s.gateOut n with
    | some j => (s.modNi n (fun x => { x with gate := x.gate.erase j, sendQ := x.sendQ ++ [j] })).gateFlush n f
    | none => s

def execGateEntryChange (n : RouterId) (s : State) : Host.Outcome State Fault Refusal := done s (s.gateFlush n.val 4096)

/-- Admin list of an NI's gate (R349). -/
def State.adminGates (s : State) (n : Nat) : GateList :=
  { enable := decide (s.ob (0x4300 + n) 1 = 1), seconds := s.ob (0x4300 + n) 2, stroke := s.ob (0x4300 + n) 3,
    entries := (List.range (s.ob (0x4300 + n) 4)).map (fun e => s.ob (0x4300 + n) (0x10 + e)), given := true }

/-- Makes the admin list pending: it starts at the first BASE + k · CYCLE at least 1500 strokes away (R349). -/
def State.gateApply (s : State) (n : Nat) : State :=
  let g := s.adminGates n
  let cyc := max 1 (g.entries.map (fun e => field e 23 0)).sum
  let base := (g.seconds * 1500000 + g.stroke) * 2048
  let min_ := s.netCount + 1500 * 2048
  let start := if base ≥ min_ then base else base + (min_ - base + cyc - 1) / cyc * cyc
  s.modNi n (fun x => { x with pendGates := some (g, start) })

/-- Makes a list the running one (R349). -/
def State.startGates (s : State) (n : Nat) (g : GateList) : State :=
  ((s.modNi n (fun x => { x with gates := g, pendGates := none })).obSet (0x4300 + n) 9 s.stamp).obSet (0x4300 + n) 8 1

/-- GATE_LIST_START: at its instant the pending list runs. -/
def execGateListStart (n : RouterId) (s : State) : Host.Outcome State Fault Refusal :=
  done s (
    match (s.ni n.val).pendGates with
    | some (g, t) => if t ≤ s.netCount then s.startGates n.val g else s
    | none => s)

/-- WINDOW_CACHE_EXPIRY (R331). -/
def execWindowCacheExpiry (n : RouterId) (w : Fin 32) (s : State) : Host.Outcome State Fault Refusal :=
  done s (s.modNi n.val (fun x => { x with cache := x.cache.filter (fun c => decide (c.win ≠ w.val)) }))

/-! ### SEND -/

/-- Whether an NI may inject on a lane in the device state (R44, R48, R49): in EASY, on L0 and L1 until they stop. -/
def State.laneRuns (s : State) (l : Nat) : Bool := s.laneCarries l && (decide (2 ≤ l) || decide (s.dev ≠ .easy) || s.cox.running)

/-- Free places of a lane at the router's local input, flits under way included (R162). -/
def State.portRoom (s : State) (r l : Nat) : Nat :=
  laneDepth l - ((s.buf r 4 l).length + ((sget [] s.fabric.fromNi r).filter (fun f => f.lane = l)).length)

/-- Requests kept in the retransmit store (R305). -/
def NI.stored (x : NI) : Nat := (x.pairs.map (fun p => p.2.unacked.length)).sum

/-- Cycles of each window of 8 NIC cycles in which a request of L4 or L2 may start at a throttle LEVEL (R606). -/
def throttleCycles (lane level : Nat) : Nat :=
  if lane = 4 then lget 0 [8, 6, 4, 2, 0, 0, 0, 0, 0] level
  else if lane = 2 then lget 0 [8, 8, 8, 8, 8, 6, 4, 2, 1] level
  else 8
/-- Whether the throttle lets a request of a lane start in this NIC cycle (R606); an NIC cycle is 2 FAB cycles. -/
def State.throttled (s : State) (l : Nat) : Bool := decide (throttleCycles l (s.ob 0x2503 5) ≤ s.clk.fab / 2 % 8)

/-- Whether a job at SEND may go now (R280, R285, R305, R323, R606). The packets of one FENCE write have one place, and of them
only one is unacknowledged at a time. `before` are the jobs ahead of it; a resend goes before
every SC2 request that has not been sent yet (R309). -/
def State.maySend (s : State) (n : Nat) (before : List Job) (j : Job) : Bool :=
  let x := s.ni n
  let p := j.pkt
  let c := p.hdr
  let fresh := j.paired && ! c.retx
  let pr := x.pair j.target j.cls
  s.laneRuns p.lane && decide (s.portRoom n p.lane ≥ flitCount p) && ! s.throttled p.lane
    && ! before.any (fun k => k.pkt.lane = p.lane && (p.lane ≠ 2 && p.lane ≠ 4 || (p.lane = 2 && k.target = j.target && (! c.retx || k.pkt.hdr.retx))))
    && (! fresh || (decide (pr.unacked.length < 64 ∧ x.stored < 256)))
    && (! (fresh && decide (p.lane = 2)) || ! x.sendQ.any (fun k => k.pkt.lane = 2 && k.pkt.hdr.retx && k.target = j.target))
    && (! (fresh && c.ctrl) || ! x.tags.any (fun t => t.2.pkt.hdr.ctrl && decide (t.2.ord < j.ord ∧ t.2.target ≠ j.target)))
    && (! (fresh && c.fence && decide (j.cls = 3)) ||
        ! ((x.held ++ x.moving).any (fun k => k.paired && decide (k.cls = 3 ∧ k.target = j.target ∧ k.ord < j.ord))
           || pr.unacked.any (fun k => decide (k.ord ≤ j.ord))))

/-- Removes a job from wherever SEND takes it. -/
def NI.takeSend (x : NI) (j : Job) : NI := { x with sendQ := x.sendQ.erase j }

/-- The flits of a packet as its NI injects them: an SC0 one's are due at the first output from 8 cycles after the injection
instant on (R242). -/
def State.flitsNow (s : State) (p : Packet) : List Flit :=
  if p.lane = 0 then (List.range (flitCount p)).zip (flitsOf p) |>.map (fun f => { f.2 with due := s.clk.fab + 8 + f.1 }) else flitsOf p

/-- Puts a packet's flits on the local port (R162). -/
def State.inject (s : State) (n : Nat) (p : Packet) : State :=
  { s with fabric := { s.fabric with fromNi := smod [] s.fabric.fromNi n (· ++ s.flitsNow p) } }

/-- An armed injection of TYPE 3 inverts a CRC bit of the next SC2 or SC3 request sent (R552). -/
def State.injectCrc (s : State) (n : Nat) (p : Packet) : State × Packet :=
  let t := s.flt.injTarget
  if s.flt.inject = .armed ∧ field t 31 28 = 3 ∧ field t 13 8 = n then
    (({ s with flt := { s.flt with inject := .done } }).bump 0x2440 5, { p with hdr := { p.hdr with crc := p.hdr.crc ^^^ 1 } })
  else (s, p)

/-- Sends a job: PSEQ, WSYNC, store and CRC for a request of SC2 or SC3, then its flits (R303 to R305). -/
def State.sendJob (s : State) (n : Nat) (j : Job) : State :=
  let s := s.noteIssue n j
  let x := s.ni n
  let left := s.gateLeft n j.gate
  let n0 := flitCount j.pkt
  let excess := match left with
    | some k => if j.paired ∨ j.pkt.lane = 6 then n0 - min n0 k else 0
    | none => 0
  let s := if excess > 0 then s.bumpBy (0x4300 + n) 0x51 excess else s
  if j.paired then
    let pr := x.pair j.target j.cls
    let h := j.pkt.hdr
    let h := if h.retx then h else { h with pseq := pr.next, wsync := pr.wsync }
    let p := { j.pkt with hdr := h }
    let p := { p with hdr := { h with crc := packetCrc p } }
    let j' := { j with pkt := p }
    let pr := if h.retx then pr else { pr with next := (pr.next + 1) % 65536, wsync := false, unacked := pr.unacked ++ [j'] }
    let tags := match sfind x.tags h.tag with
      | some k => if opKind h.opcode = .nonPosted ∧ k.ord = j.ord then sins x.tags h.tag j' else x.tags
      | none => x.tags
    let s := s.setNi n { x with pairs := sput {} x.pairs (pairKey j.target j.cls) pr, tags := tags }
    let s := s.highWater (0x3800 + n) 0x1D (s.ni n).stored
    let (s, p) := s.injectCrc n p
    s.inject n p
  else
    let p := if j.cls = 2 ∨ j.cls = 3 then { j.pkt with hdr := { j.pkt.hdr with crc := packetCrc j.pkt } }
      -- a mask-tree packet goes by the tables in force as it is injected (R224)
      else if j.pkt.lane = 6 then { j.pkt with hdr := { j.pkt.hdr with mask := s.membersFrom n j.target } } else j.pkt
    let s := s.inject n p
    -- posted packets of classes without acknowledgement complete once they are injected (R288, R399)
    if opKind p.hdr.opcode = .posted then s.finishAll j.origins 0 else s

/-- The first job of a list that may be sent. -/
def State.firstSend (s : State) (n : Nat) : List Job → List Job → Option Job
  | _, [] => none
  | before, j :: rest => if s.maySend n before j then some j else s.firstSend n (before ++ [j]) rest

/-- The circuit packet that may start now: its first-output window is open (R253). -/
def State.circuitSend (s : State) (n : Nat) : Option Job :=
  let x := s.ni n
  x.circ.find? (fun j => x.openWin.contains j.pkt.hdr.flow && s.laneRuns 1 && ! s.cox.inStep && decide (s.portRoom n 1 ≥ flitCount j.pkt))

/-- Starts a packet of a circuit and notes its burst (R253, 0x3490). -/
def State.sendCircuit (s : State) (n : Nat) (j : Job) : State :=
  let c := j.pkt.hdr.flow
  let s := if (s.ni n).burst.contains c then s else s.bump 0x3490 (c + 1)
  let s := s.modNi n (fun x => { x with circ := x.circ.erase j, burst := if j.pkt.hdr.burstEnd then without x.burst c else addOnce x.burst c,
                                        ending := if j.pkt.hdr.burstEnd then sins x.ending c (s.clk.fab + flitCount j.pkt) else sdel x.ending c })
  s.sendJob n j

/-- PACKET_SEND (R305). -/
def State.packetSend (s : State) (n : Nat) : State :=
  match s.firstSend n [] (s.ni n).sendQ with
  | some j => (s.modNi n (fun x => x.takeSend j)).sendJob n j
  | none =>
    match s.circuitSend n with
    | some j => s.sendCircuit n j
    | none => s

def execPacketSend (n : RouterId) (s : State) : Host.Outcome State Fault Refusal := done s (s.packetSend n.val)

/-! ### SC0 and circuits -/

/-- Whether a link of a compiled path, or of a group's row or column, is in maintenance now (R247, R255). -/
def State.pathInMaint (s : State) (sc0 : Bool) (v : Nat) : Bool :=
  let src := if sc0 then flowSrc v else circSrc v
  let mc := if sc0 then flowMcast v else circMcast v
  if mc then
    let g := s.group (if sc0 then flowDst v else circDst v)
    (List.range 48).any (fun r => (rowColOuts r src (field g 47 0) (field g 63 62)).any (fun o => decide (o < 4) && s.inMaint r o
      && (if field g 63 62 = 2 then decide (yOf r = yOf src) else decide (xOf r = xOf src))))
  else
    (if sc0 then pathHops src (flowPath v) (flowHops v) else pathHops src (circPath v) (circHops v)).any (fun h => s.inMaint h.1 h.2)

/-- Cuts an SC0 packet to its flow's FLITS and poisons it (R246). -/
def truncateSc0 (p : Packet) (flits : Nat) : Packet :=
  let k := flits - 1
  let len := min p.hdr.len (64 * k)
  { p with hdr := { p.hdr with poison := true, dflits := k, short := decide (k = 0), len := len }, payload := p.payload.take (64 * k), framed := k }

/-- SC0_INJECT (R246, R247): at a flow's injection instant. -/
def State.sc0Inject (s : State) (n flow : Nat) : State :=
  let x := s.ni n
  let v := sget 0 s.fabric.act.flows flow
  match x.sc0.find? (fun j => j.pkt.hdr.flow = flow) with
  | none => s
  | some j =>
    if ¬ s.sc0Runs ∨ ¬ s.laneRuns 0 ∨ s.cox.inStep ∨ x.sc0Done.contains flow ∨ s.pathInMaint true v ∨ s.portRoom n 0 < min (flitCount j.pkt) (flowFlits v) then s
    else
      let s := s.setNi n { x with sc0 := x.sc0.erase j, sc0Done := x.sc0Done ++ [flow] }
      if flitCount j.pkt > flowFlits v then
        let j := { j with pkt := truncateSc0 j.pkt (flowFlits v) }
        ((s.bump 0x3493 1).raise 0x0401 2 n 0 flow).sendJob n j
      else s.sendJob n j

def execSc0Inject (n : RouterId) (flow : Fin 1024) (s : State) : Host.Outcome State Fault Refusal := done s (s.sc0Inject n.val flow.val)

/-- CIRCUIT_WINDOW_OPEN (R253, R255). -/
def execCircuitWindowOpen (c : Fin 64) (s : State) : Host.Outcome State Fault Refusal :=
  let v := sget 0 s.fabric.act.circuits c.val
  done s (
    if s.cox.running ∧ circDefined v ∧ ¬ s.cox.inStep ∧ ¬ s.pathInMaint false v then
      s.modNi (circSrc v) (fun x => { x with openWin := addOnce x.openWin c.val })
    else s)

/-- CIRCUIT_WINDOW_CLOSE (R254): a burst has not ended while its last packet is under way, one flit a FAB cycle. -/
def execCircuitWindowClose (c : Fin 64) (s : State) : Host.Outcome State Fault Refusal :=
  let v := sget 0 s.fabric.act.circuits c.val
  let n := circSrc v
  let x := s.ni n
  done s (
    if x.openWin.contains c.val then
      let s := s.setNi n { x with openWin := without x.openWin c.val, burst := without x.burst c.val, ending := sdel x.ending c.val }
      if x.burst.contains c.val ∨ s.clk.fab < sget 0 x.ending c.val then (s.bump 0x3491 (c.val + 1)).obSet 0x3492 1 (setBitN (s.ob 0x3492 1) c.val) else s
    else s)

end Sys2Proof.Machine
end

