-- ==== Sys2Proof/Machine/Targets.lean ====
section
/-! DEFINITION. The target side of a network interface: CRC, windows of sequence numbers, duplicates, the access table and
the handing of a request to its endpoint; and the initiator's handling of answers, timers and unreachable pairs
(R301 to R313, R335 to R340, R185). -/

namespace Sys2Proof.Machine

/-! ### The access table -/

/-- The space and offset at which a request is checked: a multicast copy as memory (R339). -/
def checkSpace (p : Packet) : Nat := if faSpace p.hdr.fa = 3 then 0 else faSpace p.hdr.fa

/-- Steps 1 and 2 of R336: the opcode on its lane, the offset in the range of the target's kind (R27; of DM the pages of R395).
False means DECODE_ERR. -/
def decodes (n : Nat) (p : Packet) : Bool :=
  let off := faOffset p.hdr.fa
  let sp := checkSpace p
  (opLanes p.hdr.opcode).contains p.lane &&
    (match endpointOf n with
     | .bm _ => decide (sp = 0 ∧ off + max 1 (span p) ≤ 0x800000)
     | .dm _ => decide (sp = 1 ∧ off + max 1 (span p) ≤ 0x200000)
     | .bridge _ => decide (sp = 0 ∨ sp = 1)
     | .mp => false
     | .none => false)

/-- What the endpoint's kind asks of a request that has passed R336: operations, sizes and alignment of R294, R299, R300, R395
and R411. False means DECODE_ERR. -/
def served (n : Nat) (p : Packet) : Bool :=
  let o := p.hdr.opcode
  let off := faOffset p.hdr.fa
  let len := span p
  let send := decide (o = 0x08 ∨ o = 0x09)
  let excl := decide (o = 0x04 ∨ o = 0x05 ∨ o = 0x06)
  match endpointOf n with
  | .bm _ => ! send && (! excl || (decide (len = 4 ∨ len = 8 ∨ len = 16) && decide (off % len = 0) && (o ≠ 0x06 || decide (p.hdr.aop < 14))))
  | .dm _ =>
    ! excl && (if send then decide (0x100000 ≤ off ∧ off + len ≤ 0x200000 ∧ off % 0x10000 + len ≤ 0x10000) && ! p.hdr.short
               else decide (len = 8 ∧ off % 8 = 0 ∧ off < 0x50000))
  | .bridge _ => ! send && ! excl
  | .mp => false
  | .none => false

/-- The lowest-numbered VALID region of a space that contains an offset (R336, R340): its number. -/
def State.regionOf (s : State) (n sp off : Nat) : Option Nat :=
  (List.range 16).find? (fun q =>
    let b := s.ob (0x4100 + n) (4 * q + 1)
    bitAt b 63 && decide (field b 62 62 = sp ∧ field b 39 0 ≤ off ∧ off ≤ field (s.ob (0x4100 + n) (4 * q + 2)) 39 0))

/-- Steps 3 to 6 of R336: the failure's status, counter of 0x4100+n and step of LAST_DENIED. -/
def State.denied (s : State) (n : Nat) (p : Packet) : Option (Nat × Nat × Nat) :=
  let off := faOffset p.hdr.fa
  let last := off + (span p - 1)
  match s.regionOf n (checkSpace p) off with
  | none => some (3, 0x41, 0)
  | some q =>
    let b := s.ob (0x4100 + n) (4 * q + 1)
    let l := s.ob (0x4100 + n) (4 * q + 2)
    let km := field b 61 46
    let o := p.hdr.opcode
    let rd := decide (o = 0x01 ∨ o = 0x04 ∨ o = 0x05 ∨ o = 0x06)
    let wr := writes o
    if last > field l 39 0 then some (3, 0x41, 0)
    else if p.hdr.pkey &&& km ≠ field l 63 48 &&& km then some (4, 0x42, 1)
    else if rd ∧ ¬ bitAt (s.ob (0x4100 + n) (4 * q + 3)) p.hdr.src then some (3, 0x43, 2)
    else if wr ∧ ¬ bitAt (s.ob (0x4100 + n) (4 * q + 4)) p.hdr.src then some (3, 0x44, 3)
    else none

/-- Answers a request with a status: its response, its ACK, or nothing (R337). -/
def State.answerStatus (s : State) (n : Nat) (p : Packet) (status : Nat) : State :=
  if opKind p.hdr.opcode = .nonPosted then (if storeable p then s else s.mark n p status).reply n p status else s.acknowledge n p status

/-- Answers a request with DECODE_ERR; a posted one that gets no ACK is dropped and counted with the bad opcodes (R336, R395; the
counter DESIGN CHOICE, log 103). -/
def State.undecoded (s : State) (n : Nat) (p : Packet) : State :=
  (if opKind p.hdr.opcode = .posted ∧ ¬ pairLane p then s.bump (0x3800 + n) 0x1A else s).answerStatus n p 2

/-- Counts, records and reports a denied request (R337, R338). -/
def State.deny (s : State) (n : Nat) (p : Packet) (status counter step : Nat) : State :=
  let off := faOffset p.hdr.fa
  let s := s.bump (0x4100 + n) counter
  let s := s.obSet (0x4100 + n) 0x45 (p.hdr.src <<< 58 ||| p.hdr.pkey <<< 42 ||| step <<< 40 ||| off)
  let s := if s.flt.held.any (fun h => h.1 = 0x0404 && h.2.1 = n) then s
    else s.raise 0x0404 2 n p.hdr.src (p.hdr.pkey <<< 32 ||| off % 2 ^ 32)
  s.answerStatus n p status

/-! ### Execution at the endpoint -/

/-- Hands a checked request to the endpoint behind NI n. -/
def State.perform (s : State) (n : Nat) (p : Packet) : State :=
  let o := p.hdr.opcode
  let off := faOffset p.hdr.fa
  match endpointOf n with
  | .bm k => s.modClu k (fun c => { c with port := c.port ++ [p] })
  | .dm e =>
    if o = 0x08 ∨ o = 0x09 then s.receiveSend e p
    else if o = 0x01 then
      (match s.fastRead e off with
       | some v => s.reply n p 0 (leBytes v 8)
       | none => s.reply n p 2)
    else
      (match s.fastWrite e off (fromLe (payloadOf p)) with
       | some s => s.answerStatus n p 0
       | none => s.undecoded n p)
  | .bridge b =>
    if faSpace p.hdr.fa = 1 then (s.bridgeFast b p).getD (s.undecoded n p)
    else s.modBr b (fun r => { r with outQ := r.outQ ++ [p] })
  | .mp => s
  | .none => s

/-- Checks a request under R336 and executes it or answers its failure. -/
def State.checkAndPerform (s : State) (n : Nat) (p : Packet) : State :=
  if ! decodes n p then s.undecoded n p
  else match s.denied n p with
    | some (st, counter, step) => s.deny n p st counter step
    | none => if served n p then s.perform n p else s.undecoded n p

/-- Keeps a place of the reply store for a request that needs one; when none is free, the request is not executed (R308). -/
def State.withReply (s : State) (n : Nat) (p : Packet) (go : State → State) : State :=
  if ! storeable p then go s
  else if (s.ni n).replies.length + (s.ni n).promised ≥ 128 then
    (s.bump (0x3800 + n) 0x1B).answer n p (answerTo n p (answerOp p.hdr.opcode) 0xA)
  else go (s.modNi n (fun x => { x with promised := x.promised + 1 }))

/-- Refuses a request as the proxy of an OFF domain does (R52, R568): DOMAIN_OFF, and a posted one dropped and counted. -/
def State.refuseOff (s : State) (n : Nat) (p : Packet) : State :=
  let posted := decide (opKind p.hdr.opcode = .posted)
  let s := if posted then s.bump (0x2210 + niDom n) 6 else s
  (if ! posted || pairLane p then s.bump (0x2210 + niDom n) 5 else s).answerStatus n p 5

/-- An accepted request: refused while the domain is fenced (R52), or done as `go` says. -/
def State.serveAs (s : State) (n : Nat) (p : Packet) (go : State → State) : State :=
  let st := s.domain (niDom n)
  if st = .fencing ∨ st = .draining then s.withReply n p (fun s => s.refuseOff n p)
  else ({ s with stw := { s.stw with busyAt := sins s.stw.busyAt (niDom n) s.clk.fab } }).withReply n p go

/-- An accepted request is checked and executed. -/
def State.serve (s : State) (n : Nat) (p : Packet) : State := s.serveAs n p (fun s => s.checkAndPerform n p)

/-! ### Sequence windows -/

/-- How R306 classifies a request. -/
inductive Arrival where
  | accepted | duplicate | discarded | outOfRange
  deriving DecidableEq, Repr

/-- Advances EXP past every received value (R306, SC3). -/
def advance : Nat → Nat → List Nat → Nat × List Nat
  | 0, e, got => (e, got)
  | f + 1, e, got => if got.contains e then advance f ((e + 1) % 65536) (without got e) else (e, got)

/-- Classifies a request's PSEQ in its window, and the window after it (R306). -/
def classify (w : RxWin) (sc3 : Bool) (pseq : Nat) : Arrival × RxWin :=
  let d := (pseq + 65536 - w.exp) % 65536
  if d = 0 then
    let (e, got) := if sc3 then advance 65 ((w.exp + 1) % 65536) w.got else ((w.exp + 1) % 65536, [])
    (.accepted, { exp := e, got := got })
  else if d < 64 then
    if sc3 then (if w.got.contains pseq then (.duplicate, w) else (.accepted, { w with got := w.got ++ [pseq] }))
    else (.discarded, w)
  else if d ≥ 32768 then (.duplicate, w)
  else (.outOfRange, w)

/-- What a duplicate does (R307, R470). A READ or LDRES that was refused gets its refusal again, and another is read again without
a check (R336); a Control READ in execution is not begun a second time, its one answer serves both (DEDUCED, log 51). -/
def State.duplicate (s : State) (n : Nat) (p : Packet) : State :=
  let s := s.bump (0x3800 + n) 0x11
  let x := s.ni n
  let sc3 := decide (p.lane = 4)
  let busy := if sc3 then x.open3.contains (p.hdr.src, p.hdr.pseq) else x.order.contains (p.hdr.src, p.hdr.pseq)
  match x.replies.find? (fun r => decide (r.src = p.hdr.src ∧ r.sc3 = sc3 ∧ r.pseq = p.hdr.pseq)) with
  | some r => s.queueAnswer n p r.pkt
  | none =>
    let isBridge : Bool := match endpointOf n with
      | .bridge _ => true
      | _ => false
    let was := x.marks.find? (fun m => decide (m.1 = p.hdr.src ∧ m.2.1 = sc3 ∧ m.2.2.1 = p.hdr.pseq))
    if opKind p.hdr.opcode = .posted then
      if busy then s else s.queueAnswer n p (answerTo n p 0x83 (was.elim 0 (·.2.2.2)))
    else if p.hdr.opcode = 0x01 ∨ p.hdr.opcode = 0x04 then
      let q := { p with hdr := { p.hdr with opcode := 0x01 } }
      match was with
      | some m => if busy then s else s.queueAnswer n p (answerTo n p 0x81 m.2.2.2)
      | none => if (isBridge || p.hdr.ctrl) && busy then s else s.serveAs n q (fun s => s.perform n q)
    else s

/-- A request of SC2 or SC3 that passed its CRC (R306, R313). -/
def State.sequenced (s : State) (n : Nat) (p : Packet) (go : State → State) : State :=
  let x := s.ni n
  let sc3 := decide (p.lane = 4)
  let key := 2 * p.hdr.src + b2n sc3
  let w := if p.hdr.wsync then some { exp := p.hdr.pseq, got := [] } else sfind x.wins key
  match w with
  | none => s.queueAnswer n p (answerTo n p 0x84 0)
  | some w =>
    let (a, w') := classify w sc3 p.hdr.pseq
    let s := s.setNi n { x with wins := sins x.wins key w' }
    match a with
    | .accepted =>
      let passed (src : Nat) (of3 : Bool) (pseq : Nat) : Bool := decide (src = p.hdr.src ∧ of3 = sc3 ∧ 64 ≤ (p.hdr.pseq + 65536 - pseq) % 65536
        ∧ (p.hdr.pseq + 65536 - pseq) % 65536 < 32768)
      go (s.modNi n (fun x => { x with
        replies := x.replies.filter (fun r => ! passed r.src r.sc3 r.pseq)
        marks := x.marks.filter (fun m => ! passed m.1 m.2.1 m.2.2.1 && decide (m.1 ≠ p.hdr.src ∨ m.2.1 ≠ sc3 ∨ m.2.2.1 ≠ p.hdr.pseq))
        order := if sc3 then x.order else x.order ++ [(p.hdr.src, p.hdr.pseq)]
        open3 := if sc3 then x.open3 ++ [(p.hdr.src, p.hdr.pseq)] else x.open3 }))
    | .duplicate => s.duplicate n p
    | .discarded => s.bump (0x3800 + n) 0x12
    | .outOfRange => (s.bump (0x3800 + n) 0x12).raise 0x0402 2 n p.hdr.src ((if sc3 then 3 else 2) <<< 16 ||| p.hdr.pseq)

/-- What every packet at its target NI is put to before it is looked into: CRC and poison, then `go` (R301, R303, R646). -/
def State.screened (s : State) (n : Nat) (p : Packet) (go : State → State) : State :=
  if pairClass p ∧ p.hdr.crc ≠ packetCrc p then s.bump (0x3800 + n) 0x10
  else if p.hdr.poison ∨ malformed p then
    let s := s.bump (0x3800 + n) 0x16
    if ¬ pairClass p ∧ opKind p.hdr.opcode = .nonPosted then s.answer n p (answerTo n p (answerOp p.hdr.opcode) 7) else s
  else go s

/-- A request at its target NI: CRC, poison, sequence, then `go` (R301, R303, R306, R646). -/
def State.request (s : State) (n : Nat) (p : Packet) (go : State → State) : State :=
  s.screened n p (fun s => if pairLane p then s.sequenced n p go else go s)

/-- Takes the packet at the front of what NI n has received when a test selects it. -/
def State.takeRx (s : State) (n : Nat) (sel : Packet → Bool) (f : State → Packet → State) : State :=
  match (s.ni n).rx with
  | [] => s
  | p :: rest => if sel p then f (s.modNi n (fun x => { x with rx := rest })) p else s

/-- A request of an opcode on a lane that allows it arrives. -/
def State.arriveOp (s : State) (n op : Nat) : State :=
  s.takeRx n (fun p => decide (p.hdr.opcode = op) && (opLanes op).contains p.lane) (fun s p => s.request n p (fun s => s.serve n p))

def execRead (n : RouterId) (s : State) : Host.Outcome State Fault Refusal := done s (s.arriveOp n.val 0x01)
def execWrite (n : RouterId) (s : State) : Host.Outcome State Fault Refusal := done s (s.arriveOp n.val 0x02)
def execWriteNp (n : RouterId) (s : State) : Host.Outcome State Fault Refusal := done s (s.arriveOp n.val 0x03)
def execSend (n : RouterId) (s : State) : Host.Outcome State Fault Refusal := done s (s.arriveOp n.val 0x08)
def execSendNp (n : RouterId) (s : State) : Host.Outcome State Fault Refusal := done s (s.arriveOp n.val 0x09)

/-- BAD_OPCODE (R275): an unlisted opcode is discarded; one on a lane it is not allowed on is answered with DECODE_ERR
when it is non-posted, and else discarded. A packet that fails its CRC or is poisoned counts as such (R301, R303). -/
def execBadOpcode (n : RouterId) (s : State) : Host.Outcome State Fault Refusal :=
  let n := n.val
  done s (s.takeRx n (fun p => ! (opLanes p.hdr.opcode).contains p.lane) (fun s p =>
    if opKind p.hdr.opcode = .nonPosted then
      s.request n p (fun s => s.answer n p (answerTo n p (answerOp p.hdr.opcode) 2))
    else s.screened n p (fun s => s.bump (0x3800 + n) 0x1A)))

/-! ### Management packets at MP -/

/-- Host path of a source NI of MGMT packets. -/
def hostPath (src : Nat) : Option Path := if src = niOfBridge 0 then some .hb0 else if src = niOfBridge 1 then some .hb1 else none

/-- Records a refused host write and counts it (R92). -/
def State.hostRefusal (s : State) (p : Path) (code : Nat) : State :=
  match p with
  | .can => s
  | .hb0 => (s.obSet 0x2012 1 code).bump 0x2012 3
  | .hb1 => (s.obSet 0x2012 2 code).bump 0x2012 4

/-- A host's request that finds the queue full is answered RETRY_LATER (R98). -/
def State.refuseHost (s : State) (h : Path) (p : Packet) : State :=
  let s := s.bump 0x2011 3
  (if p.hdr.opcode = 0x0B then s.hostRefusal h 0x08000020 else s).queueAnswer 43 p (answerTo 43 p 0x8A 0xA)

/-- Of the requests that come in one MGT cycle, the queue takes those of CAN first, then HB0's (R98): in a full queue a request
finds room where the last of its own cycle ranks behind it, which is refused in its place (DEDUCED, log 113). -/
def State.makeRoom (s : State) (r : DictReq) : State :=
  match s.dict.queue.getLast? with
  | some (.host h p) =>
    if 16 ≤ s.dict.queue.length ∧ 0 < s.freshCount ∧ r.rank < (DictReq.host h p).rank then
      ({ s with dict := { s.dict with queue := s.dict.queue.dropLast, fresh := s.freshCount - 1 } }).refuseHost h p
    else s
  | _ => s

/-- A dictionary access of a host bridge reaches MP (R98, R212, R447): it enters the request queue, or is answered with
RETRY_LATER. -/
def State.mgmtArrive (s : State) (op : Nat) : State :=
  s.takeRx 43 (fun p => decide (p.hdr.opcode = op ∧ p.lane = 7)) (fun s p =>
    let ans (s : State) (st : Nat) : State := s.queueAnswer 43 p (answerTo 43 p 0x8A st)
    if p.hdr.poison ∨ malformed p then ans (s.bump 0x382B 0x16) 7
    else match hostPath p.hdr.src with
      | none => ans s 2
      | some h =>
        let s := s.makeRoom (.host h p)
        if s.dict.queue.length ≥ 16 then s.refuseHost h p else s.queueRequest (.host h p))

def execMgmtRead (s : State) : Host.Outcome State Fault Refusal := done s (s.mgmtArrive 0x0A)
def execMgmtWrite (s : State) : Host.Outcome State Fault Refusal := done s (s.mgmtArrive 0x0B)

/-- FAULT_MSG reaches MP (R529, R545). -/
def execFaultMsg (s : State) : Host.Outcome State Fault Refusal :=
  done s (s.takeRx 43 (fun p => decide (p.hdr.opcode = 0x0C ∧ p.lane = 7)) (fun s p =>
    if p.hdr.poison ∨ malformed p then s.bump 0x382B 0x16 else (s.matrixAsk 3 4 true 0 16).toCollector (unpackFault (leAt p.hdr.inl 0 8) (leAt p.hdr.inl 8 8))))

/-! ### Answers at the initiator -/

/-- Drops the resends of a request that has been answered. -/
def NI.dropResends (x : NI) (target cls pseq : Nat) : NI :=
  let keep (j : Job) : Bool := ! (j.pkt.hdr.retx && decide (j.target = target ∧ j.cls = cls ∧ j.pkt.hdr.pseq = pseq))
  { x with gate := x.gate.filter keep, sendQ := x.sendQ.filter keep }

/-- Frees a request's entry of the retransmit store (R305). -/
def NI.freeStore (x : NI) (target cls pseq : Nat) : NI :=
  let k := pairKey target cls
  let pr := sget {} x.pairs k
  ({ x with pairs := sput {} x.pairs k { pr with unacked := pr.unacked.filter (fun j => decide (j.pkt.hdr.pseq ≠ pseq)) } }).dropResends target cls pseq

/-- Completes the request of a TAG, or counts a stale response (R276, R302). -/
def State.respond (s : State) (n : Nat) (p : Packet) (status : Nat) (data : Bytes) : State :=
  let x := s.ni n
  match sfind x.tags p.hdr.tag with
  | some j =>
    if j.pkt.hdr.gen ≠ p.hdr.gen then s.bump (0x3800 + n) 0x19
    else
      let x := x.freeTag p.hdr.tag false
      let x := if j.paired then x.freeStore j.target j.cls j.pkt.hdr.pseq else x
      ((s.setNi n x).finishAll j.origins status data).releaseHeld n
  | none => s.bump (0x3800 + n) 0x19

/-- A response passes its CRC and poison checks, then `go` (R301 to R303). -/
def State.response (s : State) (n op : Nat) (go : State → Packet → Bool → State) : State :=
  s.takeRx n (fun p => decide (p.hdr.opcode = op) && (opLanes op).contains p.lane) (fun s p =>
    if (p.lane = 3 ∨ p.lane = 5) ∧ p.hdr.crc ≠ packetCrc p then s.bump (0x3800 + n) 0x10
    else if p.hdr.poison ∨ malformed p then
      let s := s.bump (0x3800 + n) 0x16
      if op = 0x81 then go s p true else s
    else go s p false)

def execReadResp (n : RouterId) (s : State) : Host.Outcome State Fault Refusal :=
  done s (s.response n.val 0x81 (fun s p bad =>
    if bad then s.respond n.val p 7 [] else s.respond n.val p p.hdr.status (if p.hdr.status = 0 then payloadOf p else [])))

def execStatusResp (n : RouterId) (s : State) : Host.Outcome State Fault Refusal :=
  done s (s.response n.val 0x82 (fun s p _ => s.respond n.val p p.hdr.status (payloadOf p)))

/-- ACK or delivery receipt (R305). One that carries the status of a failed check is counted (R337). -/
def execAck (n : RouterId) (s : State) : Host.Outcome State Fault Refusal :=
  let n := n.val
  done s (s.response n 0x83 (fun s p _ =>
    let cls := if p.lane = 3 then 2 else 3
    match ((s.ni n).pair p.hdr.src cls).unacked.find? (fun j => decide (j.pkt.hdr.pseq = p.hdr.pseq) && opKind j.pkt.hdr.opcode = .posted) with
    | none => s
    | some j =>
      let s := s.modNi n (fun x => x.freeStore p.hdr.src cls p.hdr.pseq)
      let s := if p.hdr.status = 2 ∨ p.hdr.status = 3 ∨ p.hdr.status = 4 then s.bump (0x4000 + n) 0x85 else s
      (s.finishAll j.origins p.hdr.status).releaseHeld n))

/-- Sends stored requests again, through GATE (R309, R313, R322). -/
def State.resend (s : State) (n : Nat) (jobs : List Job) (wsync : Bool) : State :=
  ((List.range jobs.length).zip jobs).foldl (fun s j =>
    let h := { j.2.pkt.hdr with retx := true, wsync := j.2.pkt.hdr.wsync || (wsync && decide (j.1 = 0)) }
    let s := s.modNi n (fun x => x.dropResends j.2.target j.2.cls h.pseq)
    s.atGate n { j.2 with pkt := { j.2.pkt with hdr := h } }) s

/-- RESYNC_REQ (R313). -/
def execResyncReq (n : RouterId) (s : State) : Host.Outcome State Fault Refusal :=
  let n := n.val
  done s (s.response n 0x84 (fun s p _ =>
    let cls := if p.lane = 3 then 2 else 3
    (s.bump (0x3800 + n) 0x1C).resend n ((s.ni n).pair p.hdr.src cls).unacked true))

/-- MGMT_RESP at a host bridge (R447). -/
def execMgmtResp (hb : Fin 2) (s : State) : Host.Outcome State Fault Refusal :=
  let n := niOfBridge hb.val
  done s (s.response n 0x8A (fun s p _ => s.respond n p p.hdr.status (payloadOf p)))

/-! ### Timers -/

/-- Gives up every unacknowledged request of a pair and class: non-posted ones complete, posted ones are counted; the next
request carries WSYNC (R310, R312). -/
def State.abandonPair (s : State) (n target cls status : Nat) : State :=
  let jobs := ((s.ni n).pair target cls).unacked
  let s := s.modNi n (fun x =>
    let k := pairKey target cls
    { x with pairs := sput {} x.pairs k { sget {} x.pairs k with unacked := [], wsync := true } })
  let s := jobs.foldl (fun s j =>
    let s := s.modNi n (fun x => x.dropResends target cls j.pkt.hdr.pseq)
    (if opKind j.pkt.hdr.opcode = .posted then s.bump (0x3800 + n) 0x15 else s).fail n j status) s
  s.releaseHeld n

/-- RESEND_TIMER_EXPIRY (R309, R310). -/
def State.resendTimer (s : State) (n target cls pseq : Nat) : State :=
  let pr := (s.ni n).pair target cls
  match pr.unacked.find? (fun j => decide (j.pkt.hdr.pseq = pseq)) with
  | none => s
  | some j =>
    if j.resent ≥ s.ob (0x3800 + n) 2 then
      ((s.bump (0x3800 + n) 0x14).abandonPair n target cls 8).raise 0x0403 2 n target cls
    else
      let sel (k : Job) : Bool := decide (cls = 2 ∨ k.pkt.hdr.pseq = pseq)
      let jobs := pr.unacked.filter sel
      let un := pr.unacked.map (fun k => if sel k then { k with resent := k.resent + 1 } else k)
      let s := s.modNi n (fun x => { x with pairs := sput {} x.pairs (pairKey target cls) { pr with unacked := un } })
      (s.bumpBy (0x3800 + n) 0x13 jobs.length).resend n jobs false

def execResendTimerExpiry (n : RouterId) (target : Nat) (sc3 : Bool) (pseq : Nat) (s : State) : Host.Outcome State Fault Refusal :=
  done s (s.resendTimer n.val target (if sc3 then 3 else 2) pseq)

/-- REPLY_STORE_EXPIRY (R308): entry i of those kept, oldest first. -/
def execReplyStoreExpiry (n : RouterId) (i : Fin 128) (s : State) : Host.Outcome State Fault Refusal :=
  done s (s.modNi n.val (fun x => { x with replies := x.replies.eraseIdx i.val }))

/-! ### Unreachable pairs -/

/-- A link that cuts pairs off (R185): it has gone DOWN and is not UP again. -/
def State.deadLink (s : State) (r o : Nat) : Bool :=
  match s.linkState r o with
  | .up => false | .retrain => false
  | .absent => true | .off => true | .init => true | .down => true

/-- Whether an XY path crosses no dead link. -/
def State.xyAlive (s : State) : Nat → Nat → Nat → Bool
  | 0, _, _ => true
  | f + 1, r, d =>
    let o := xyOut r d
    if o = 4 then true else ! s.deadLink r o && s.xyAlive f (neighbour r o) d

/-- Whether class c has a path from NI n to NI d (R185). For SC0 and SC1: some flow or circuit of the pair, one to a group that
holds d among them, crosses no dead link; a pair without any has no class to lose. -/
def State.pairAlive (s : State) (n d c : Nat) : Bool :=
  if c = 2 then s.xyAlive 13 n d
  else if c = 3 then s.reaches (fun r o => ! s.deadLink r o) 13 n d true
  else
    let aims (mc : Bool) (dst : Nat) : Bool := if mc then bitAt (s.membersFrom n dst) d else decide (dst = d)
    let mine := if c = 0 then s.fabric.act.flows.filter (fun f => decide (flowType f.2 ≠ 0 ∧ flowSrc f.2 = n) && aims (flowMcast f.2) (flowDst f.2))
      else s.fabric.act.circuits.filter (fun f => circDefined f.2 && decide (circSrc f.2 = n) && aims (circMcast f.2) (circDst f.2))
    mine.isEmpty || mine.any (fun f =>
      if (if c = 0 then flowMcast f.2 else circMcast f.2) then s.xyAlive 13 n d
      else (if c = 0 then pathHops n (flowPath f.2) (flowHops f.2) else pathHops n (circPath f.2) (circHops f.2)).all (fun h => ! s.deadLink h.1 h.2))

/-- Marks one NI's pairs; what is outstanding to a pair newly unreachable, in the write buffer too, completes with LINK_LOST or is
counted as dropped (R185, R312). -/
def State.markNi (s : State) (n : Nat) : State :=
  let old := (s.ni n).unreach
  let now := (List.range 48).flatMap (fun d => if validNi d then ((List.range 4).filter (fun c => ! s.pairAlive n d c)).map (4 * d + ·) else [])
  let s := s.modNi n (fun x => { x with unreach := now })
  let s := (now.filter (fun k => ! old.contains k && decide (2 ≤ k % 4))).foldl (fun s k => s.abandonPair n (k / 4) (k % 4) 6) s
  let x := s.ni n
  let hit (j : Job) : Bool := s.cutOff n j && decide (opKind j.pkt.hdr.opcode ≠ .response)
  let lost (w : WbEntry) : Bool := now.contains (4 * faTarget w.fa + w.cls)
  let queued := (x.held ++ x.shape ++ x.gate ++ x.sendQ ++ x.sc0 ++ x.circ).filter hit
  let flying := (x.tags.map (·.2)).filter (fun j => hit j && ! queued.any (fun q => q.ord = j.ord))
  let keep (l : List Job) : List Job := l.filter (fun j => ! hit j)
  let s := s.setNi n { x with held := keep x.held, shape := keep x.shape, gate := keep x.gate, sendQ := keep x.sendQ, sc0 := keep x.sc0,
                              circ := keep x.circ, wb := x.wb.filter (fun w => ! lost w) }
  let s := (x.wb.filter lost).foldl (fun s w => (s.bump (0x3800 + n) 0x15).finishAll (w.origins.map (·.2)) 6) s
  let s := (queued ++ flying).foldl (fun s j =>
    (if opKind j.pkt.hdr.opcode = .posted then s.bump (0x3800 + n) 0x15 else s).fail n j 6) s
  s.releaseHeld n

/-- UNREACHABLE_MARK (R185). -/
def execUnreachableMark (s : State) : Host.Outcome State Fault Refusal :=
  done s (((List.range 48).filter validNi).foldl (fun s n => s.markNi n) s)

end Sys2Proof.Machine
end

