-- ==== Sys2Proof/Machine/Clusters.lean ====
section
/-! DEFINITION. Buffer-memory clusters: the port, the banks with their ECC, reservation trackers, far atomics, the patrol
scrubber and the buffer pools (chapter 09, R294 to R300). -/

namespace Sys2Proof.Machine

/-! ### Memory and its check bits -/

/-- Bytes of a cluster's memory. -/
def Cluster.bytes (c : Cluster) (off len : Nat) : Bytes := (List.range len).map (fun j => sget (0 : Byte) c.mem (off + j))

/-- The canonical form of a memory: addresses rise strictly, and no entry holds what an unlisted address reads as. -/
def Memory.wf (unlisted : Byte) (m : List Host.Cell) : Bool := swf unlisted m

/-- Stores bytes. -/
def Cluster.store (c : Cluster) (off : Nat) (bs : Bytes) : Cluster :=
  { c with mem := ((List.range bs.length).zip bs).foldl (fun m x => sput (0 : Byte) m (off + x.1) x.2) c.mem }

/-- The 8-byte words that a run of bytes touches (R361). -/
def wordsOf (off len : Nat) : List Nat :=
  if len = 0 then [] else (List.range ((off + len - 1) / 8 - off / 8 + 1)).map (off / 8 + ·)

/-- Whether a run covers all 8 bytes of a word. -/
def coversWord (off len w : Nat) : Bool := decide (off ≤ 8 * w ∧ 8 * w + 8 ≤ off + len)

/-- Line accesses of a request: the part in each line it touches (R358). -/
def lineParts (off len : Nat) : List (Nat × Nat) :=
  if len = 0 then []
  else (List.range ((off + len - 1) / 64 - off / 64 + 1)).map (fun j =>
    let a := max off (64 * (off / 64 + j))
    (a, min (off + len) (64 * (off / 64 + j) + 64) - a))

/-- Bank of an offset (R357). -/
def bankOf (off : Nat) : Nat := off / 64 % 4

/-- Adds an entry to the error log (R366). -/
def State.eccLog (s : State) (k kind src off : Nat) : State :=
  (s.modClu k (fun c => { c with log := ({ place := kind <<< 62 ||| src <<< 56 ||| off, time := s.stamp } :: c.log).take 16 })).bump (0x4800 + k) 0x14

/-- A read of words met their errors: corrects the single-bit ones (R362) and reports the bad ones (R365). -/
def State.checkWords (s : State) (k src : Nat) (scrub : Bool) (ws : List Nat) : State :=
  ws.foldl (fun s w =>
    match sget 0 (s.clu k).ecc w with
    | 0 => s
    | 1 =>
      let s := s.modClu k (fun c => { c with ecc := sdel c.ecc w })
      ((s.bump (0x4800 + k) (if scrub then 0x12 else 0x10)).eccLog k 1 src (8 * w)).raise 0x0601 1 (niOfBm k) 0 (8 * w)
    | _ => ((s.bump (0x4800 + k) 0x11).eccLog k 2 src (8 * w)).raise 0x0602 2 (niOfBm k) 0 (8 * w)) s

/-- Whether some of the words is bad. -/
def Cluster.badWord (c : Cluster) (ws : List Nat) : Bool := ws.any (fun w => decide (2 ≤ sget 0 c.ecc w))

/-- A write that covers words whole gives them fresh check bits; a bad one heals (R363). -/
def State.healWords (s : State) (k : Nat) (ws : List Nat) : State :=
  let s := s.bumpBy (0x4800 + k) 0x13 (ws.filter (fun w => decide (2 ≤ sget 0 (s.clu k).ecc w))).length
  s.modClu k (fun c => { c with ecc := ws.foldl sdel c.ecc })

/-! ### Reservations -/

/-- The reservation block of an offset (R371). -/
def State.blockOf (s : State) (k off : Nat) : Nat := off >>> s.ob (0x4800 + k) 1

/-- Whether an STCOND failed in the block without a clearing event since the last success there (R298). -/
def State.failedOnce (s : State) (k b : Nat) : Bool := (s.clu k).spurious.any (fun o => s.blockOf k o = b)

/-- A write to a block by a source clears every other source's reservation on it (R295). -/
def State.breakBlock (s : State) (k src off : Nat) : State :=
  let b := s.blockOf k off
  s.modClu k (fun c => { c with trackers := c.trackers.filter (fun t => decide (t.src = src ∨ t.block ≠ b)) })

/-- LDRES sets a reservation (R372). -/
def State.setTracker (s : State) (k src off : Nat) : State :=
  let c := s.clu k
  let b := s.blockOf k off
  let t : Tracker := { src := src, block := b, set := b % 4 }
  match c.trackers.find? (fun x => x.src = src) with
  | some old => s.setClu k { c with trackers := c.trackers.filter (fun x => x.src ≠ src) ++ [{ t with set := old.set }] }
  | none =>
    let mine := c.trackers.filter (fun x => x.set = b % 4)
    if mine.length < 16 then s.setClu k { c with trackers := c.trackers ++ [t] }
    else
      match mine.find? (fun x => ! x.prot) with
      | some v => (s.setClu k { c with trackers := c.trackers.erase v ++ [t] }).bump (0x4800 + k) 0x24
      | none => s.bump (0x4800 + k) 0x23

/-! ### Atomics -/

/-- Operand and access size of an atomic operation (R299). -/
def aopSize (a : Nat) : Nat := if a = 5 then 16 else if a = 4 then 8 else if a % 2 = 0 then 4 else 8

/-- The new value of an atomic on `old` with operands A and B, n bytes wide (R299). -/
def aopResult (a n old x y : Nat) : Nat :=
  let m := 2 ^ (8 * n)
  let lt := decide (ofTwos (8 * n) old < ofTwos (8 * n) x)
  if a < 2 then (old + x) % m
  else if a < 4 then x % m
  else if a < 6 then (if old = x % m then y % m else old)
  else if a < 8 then (if lt then old else x % m)
  else if a < 10 then (if lt then x % m else old)
  else if a < 12 then min old (x % m)
  else max old (x % m)

/-! ### Bank accesses -/

/-- A line access of a request is done: its bytes and status join the answer, which leaves with the last (R364). -/
def State.lineDone (s : State) (k id off status : Nat) (data : Bytes) : State :=
  match sfind (s.clu k).jobs id with
  | none => s
  | some j =>
    let j := { j with left := j.left - 1, got := sins j.got off data, status := max j.status status }
    if j.left > 0 then s.modClu k (fun c => { c with jobs := sins c.jobs id j })
    else
      let s := s.modClu k (fun c => { c with jobs := sdel c.jobs id })
      let n := niOfBm k
      if opKind j.pkt.hdr.opcode = .nonPosted then
        s.reply n j.pkt j.status (if j.status = 0 then (j.got.map (·.2)).flatten else [])
      else s.acknowledge n j.pkt j.status

/-- A bank reads a line or part of one (R361 to R364). -/
def State.lineRead (s : State) (k src : Nat) (a : LineAcc) : State :=
  let ws := wordsOf a.off a.len
  let bad := (s.clu k).badWord ws
  (s.checkWords k src false ws).lineDone k a.id a.off (if bad then 0xB else 0) (if bad then [] else (s.clu k).bytes a.off a.len)

/-- A bank writes a line or part of one; a word covered in part is read first (R361, R363, R364). -/
def State.lineWrite (s : State) (k src : Nat) (a : LineAcc) : State :=
  let ws := wordsOf a.off a.len
  let part := ws.filter (fun w => ! coversWord a.off a.len w)
  let bad := (s.clu k).badWord part
  let s := s.checkWords k src false part
  if bad then s.lineDone k a.id a.off 0xB []
  else
    let s := s.healWords k (ws.filter (coversWord a.off a.len))
    let s := s.modClu k (fun c => c.store a.off a.data)
    (s.breakBlock k src a.off).lineDone k a.id a.off 0 []

/-- LDRES in its bank (R294, R297, R364). -/
def State.lineLdres (s : State) (k src : Nat) (a : LineAcc) : State :=
  let ws := wordsOf a.off a.len
  let bad := (s.clu k).badWord ws
  let s := (s.bump (0x4800 + k) 0x20).checkWords k src false ws
  if bad then s.lineDone k a.id a.off 0xB []
  else (s.setTracker k src a.off).lineDone k a.id a.off 0 ((s.clu k).bytes a.off a.len)

/-- STCOND in its bank (R295, R296, R364). It may fail without a clearing event: a free bit says so, but never while another
source holds the block, and never twice in a block without a success between, so that R298 holds. -/
def State.lineStcond (s : State) (k src : Nat) (a : LineAcc) : State :=
  let ws := wordsOf a.off a.len
  let bad := (s.clu k).badWord ws
  let b := s.blockOf k a.off
  let c := s.clu k
  let mine := c.trackers.any (fun t => decide (t.src = src ∧ t.block = b))
  let others := c.trackers.any (fun t => decide (t.src ≠ src ∧ t.block = b))
  let s := s.checkWords k src false ws
  let s := s.modClu k (fun c => { c with trackers := c.trackers.filter (fun t => t.src ≠ src) })
  if bad then s.lineDone k a.id a.off 0xB []
  else if ! mine then (s.bump (0x4800 + k) 0x22).lineDone k a.id a.off 1 []
  else
    let mayFail : Bool := ! others && ! s.failedOnce k b
    let (bit, s) := s.drawBit
    if mayFail && bit then
      ((s.modClu k (fun c => { c with spurious := addOnce c.spurious a.off })).bump (0x4800 + k) 0x22).lineDone k a.id a.off 1 []
    else
      let s := s.modClu k (fun c => { (c.store a.off a.data) with spurious := c.spurious.filter (fun o => s.blockOf k o ≠ b) })
      ((s.breakBlock k src a.off).bump (0x4800 + k) 0x21).lineDone k a.id a.off 0 []

/-- ATOMIC in its bank (R299, R300, R374): the answer carries the old value in 16 bytes. -/
def State.lineAtomic (s : State) (k src : Nat) (p : Packet) (a : LineAcc) : State :=
  let ws := wordsOf a.off a.len
  let bad := (s.clu k).badWord ws
  let s := s.checkWords k src false ws
  if bad then s.lineDone k a.id a.off 0xB []
  else
    let old := (s.clu k).bytes a.off a.len
    let new := aopResult p.hdr.aop a.len (fromLe old) (leAt p.hdr.inl 0 16) (leAt p.hdr.inl 16 16)
    let s := s.modClu k (fun c => c.store a.off (leBytes new a.len))
    ((s.breakBlock k src a.off).bump (0x4800 + k) 0x28).lineDone k a.id a.off 0 (padTo 16 old)

/-- The scrub of a line: read, corrected and written back in one (R362, R367, R369). A line that fell due meanwhile is taken
now (R368). -/
def State.lineScrub (s : State) (k : Nat) (a : LineAcc) : State :=
  let s := s.checkWords k 63 true (wordsOf a.off a.len)
  let s := s.modClu k (fun c => { c with scrubBusy := false, scrubWaiting := c.scrubNext && decide (s.ob (0x4800 + k) 2 ≠ 0), scrubNext := false })
  let pos := s.ob (0x4800 + k) 4
  let s := s.obSet (0x4800 + k) 4 ((pos + 1) % 131072)
  if pos + 1 = 131072 then s.bump (0x4800 + k) 5 else s

/-- Executes one line access in its bank. -/
def State.lineAccess (s : State) (k : Nat) (a : LineAcc) : State :=
  if a.op = .scrub then s.lineScrub k a
  else match sfind (s.clu k).jobs a.id with
    | none => s
    | some j =>
      let src := j.pkt.hdr.src
      match a.op with
      | .read => s.lineRead k src a
      | .write => s.lineWrite k src a
      | .ldres => s.lineLdres k src a
      | .stcond => s.lineStcond k src a
      | .atomic => s.lineAtomic k src j.pkt a
      | .scrub => s

/-- Takes the front of a bank's queue when a test selects its operation (R359, R360). -/
def State.bankFront (s : State) (k b : Nat) (sel : LineOp → Bool) : State :=
  match sget [] (s.clu k).banks b with
  | [] => s
  | a :: rest => if sel a.op then (s.modClu k (fun c => { c with banks := sput [] c.banks b rest })).lineAccess k a else s

/-- BANK_ACCESS (R359, R361). -/
def execBankAccess (k : ClusterId) (bank : Fin 4) (s : State) : Host.Outcome State Fault Refusal :=
  done s (s.bankFront k.val bank.val (fun _ => true))

/-- LDRES, STCOND and ATOMIC at their target NI, or at the head of a bank's queue. -/
def execLdres (ph : TgtPhase) (s : State) : Host.Outcome State Fault Refusal :=
  done s (match ph with
    | .arrive n => s.arriveOp n.val 0x04
    | .execute k b => s.bankFront k.val b.val (fun o => o = .ldres))
def execStcond (ph : TgtPhase) (s : State) : Host.Outcome State Fault Refusal :=
  done s (match ph with
    | .arrive n => s.arriveOp n.val 0x05
    | .execute k b => s.bankFront k.val b.val (fun o => o = .stcond))
def execAtomic (ph : TgtPhase) (s : State) : Host.Outcome State Fault Refusal :=
  done s (match ph with
    | .arrive n => s.arriveOp n.val 0x06
    | .execute k b => s.bankFront k.val b.val (fun o => o = .atomic))

/-- TRACKER_PROTECTION_EXPIRY (R297). -/
def execTrackerProtectionExpiry (k : ClusterId) (src : RouterId) (s : State) : Host.Outcome State Fault Refusal :=
  done s (s.modClu k.val (fun c => { c with trackers := c.trackers.map (fun t => if t.src = src.val then { t with prot := false } else t) }))

/-! ### The pools -/

/-- Size and configuration of pool p (R375). -/
def poolSize (cfg : Nat) : Nat := lget 256 [256, 512, 2048, 9216] (field cfg 62 61)
def poolCount (cfg : Nat) : Nat := field cfg 55 40
def poolBase (cfg : Nat) : Nat := field cfg 22 0
def poolEnabled (cfg : Nat) : Bool := bitAt cfg 63
def State.poolCfg (s : State) (k p : Nat) : Nat := s.ob (0x4800 + k) (0x30 + p)

/-- Free buffers of a pool. -/
def Cluster.freeList (c : Cluster) (p : Nat) : List Nat := sget [] c.free p

/-- Setting ENABLE puts every buffer into the list (R376). -/
def State.poolFill (s : State) (k p : Nat) : State :=
  let n := poolCount (s.poolCfg k p)
  (s.modClu k (fun c => { c with free := sput [] c.free p (List.range n) })).obSet (0x4800 + k) (0x48 + p) n

/-- Writing ENABLE 0 empties the list at once (R381). -/
def State.poolEmpty (s : State) (k p : Nat) : State := s.modClu k (fun c => { c with free := sput [] c.free p [] })

/-- What an access to the pool control block asks for (R377). -/
inductive PoolOp where
  | pop (p : Nat) | push (p : Nat) | count (p : Nat) | bad
  deriving DecidableEq, Repr

/-- Whether an access touches the pool control block. -/
def State.inPoolBlock (s : State) (k off len : Nat) : Bool :=
  let b := s.ob (0x4800 + k) 8
  decide (b ≠ 0xFFFFFFFF ∧ off < b + 512 ∧ b < off + max 1 len)

/-- The operation that an access to the control block asks for (R377). -/
def State.poolOp (s : State) (k : Nat) (q : Packet) : PoolOp :=
  let off := faOffset q.hdr.fa
  let b := s.ob (0x4800 + k) 8
  let p := (off - b) / 64
  let lo := (off - b) % 64
  let len := span q
  let o := q.hdr.opcode
  if off < b ∨ len ≠ 8 ∨ ¬ poolEnabled (s.poolCfg k p) then .bad
  else if o = 0x01 ∧ lo = 0 ∧ q.hdr.ctrl ∧ q.lane = 2 then .pop p
  else if (o = 0x02 ∨ o = 0x03) ∧ lo = 8 then .push p
  else if o = 0x01 ∧ lo = 0x10 then .count p
  else .bad

/-- Any other access to the block: DECODE_ERR, or dropped and counted when posted (R377). -/
def State.poolRefuse (s : State) (k : Nat) (q : Packet) : State := s.undecoded (niOfBm k) q

/-- A pop (R378, R386); the word of the control line is checked like any other (R364). -/
def State.pop (s : State) (k p : Nat) (q : Packet) : State :=
  let n := niOfBm k
  let w := faOffset q.hdr.fa / 8
  let bad := (s.clu k).badWord [w]
  let s := s.checkWords k q.hdr.src false [w]
  if bad then s.reply n q 0xB
  else
    match (s.clu k).freeList p with
    | [] => (s.bump (0x4800 + k) (0x40 + p)).reply n q 9
    | i :: rest =>
      let cfg := s.poolCfg k p
      let s := s.modClu k (fun c => { c with free := sput [] c.free p rest })
      let s := s.obSet (0x4800 + k) (0x48 + p) (min (s.ob (0x4800 + k) (0x48 + p)) rest.length)
      s.reply n q 0 (leBytes (poolBase cfg + i * poolSize cfg) 4 ++ [0, 0, 0, 0])

/-- A push (R379). -/
def State.push (s : State) (k p : Nat) (q : Packet) : State :=
  let n := niOfBm k
  let data := payloadOf q
  let off := leAt data 0 4
  let cfg := s.poolCfg k p
  let i := (off - poolBase cfg) / poolSize cfg
  let good := decide (leAt data 4 4 = 0 ∧ poolBase cfg ≤ off ∧ (off - poolBase cfg) % poolSize cfg = 0 ∧ i < poolCount cfg)
    && ! ((s.clu k).freeList p).contains i
  if good then (s.modClu k (fun c => { c with free := smod [] c.free p (· ++ [i]) })).answerStatus n q 0
  else ((s.bump (0x4800 + k) (0x50 + p)).raise 0x0603 2 n p off).answerStatus n q 2

/-- The pool arbiter performs the front access of its queue when a test selects it (R380, R387). -/
def State.poolFront (s : State) (k : Nat) (sel : PoolOp → Bool) : State :=
  match (s.clu k).poolQ with
  | [] => s
  | q :: rest =>
    let op := s.poolOp k q
    if op = .bad then (s.modClu k (fun c => { c with poolQ := rest })).poolRefuse k q
    else if sel op then
      let s := s.modClu k (fun c => { c with poolQ := rest })
      match op with
      | .pop p => s.pop k p q
      | .push p => s.push k p q
      | .count p => s.reply (niOfBm k) q 0 (leBytes ((s.clu k).freeList p).length 8)
      | .bad => s
    else s

def execPoolPop (k : ClusterId) (s : State) : Host.Outcome State Fault Refusal :=
  done s (s.poolFront k.val (fun o => match o with
    | .pop _ => true
    | _ => false))
def execPoolPush (k : ClusterId) (s : State) : Host.Outcome State Fault Refusal :=
  done s (s.poolFront k.val (fun o => match o with
    | .push _ => true
    | _ => false))
def execPoolCountRead (k : ClusterId) (s : State) : Host.Outcome State Fault Refusal :=
  done s (s.poolFront k.val (fun o => match o with
    | .count _ => true
    | _ => false))

/-! ### The port -/

/-- Line operation of a request. -/
def lineOpOf (o : Nat) : LineOp :=
  if o = 0x04 then .ldres else if o = 0x05 then .stcond else if o = 0x06 then .atomic
  else if writes o then .write else .read

/-- Whether every bank that a request needs has room (R358). -/
def Cluster.roomFor (c : Cluster) (ls : List (Nat × Nat)) : Bool :=
  (List.range 4).all (fun b => decide ((sget [] c.banks b).length + (ls.filter (fun l => bankOf l.1 = b)).length ≤ 8))

/-- Admits a request: to the pool arbiter, or as line accesses to the banks. -/
def State.admitRequest (s : State) (k : Nat) (q : Packet) : State :=
  let off := faOffset q.hdr.fa
  let len := span q
  let s := s.modClu k (fun c => { c with port := c.port.erase q, granted := c.granted + 1 })
  if s.inPoolBlock k off len then
    if s.poolOp k q = .bad then s.poolRefuse k q else s.modClu k (fun c => { c with poolQ := c.poolQ ++ [q] })
  else
    let ls := lineParts off len
    if ls.isEmpty then s.answerStatus (niOfBm k) q 0
    else
      let data := payloadOf q
      let op := lineOpOf q.hdr.opcode
      s.modClu k (fun c =>
        let id := c.nextId
        let acc (l : Nat × Nat) : LineAcc :=
          { op := op, off := l.1, len := l.2, data := if op = .write ∨ op = .stcond then slice data (l.1 - off) l.2 else [], id := id }
        { c with nextId := id + 1, jobs := sins c.jobs id { pkt := q, left := ls.length },
                 banks := ls.foldl (fun b l => smod [] b (bankOf l.1) (· ++ [acc l])) c.banks })

/-- The first request of a lane among the 8 of the crossing to the port's clock (R572; DEDUCED, log 126), when the banks it needs
have room (R358). -/
def State.portLane (s : State) (k l : Nat) : Option Packet :=
  let c := s.clu k
  match (c.port.take 8).find? (fun q => q.lane = l) with
  | none => none
  | some q =>
    let off := faOffset q.hdr.fa
    if s.inPoolBlock k off (span q) ∨ c.roomFor (lineParts off (span q)) then some q else none

/-- Offset of the line the scrubber takes next. -/
def State.scrubOff (s : State) (k : Nat) : Nat := 64 * s.ob (0x4800 + k) 4

/-- Whether the scrubber asks for a cycle and its bank has room. -/
def State.scrubReady (s : State) (k : Nat) : Bool :=
  (s.clu k).scrubWaiting && (s.clu k).roomFor [(s.scrubOff k, 64)]

/-- Grants the scrubber a BUF cycle (R367). -/
def State.grantScrub (s : State) (k : Nat) : State :=
  let off := s.scrubOff k
  s.modClu k (fun c =>
    { c with scrubWaiting := false, scrubOwed := none, scrubSlip := false, scrubBusy := true,
             banks := smod [] c.banks (bankOf off) (· ++ [{ op := .scrub, off := off, len := 64, id := c.nextId }]), nextId := c.nextId + 1 })

/-- Entry of the cluster's stroke table for a slot. The cycles of a step stroke past slot 255 lie in no slot of the table. -/
def State.clusEntry (s : State) (k slot : Nat) : Nat := if slot < 256 then sget 0 s.fabric.act.clusTab (256 * k + slot) else 0

/-- The circuit whose window covers the cycle under way at cluster k (R234, R257). -/
def State.clusWindow (s : State) (k : Nat) : Option Nat :=
  (List.range 256).findSome? (fun j =>
    let e := s.clusEntry k j
    let c := field e 15 0
    let c0 := 8 * j + field e 29 27
    if field e 31 30 = 2 ∧ c0 ≤ s.cox.cycle ∧ s.cox.cycle < c0 + 8 * circWin (sget 0 s.fabric.act.circuits c) then some c else none)

/-- FAB cycle in which the slot under way began. -/
def State.slotStart (s : State) : Nat := s.clk.fab - s.cox.cycle % 8

/-- The request that owns the BUF cycle under the table: SC0 flow, L7 slot, circuit window (R257; in the order of R236). -/
def State.portOwner (s : State) (k : Nat) : Option Packet :=
  let slot := s.cox.cycle / 8
  let e := s.clusEntry k slot
  let own (l : Nat) (f : Option Nat) : Option Packet :=
    match s.portLane k l with
    | some q => if f.all (fun f => q.hdr.flow = f) then some q else none
    | none => none
  let r0 := if field e 31 30 = 1 ∧ s.sc0Runs ∧ ¬ s.cox.inStep then own 0 (some (field e 15 0)) else none
  let r1 := if s.cox.running ∧ ¬ s.cox.inStep then
      (match s.clusWindow k with
       | some c => own 1 (some c)
       | none => none)
    else none
  let r7 := if field e 31 30 = 3 ∧ s.cox.running then own 7 none else none
  r0.orElse (fun _ => r7.orElse (fun _ => r1))

/-- The codes of the cluster's copy of the ranking 0x3401, first to last (R257, R265). -/
def State.clusRanking (s : State) (k : Nat) : List Nat :=
  let v := sget 0x07246108 s.fabric.clusRank k
  (List.range 7).map (fun j => field v (27 - 4 * j) (24 - 4 * j))

/-- A BUF cycle granted to SC0, to SC1, or by ranking is counted (R264). -/
def State.countGrant (s : State) (k j : Nat) : State := s.bump (0x3470 + k) j

/-- The owed grant is no longer for the slot under way (R368). -/
def State.passSlot (s : State) (k : Nat) : State :=
  match (s.clu k).scrubOwed with
  | none => s
  | some _ => s.modClu k (fun c => { c with scrubOwed := some s.slotStart })

/-- Whether this BUF cycle is the first that the port decides in a FREE slot after the grant was owed, and the scrub's bank has
room (R368). -/
def State.owedNow (s : State) (k : Nat) : Bool :=
  (match (s.clu k).scrubOwed with
   | some f => decide (f ≠ s.slotStart)
   | none => false) && decide (field (s.clusEntry k (s.cox.cycle / 8)) 31 30 = 0) && s.scrubReady k

/-- A BUF cycle that the ranking offers (R257, R358). -/
def State.portRanked (s : State) (k : Nat) : State :=
  match (s.clusRanking k).find? (fun c => if c = 8 then s.scrubReady k else (s.portLane k c).isSome) with
  | none => s
  | some c =>
    if c = 8 then (s.grantScrub k).countGrant k 3
    else match s.portLane k c with
      | some q => (s.admitRequest k q).countGrant k 3
      | none => s

/-- CLUSTER_PORT_ADMIT (R257, R358, R368, R380): the owner of the cycle, an owed scrub in a FREE slot, or the ranking. The
slot's L7 and the owed scrub are granted neither to SC0 or SC1 nor by ranking, so they count in none of the three (DESIGN CHOICE,
log 104). -/
def State.portAdmit (s : State) (k : Nat) : State :=
  match s.portOwner k with
  | some q =>
    let s := (s.passSlot k).admitRequest k q
    if q.lane < 2 then s.countGrant k (q.lane + 1) else s
  | none =>
    if s.owedNow k then (s.grantScrub k).bump (0x4800 + k) 6 else (s.passSlot k).portRanked k

def execClusterPortAdmit (k : ClusterId) (s : State) : Host.Outcome State Fault Refusal := done s (s.portAdmit k.val)

/-! ### The scrubber -/

/-- SCRUB_DUE (R367, R368): the next line is taken, or, where one still waits or runs, as soon as that is done; a line that still
waits is counted once. -/
def execScrubDue (k : ClusterId) (s : State) : Host.Outcome State Fault Refusal :=
  let k := k.val
  done s (
    if s.ob (0x4800 + k) 2 = 0 ∨ s.domain (16 + k) ≠ .on then s
    else
      let c := s.clu k
      if c.scrubWaiting then
        let s := s.setClu k { c with scrubSlip := true, scrubNext := true }
        if c.scrubSlip then s else s.bump (0x4800 + k) 7
      else if c.scrubBusy then s.setClu k { c with scrubNext := true }
      else s.setClu k { c with scrubWaiting := true })

/-- SCRUB_LINE (R369): the granted scrub at the head of its bank's queue. -/
def execScrubLine (k : ClusterId) (s : State) : Host.Outcome State Fault Refusal :=
  done s (s.bankFront k.val (bankOf (s.scrubOff k.val)) (fun o => o = .scrub))

/-- SCRUB_OWED (R368): the grant is for a slot after the one under way. -/
def execScrubOwed (k : ClusterId) (s : State) : Host.Outcome State Fault Refusal :=
  done s (s.modClu k.val (fun c => if c.scrubWaiting ∧ c.scrubOwed = none then { c with scrubOwed := some s.slotStart } else c))

/-- The reservations of a cluster are cleared (R373, R382). -/
def State.clearTrackers (s : State) (k : Nat) : State := s.modClu k (fun c => { c with trackers := [] })

/-- The error word of an injected ECC error (R552): 1 bit is correctable, 2 make the word bad. -/
def State.injectEcc (s : State) (k off errs : Nat) : State :=
  s.modClu k (fun c => { c with ecc := sput 0 c.ecc (off / 8) errs })

end Sys2Proof.Machine
end

