-- ==== Sys2Proof/Machine/Cox.lean ====
section
/-! DEFINITION. The Cox: PPS edges and the discipline of the PLL, anchoring, HOLDOVER, TOD frames, steps of network time,
armed heat changes (chapter 03, R106 to R149). -/

namespace Sys2Proof.Machine

/-- FAB cycles in a second (R117). -/
def secFab : Nat := 3072000000

/-- A quotient rounded to a neighbouring integer: the manual does not say which, so a free bit does. -/
def State.roundDiv (s : State) (a b : Int) : Int × State :=
  if a % b = 0 then (a / b, s)
  else
    let (up, s) := s.drawBit
    (a / b + (if up then 1 else 0), s)

/-- A number held within ±limit. -/
def clampTo (limit v : Int) : Int := max (-limit) (min limit v)

/-- The PLL fraction, within the pull range of R109. -/
def Cox.fraction (c : Cox) : Int := clampTo 200000 (c.freq + c.phase)

/-- Applies a function to the Cox. -/
def State.modCox (s : State) (f : Cox → Cox) : State := { s with cox := f s.cox }

/-- The frequency term that makes an interval of iv cycles, run at the present fraction, last one second (R127, R129). -/
def State.steer (s : State) (iv : Nat) : Int × State :=
  let (q, s) := s.roundDiv ((1000000000 + s.cox.fraction) * (secFab : Int)) (max 1 iv : Nat)
  (clampTo 200000 (q - 1000000000), s)

/-! ### Steps of network time -/

/-- Every step releases the shaper wheels (R346); a step of more than one stroke discards pending gate lists (R351) and
disarms an armed heat change (R142). -/
def State.stepped (s : State) (step : Int) : State :=
  let s := s.releaseWheels
  if step.natAbs ≤ 2048 then s
  else
    let s := (List.range 48).foldl (fun s n =>
      if (s.ni n).pendGates.isSome then (s.modNi n (fun x => { x with pendGates := none })).obSet (0x4300 + n) 8 3 else s) s
    match s.cox.armed with
    | some _ => (s.modCox (fun c => { c with armed := none })).obSet 0x2120 8 4
    | none => s

/-- Sets network time at a stroke boundary count, keeping the cycle within the stroke. -/
def Cox.atStroke (c : Cox) (strokes : Nat) : Cox := { c with seconds := strokes / 1500000 % 2 ^ 48, stroke := strokes % 1500000 }

/-- A step of network time by whole strokes: the stroke phase stays (R135). -/
def State.stepWhole (s : State) (step : Int) : State :=
  let strokes := ((s.netStroke : Int) + step / 2048).toNat
  (s.modCox (fun c => c.atStroke strokes)).stepped step

/-- The step stroke begins at this boundary (R128): network time has moved by `step`, and the stroke lasts until a
boundary of the new grid, 1024 to 3071 cycles. -/
def State.stepStroke (s : State) (step : Int) : State :=
  let n := ((s.netCount : Int) + step).toNat
  let delta := (2048 - n % 2048) % 2048
  let len := if delta ≤ 1023 then 2048 + delta else delta
  (s.modCox (fun c => { c.atStroke ((n + len) / 2048 - 1) with strokeLen := len, cycle := 0, inStep := true, pendStep := none })).stepped step

/-- Records the first application of a label (R122). -/
def State.firstLabel (s : State) (step : Int) : State :=
  if s.cox.timeValid then s
  else
    let d : Int := (nsOfCount ((s.netCount : Int) + step).toNat : Int) - (nsOfCount s.netCount : Int)
    (s.modCox (fun c => { c with timeValid := true })).obSet 0x2101 5 (toTwos 64 d)

/-! ### States -/

/-- Leaving HOLDOVER (R133): its flags clear, and SC0 is stopped no longer. -/
def Cox.endHoldover (c : Cox) : Cox :=
  { c with holdStart := none, limitHit := false, slewing := false, reanchorNeeded := false, sc0Stopped := false,
           sc0StopDue := false, returns := 0 }

/-- PPS_ENABLE written 0 (R126). The interval that ends at the first edge captured after it is written 1 again is not measured
(DESIGN CHOICE, log 98). -/
def State.unanchor (s : State) : State :=
  s.modCox (fun c => { c.endHoldover with state := .unanchored, captured := none, qual := false, missed := 0, phase := 0 })

/-- Accepts an edge (R136). -/
def State.acceptEdge (s : State) (net : Nat) : State :=
  (s.bump 0x2111 1).modCox (fun c => { c with edge := some { fab := s.clk.fab, net := net } })

/-- Remembers the fraction that was in force during an accepted interval (R131). -/
def Cox.remember (c : Cox) : Cox := { c with hist := (c.fraction :: c.hist).take 16 }

/-- Compensated time of an edge captured now, in 1/125 FAB cycle (R112): 1 ns is 384 of them. -/
def State.compensated (s : State) : Int := (s.netCount * 125 : Nat) - (s.ob 0x2110 3 * 384 : Nat)

/-- Anchors at an edge captured now, accepted already; `old` is the edge accepted before it (R128, R134). With TOD_ENABLE 0
its label is not used (R148). The step removes the phase error, and the phase term is 0 (DEDUCED, log 87). -/
def State.anchor (s : State) (old : Option Edge) : State :=
  let prev := match old with
    | some e => if s.ob 0x2110 7 = 0 then none else e.label
    | none => none
  let target := match prev with
    | some l => l + secFab
    | none => s.netCount / secFab * secFab
  let (step, s) := s.roundDiv ((target * 125 : Nat) - s.compensated) 125
  let s := if prev.isSome then s.firstLabel step else s
  let s := s.bump 0x2111 8
  s.modCox (fun c => { c.endHoldover with
    state := .anchored, reanchor := false, qual := false, missed := 0, phase := 0, grid := target % secFab
    pendStep := some step, edge := c.edge.map (fun e => { e with net := target }) })

/-- Sets the frequency and phase terms at an accepted edge with phase error e, in 1/125 FAB cycle (R129). The frequency
term stands over an interval that a missing pulse lengthened (DEDUCED, log 12). -/
def State.setTerms (s : State) (iv : Option Nat) (e : Int) : State :=
  let s := match iv with
    | some iv =>
      let (f, s) := s.steer iv
      s.modCox (fun c => { c with freq := f })
    | none => s
  let (ppb, s) := s.roundDiv e 384
  s.modCox (fun c => { c with phase := clampTo (s.ob 0x2110 8 : Nat) ppb })

/-- Reports the phase error at an accepted edge (R129); an error that INTEGER32 cannot hold reads as the nearest number it can
(DESIGN CHOICE, log 99). -/
def State.reportPhase (s : State) (e : Int) : State :=
  let (ps, s) := s.roundDiv (e * 125) 48
  s.obSet 0x2100 3 (toTwos 32 (clampTo 0x7FFFFFFF ps))

/-! ### PPS edges -/

/-- An edge in UNANCHORED (R127). It has no phase error: PHASE_ERROR keeps its value, and is 0 at the edge that anchors
(DESIGN CHOICE, log 99). -/
def State.edgeFree (s : State) : State :=
  let old := s.cox.edge
  let s := s.acceptEdge (s.netCount)
  match s.cox.captured, old with
  | some cap, some _ =>
    let iv := s.clk.fab - cap
    let q : Bool := decide (((iv : Int) - (secFab : Int)).natAbs ≤ 153)
    let was := s.cox.qual
    let s := s.modCox Cox.remember
    let (f, s) := s.steer iv
    let s := s.modCox (fun c => { c with freq := f, phase := 0, qual := q })
    if s.cox.reanchor ∨ (q ∧ was) then (s.anchor old).obSet 0x2100 3 0 else s
  | _, _ => if s.cox.reanchor then (s.anchor old).obSet 0x2100 3 0 else s

/-- An edge in ANCHORED (R129); a pending re-anchor then takes place (R134). -/
def State.edgeAnchored (s : State) : State :=
  match s.cox.edge with
  | none => s
  | some old =>
    let exp := old.net + secFab * (1 + s.cox.missed)
    let e : Int := (exp * 125 : Nat) - s.compensated
    if e.natAbs > 384000 then s.bump 0x2111 3
    else
      let iv := if s.cox.missed = 0 then some (s.clk.fab - old.fab) else none
      let s := (s.acceptEdge exp).modCox (fun c => { c.remember with missed := 0 })
      let s := (s.setTerms iv e).reportPhase e
      if s.cox.reanchor then s.anchor (some old) else s

/-- Whether an interval is one second within 50 ns, with the phase term taken out (R133; DEDUCED, log 13). -/
def Cox.steady (c : Cox) (iv : Nat) : Bool :=
  let f := 1000000000 + c.fraction
  decide (((iv : Int) * (1000000000 + clampTo 200000 c.freq) - (secFab : Int) * f).natAbs ≤ (153 * f).natAbs)

/-- An edge in HOLDOVER (R133). While the Cox slews, an edge that is not accepted leaves SLEWING as it is, and two consecutive
accepted edges are awaited again before the terms are set or ANCHORED is entered (DEDUCED, log 118). -/
def State.edgeHoldover (s : State) : State :=
  match s.cox.captured with
  | none => s
  | some cap =>
    let iv := s.clk.fab - cap
    if ! s.cox.steady iv then s.modCox (fun c => { c with returns := 0 })
    else
      let old := s.cox.edge
      let comp := s.compensated
      let sec : Int := (secFab * 125 : Nat)
      let k := (comp - (s.cox.grid * 125 : Nat) + sec / 2) / sec
      let near := ((s.cox.grid : Int) + k * (secFab : Int)).toNat
      let e : Int := (near * 125 : Nat) - comp
      let s := ((s.acceptEdge near).modCox (fun c => { c.remember with returns := c.returns + 1 })).reportPhase e
      if s.cox.reanchor then s.anchor old
      else
        if s.cox.returns < 2 ∨ s.cox.reanchorNeeded then s
        else if ¬ s.cox.slewing ∧ e.natAbs > 50 * 384000 then s.modCox (fun c => { c with reanchorNeeded := true })
        else
          let s := (s.modCox (fun c => { c with slewing := true })).setTerms (some iv) e
          if e.natAbs ≤ 4 * 384 then s.modCox (fun c => { c.endHoldover with state := .anchored, missed := 0 }) else s

/-- PPS_EDGE (R111, R127, R129, R133): only the edge that PPS_EDGE selects is captured, and only while PPS_ENABLE is 1
(DESIGN CHOICE, log 98). -/
def execPpsEdge (rising : Bool) (s : State) : Host.Outcome State Fault Refusal :=
  done s (
    if ¬ s.cox.pll ∨ s.domain 2 ≠ .on ∨ s.ob 0x2110 1 = 0 ∨ decide (s.ob 0x2110 2 = 0) ≠ rising then s
    else
      let s := match s.cox.state with
        | .unanchored => s.edgeFree
        | .anchored => s.edgeAnchored
        | .holdover => s.edgeHoldover
      s.modCox (fun c => { c with captured := some s.clk.fab }))

/-- Enters HOLDOVER (R131): the fraction is held at its average over the last 16 accepted intervals. -/
def State.enterHoldover (s : State) : State :=
  let s := s.bump 0x2111 7
  let h := s.cox.hist
  let (avg, s) := if h.isEmpty then (s.cox.fraction, s) else s.roundDiv (h.foldl (· + ·) 0) (h.length : Nat)
  let s := s.modCox (fun c => { c with state := .holdover, holdStart := some s.clk.fab, freq := avg, phase := 0, missed := 0,
                                       returns := 0, slewing := false, reanchorNeeded := false })
  s.raise 0x0102 1 0x40 0 0

/-- PPS_MISSING (R131, R136): pulses are expected only in ANCHORED. -/
def execPpsMissing (s : State) : Host.Outcome State Fault Refusal :=
  done s (
    if s.cox.state ≠ .anchored then s
    else
      let s := (s.bump 0x2111 2).modCox (fun c => { c with missed := c.missed + 1 })
      if s.cox.missed ≥ 2 then s.enterHoldover else s)

/-- HOLDOVER_LIMIT_EXPIRY (R131): with HOLDOVER_ACTION 1, SC0 stops at the next boundary. -/
def execHoldoverLimitExpiry (s : State) : Host.Outcome State Fault Refusal :=
  done s (
    if s.cox.state ≠ .holdover ∨ s.cox.limitHit then s
    else
      (s.modCox (fun c => { c with limitHit := true, sc0StopDue := decide (s.ob 0x2110 5 = 1) })).raise 0x0103 2 0x40 0 0)

/-! ### TOD frames -/

/-- Applies a good or disagreeing label (R135): the state, and whether the frame is good. -/
def State.applyLabel (s : State) (e : Edge) (label : Nat) : State × Bool :=
  if s.cox.state = .unanchored then (s.modCox (fun c => { c with badLabel := none }), true)
  else
    let moved (s : State) (d : Int) (net : Nat) : State :=
      s.modCox (fun c => { c with badLabel := none, grid := (((c.grid : Int) + d) % (secFab : Int)).toNat,
                                  edge := c.edge.map (fun x => { x with net := net }) })
    if ! s.cox.timeValid then
      let d : Int := (label : Int) - (e.net : Int)
      (moved ((s.firstLabel d).stepWhole d) d label, true)
    else
      let d : Int := (label / secFab : Nat) - (e.net / secFab : Nat)
      if d = 0 then (s.modCox (fun c => { c with badLabel := none }), true)
      else if s.cox.badLabel = some d then
        (moved (s.stepWhole (d * (secFab : Int))) 0 ((e.net : Int) + d * (secFab : Int)).toNat, true)
      else (s.modCox (fun c => { c with badLabel := some d }), false)

/-- A complete frame of 16 bytes (R113 to R116, R135). A frame that is discarded or rejected stands between the two frames of
R135 and ends their succession (DEDUCED, log 97). A frame before the first accepted edge labels no edge and is rejected
(DEDUCED, log 120). The reserved bits of FLAGS read as 0 (R13). -/
def State.todComplete (s : State) (f : Bytes) : State :=
  let reject (s : State) (sub : Nat) : State := (s.bump 0x2111 sub).modCox (fun c => { c with badLabel := none })
  if crc8 (f.take 15) ≠ leAt f 15 1 then reject s 5
  else
    let sec := leAt f 2 6
    let ns := leAt f 8 4
    match s.cox.edge with
    | none => reject s 6
    | some e =>
      let age := s.clk.fab - e.fab
      if leAt f 1 1 ≠ 1 ∨ ns ≥ 1000000000 ∨ ns % 2000 ≠ 0 ∨ leAt f 14 1 ≠ 0 ∨ age < 3072000 ∨ age > 2764800000 then reject s 6
      else
        let label := sec * secFab + ns / 2000 * 6144
        match s.applyLabel e label with
        | (s, true) =>
          let s := s.modCox (fun c => { c with edge := c.edge.map (fun x => { x with label := some label }) })
          ((((s.bump 0x2111 4).obSet 0x2130 1 sec).obSet 0x2130 2 ns).obSet 0x2130 3 (leAt f 12 1)).obSet 0x2130 4 (leAt f 13 1 % 4)
        | (s, false) => s.bump 0x2111 6

/-- FAB cycles of idle line on TOD_IN before n bytes whose last stop bit falls now: 10 bits of each at 115 200 Bd (R113);
none when the line was idle for 1 ms already. -/
def State.todGap (s : State) (n : Nat) : Option Nat := s.cox.todAt.map (fun t => s.clk.now - t - n * 800000 / 3)

/-- Whether n bytes that end now come after at least 1 ms of idle line (R114). -/
def State.todIdle (s : State) (n : Nat) : Bool :=
  match s.todGap n with
  | none => true
  | some g => decide (3072000 ≤ g)

/-- The bytes of a frame that are there when more arrive (R114): a frame begins with 0xC5 after 1 ms of idle line, and is
discarded when its next byte comes more than 1 ms after the one before. -/
def State.todBytes (s : State) (bytes : Bytes) : Bytes :=
  let late : Bool := match s.todGap bytes.length with
    | none => true
    | some g => decide (3072000 < g)
  if s.cox.todPartial ≠ [] ∧ ! late then s.cox.todPartial ++ bytes
  else if s.todIdle bytes.length ∧ bytes.head? = some 0xC5 then bytes
  else []

/-- TOD_FRAME (R114, R148): bytes of a frame; TOD_ENABLE 0 ignores them. -/
def execTodFrame (bytes : Bytes) (s : State) : Host.Outcome State Fault Refusal :=
  done s (
    let all := s.todBytes bytes
    let keep (p : Bytes) : State := s.modCox (fun c => { c with todPartial := p, todAt := some s.clk.now })
    if bytes = [] then s
    else if ¬ s.cox.pll ∨ s.domain 2 ≠ .on ∨ s.ob 0x2110 7 = 0 then keep []
    else if all.length < 16 then keep all
    else (keep []).todComplete (all.take 16))

/-- TOD_BYTE_TIMEOUT (R114): the line has been idle for 1 ms. -/
def execTodByteTimeout (s : State) : Host.Outcome State Fault Refusal :=
  done s (s.modCox (fun c => { c with todPartial := [], todAt := none }))

/-! ### Armed heat changes -/

/-- Stroke of an armed change since network time zero. -/
def Heat.at_ (h : Heat) : Nat := h.seconds * 1500000 + h.stroke

/-- Whether the armed change is frozen (R139). -/
def State.frozen (s : State) : Bool :=
  match s.cox.armed with
  | some h => decide (h.at_ ≤ s.netStroke + 1500)
  | none => false

/-- Whether an arm write is refused (R138). -/
def State.armRefused (s : State) : Bool :=
  s.cox.armed.isSome || decide (s.ob 0x2120 1 * 1500000 + s.ob 0x2120 2 < s.netStroke + 1500)
    || (decide (s.ob 0x2120 3 = 1) && decide (s.img.state ≠ .staged))

/-- Arms the change that 0x2120:01 to :03 describe (R137). -/
def State.arm (s : State) : State :=
  s.modCox (fun c => { c with armed := some { seconds := s.ob 0x2120 1, stroke := s.ob 0x2120 2, start := decide (s.ob 0x2120 3 = 1) } })

/-- Drops the armed change with a result. -/
def State.disarm (s : State) (result : Option Nat) : State :=
  if s.cox.armed.isNone then s
  else
    let s := s.modCox (fun c => { c with armed := none })
    match result with
    | some r => s.obSet 0x2120 8 r
    | none => s

/-- Entry to EASY (R143, R588): an orderly quiesce with a heat running ends it by an END; otherwise an armed change is
disarmed, and SC0 and SC1 stop at the next boundary when they run. -/
def State.coxEasy (s : State) (forced : Bool) : State :=
  if s.cox.running ∧ ¬ forced then
    match s.cox.armed with
    | some h => s.modCox (fun c => { c with armed := some { h with start := false } })
    | none =>
      let sec := (s.netStroke + 1500 + 1499999) / 1500000
      s.modCox (fun c => { c with armed := some { seconds := sec, stroke := 0, start := false } })
  else (s.disarm (some 4)).modCox (fun c => { c with stopDue := c.running })

/-- Reset of PD02 while the hub runs (R126, R147, R537): the Cox is UNANCHORED, network time restarts at zero, an armed change
is dropped, and its objects, HEAT_ID among them, return to their defaults. The PLL keeps its lock, and the restart counts as
a step of network time by more than one stroke (DEDUCED, log 76). -/
def State.coxReset (s : State) : State :=
  let s := (s.stepped 4096).forget (fun k => decide (keyIdx k / 256 = 0x21))
  { s with cox := { pll := s.cox.pll } }

/-- PLL lock (R121, R126, R346). -/
def State.coxLock (s : State) : State :=
  if s.cox.pll then s
  else
    (s.modCox (fun c => { c with pll := true, state := .unanchored, seconds := 0, stroke := 0, cycle := 0, strokeLen := 2048 })).releaseWheels

end Sys2Proof.Machine
end

