-- ==== Sys2Proof/Machine/Power.lean ====
section
/-! DEFINITION. Power domains and endpoint proxies, the entries to the device states, chip reset, standby and insertion, EASY
(chapter 14, R556 to R596; R44 to R52, R63 to R68, R618). -/

namespace Sys2Proof.Machine

/-! ### Domains -/

def State.modPwr (s : State) (f : Power → Power) : State := { s with pwr := f s.pwr }

/-- Index of a domain's objects. -/
def domIdx (d : Nat) : Nat := 0x2210 + d

/-- Moves a domain to a state and notes when (0x2210+d:09). -/
def State.setDomain (s : State) (d : Nat) (x : DomainState) : State :=
  if s.domain d = x then s else (s.modPwr (fun p => { p with dom := sput .off p.dom d x })).obSet (domIdx d) 9 s.stamp

/-- POWER_TARGET (0x2210+d:02). -/
def State.target (s : State) (d : Nat) : Nat := s.ob (domIdx d) 2

/-- Returns the counters and other read-only values of an index to their defaults, but for some sub-indices. -/
def State.forgetRo (s : State) (i : Nat) (kept : List Nat := []) : State :=
  s.forget (fun k => decide (keyIdx k = i) && ! kept.contains (keySub k) && (match objInfo i (keySub k) with
    | some o => decide (o.acc = .ro)
    | none => false))

/-- The packets that an endpoint still holds as a target (R561, R562). -/
def State.heldRequests (s : State) (d : Nat) : List Packet :=
  if d < 16 ∨ 48 ≤ d then
    let r := s.br (if d < 16 then d - 2 else d - 48)
    r.outQ ++ r.slots.map (fun x => x.2.pkt) ++ r.dll ++ r.cfgQ
  else if d < 40 then
    let c := s.clu (d - 16)
    c.port ++ c.jobs.map (fun x => x.2.pkt) ++ c.poolQ
  else (s.eng (d - 40)).frames.flatMap (fun f => f.nps.map (·.2))

/-- Whether DRAINING has ended (R561). -/
def State.drained (s : State) (d : Nat) : Bool :=
  let x := s.ni (niOfDom d)
  (s.heldRequests d).isEmpty && x.order.isEmpty && x.open3.isEmpty && x.ready.isEmpty
    && x.cur.isNone && x.tags.isEmpty && x.wb.isEmpty && x.unacked.isEmpty && x.moving.isEmpty && x.sc0.isEmpty && x.circ.isEmpty && x.held.isEmpty
    && (if 16 ≤ d ∧ d < 40 then (s.clu (d - 16)).banks.isEmpty else true)
    && (if d < 16 ∨ 48 ≤ d then x.inbox.isEmpty && (s.br (if d < 16 then d - 2 else d - 48)).inbound.isEmpty else true)

/-- The proxy's DOMAIN_OFF answer, or its counted drop (R568). Its answers leave through the router's local port. -/
def State.proxyAnswer (s : State) (n : Nat) (p : Packet) : State :=
  let d := niDom n
  match opKind p.hdr.opcode with
  | .response => s
  | .nonPosted => (s.bump (domIdx d) 5).queueAnswer n p (answerTo n p (answerOp p.hdr.opcode) 5)
  | _ =>
    let s := s.bump (domIdx d) 6
    if pairLane p then (s.bump (domIdx d) 5).queueAnswer n p (answerTo n p 0x83 5) else s

/-- Sets a shaper's tokens as R344 has it. -/
def State.fillTokens (s : State) (n sh : Nat) : State :=
  let v := s.shaperEntry n sh
  s.modNi n (fun x => { x with tokens := sput 0 x.tokens sh (if bitAt v 62 then 0 else 1024 * field v 20 0) })

/-- The queues and rings of an engine as their configurations say, indices at 0 (R435). -/
def State.reloadEngine (s : State) (e : Nat) : State :=
  let s := (List.range 64).foldl (fun s q => s.setDq e q { state := if bitAt (qConfig s e q) 31 then .idle else .disabled }) s
  (List.range 16).foldl (fun s r => s.setRing e r { state := if bitAt (mbConfig s e r) 31 then .running else .disabled }) s

/-- What survives of an NI when its domain loses power: the answers its port still carries, and the packets that the router's
local output is delivering. -/
def NI.survivors (x : NI) : NI :=
  { asm := x.asm
    sendQ := x.sendQ.filter (fun j => opKind j.pkt.hdr.opcode = .response) ++ x.ready.map (fun p => { pkt := p, cls := 2 }),
    sc0 := x.sc0.filter (fun j => opKind j.pkt.hdr.opcode = .response) }

/-- The packets that an NI has not looked into fall to its proxy (R52, R568). -/
def State.handToProxy (s : State) (d : Nat) : State :=
  let l := (s.ni (niOfDom d)).rx
  if l.isEmpty then s else s.modPwr (fun w => { w with proxies := smod {} w.proxies d (fun x => { x with rx := x.rx ++ l }) })

/-- The endpoint and its NI lose what R382 and R563 say. A port bridge keeps its ROLE, which only an entry to LAUNCH changes (R460). -/
def State.loseDomain (s : State) (d : Nat) (retain : Bool) : State :=
  let n := niOfDom d
  let s := s.handToProxy d
  let s := s.modNi n NI.survivors
  let s := s.forget (fun k => decide (keyIdx k = 0x3800 + n))
  let s := (((s.forgetRo (0x4000 + n)).forgetRo (0x4100 + n)).forgetRo (0x4200 + n)).forgetRo (0x4300 + n)
  if d < 16 ∨ 48 ≤ d then
    let b := if d < 16 then d - 2 else d - 48
    let s := s.pcieDown b .disabled false
    (s.modBr b (fun r => { perst := r.perst, out := r.out, bar4 := r.bar4 })).forgetRo (brIdx b) [0x20]
  else if d < 40 then
    let k := d - 16
    let s := s.forget (fun x => decide (keyIdx x = 0x3470 + k))
    if retain then
      s.modClu k (fun c => { c with port := [], banks := [], jobs := [], poolQ := [], trackers := [], spurious := [],
                                    scrubWaiting := false, scrubOwed := none, scrubSlip := false, scrubBusy := false, scrubNext := false })
    else (s.setClu k {}).forgetRo (0x4800 + k)
  else
    let e := d - 40
    ((((s.setEng e {}).setEvq e {}).forgetRo (0x4C00 + e)).forgetRo (0x4E00 + e)).forget (fun k => decide (keyIdx k = 0x4E00 + e ∧ keySub k < 8))

/-- Domains that are WAKING. -/
def State.wakingCount (s : State) : Nat := (s.pwr.dom.filter (fun x => x.2 = .waking)).length

/-- A waiting domain enters WAKING when fewer than MAX_WAKING do, in domain order (R564). -/
def State.startWake (s : State) (d : Nat) : State :=
  if s.pwr.waitWake.contains d ∧ s.pwr.waitWake.all (fun x => decide (d ≤ x)) ∧ s.wakingCount < s.ob 0x2200 2 then
    let s := s.modPwr (fun p => { p with waitWake := without p.waitWake d,
                                         fromRetain := if s.domain d = .retain then addOnce p.fromRetain d else without p.fromRetain d })
    s.setDomain d .waking
  else s

/-- A domain in OFF or RETAIN is to wake (R564). -/
def State.wake (s : State) (d : Nat) : State :=
  if s.domain d = .off ∨ s.domain d = .retain then
    (s.modPwr (fun p => { p with waitWake := addOnce p.waitWake d })).startWake d
  else s

/-- The proxy answers every packet it parked: the wake that they waited for does not come (R565; DEDUCED, log 111). -/
def State.unpark (s : State) (d : Nat) : State :=
  let parked := (sget {} s.pwr.proxies d).parked
  if parked.isEmpty then s
  else
    let s := s.modPwr (fun p => { p with proxies := smod {} p.proxies d (fun x => { x with parked := [] }) })
    parked.foldl (fun s p => s.proxyAnswer (niOfDom d) p) s

/-- Domains that wait to wake do so no longer; their proxies answer what they parked. -/
def State.dropWakes (s : State) (l : List Nat) : State :=
  l.foldl (fun s d =>
    if s.pwr.waitWake.contains d then (s.modPwr (fun p => { p with waitWake := without p.waitWake d })).unpark d else s) s

/-- A domain leaves DRAINING: its contents are lost or kept, and it enters OFF or RETAIN; a warm reset wakes it (R561,
R563, R566). -/
def State.leaveDrain (s : State) (d : Nat) : State :=
  let (goal, again) := sget (.off, false) s.pwr.goal d
  let goal : DomainState := if s.dev = .easy then .off else goal
  let s := s.modPwr (fun p => { p with goal := sdel p.goal d })
  let s := (s.loseDomain d (decide (goal = .retain))).setDomain d goal
  if again ∧ s.dev ≠ .easy then s.wake d else s

/-- A bridge gives up the requests it holds as a target, which its proxy answers in its place (R562). -/
def State.yieldRequests (s : State) (d : Nat) : State :=
  if d < 16 ∨ 48 ≤ d then s.modBr (if d < 16 then d - 2 else d - 48) (fun r => { r with outQ := [], slots := [], dll := [], cfgQ := [] }) else s

/-- DRAINING is ended by force (R562). -/
def State.forceDrain (s : State) (d : Nat) : State :=
  let n := niOfDom d
  let held := s.heldRequests d
  let s := s.yieldRequests d
  let gone := ((s.ni n).tags.map (·.1)).filter (fun t => ! (s.ni n).gens.contains t)
  let s := (s.bump (domIdx d) 8).raise 0x0D01 2 0x44 0 d
  let s := { s with pwr := { s.pwr with forcedOff := s.pwr.forcedOff + 1 } }
  let s := s.leaveDrain d
  let s := s.modNi n (fun x => { x with gens := gone })
  held.foldl (fun s p => s.proxyAnswer n p) s

/-- A domain starts FENCING toward a goal (R560): its NI closes every write-buffer entry. -/
def State.startFence (s : State) (d : Nat) (goal : DomainState) (again : Bool) : State :=
  if s.domain d ≠ .on then s
  else
    let s := s.modPwr (fun p => { p with goal := sins p.goal d (goal, again) })
    (s.setDomain d .fencing).closeAll (niOfDom d)

/-! ### EASY -/

/-- In DRAINING, PD04 to PD47 fence first, then PD48 and PD49; a domain in RETAIN goes OFF at once (R588). -/
def State.easyAdvance (s : State) : State :=
  if s.dev ≠ .easy ∨ s.pwr.stage ≠ .draining then s
  else
    let one (s : State) (d : Nat) : State :=
      match s.domain d with
      | .on => s.startFence d .off false
      | .retain => (s.loseDomain d false).setDomain d .off
      | _ => s
    let s := s.dropWakes s.pwr.waitWake
    let s := ((List.range 44).map (4 + ·)).foldl one s
    if ((List.range 44).map (4 + ·)).all (fun d => decide (s.domain d = .off)) then [48, 49].foldl one s else s

/-- STOPPING has ended (R588). -/
def State.easyStopped (s : State) : State :=
  if s.dev = .easy ∧ s.pwr.stage = .stopping ∧ ¬ s.cox.running then (s.modPwr (fun p => { p with stage := .draining })).easyAdvance else s

/-- Milliseconds until the armed END, for EMCY 0xFF22 (R591). -/
def State.msToEnd (s : State) : Nat :=
  match s.cox.armed with
  | some h => min 0xFFFF ((h.at_ * 2048 - s.netCount) / 3072000)
  | none => 0xFFFF

/-- Enters EASY (R587, R588). -/
def State.enterEasy (s : State) (cause : Nat) (forced : Bool) : State :=
  let s := { s with dev := .easy, can := { s.can with nmt := .preOperational } }
  let s := s.coxEasy forced
  let s := s.modPwr (fun p => { p with stage := .stopping, easyForced := forced, easyCause := cause, easyAt := s.clk.now, limitHit := false, forcedOff := 0 })
  let s := s.obSet 0x2300 8 s.stamp
  (s.emcy 0xFF22 ([BitVec.ofNat 8 cause, BitVec.ofNat 8 (b2n forced)] ++ leBytes s.msToEnd 2)).easyStopped

/-! ### Entries to the device states -/

/-- Enters MUSTER at step 1 of R577: the straps are sampled, PD00 to PD02 are on. -/
def State.enterMuster (s : State) (st : Straps) : State :=
  let s := { s with
    dev := .muster, pins := { s.pins with ga := st.ga.val, refclk := st.refclk.val, testMode := st.testMode }
    aon := { s.aon with resetting := none }, can := { s.can with nmt := .initialisation }
    boat := { s.boat with spring := .boot } }
  let s := [0, 1, 2].foldl (fun s d => s.setDomain d .on) s
  s.obSet 0x2610 0xA 1

/-- Enters MOORED (R68, R441, R579, R584): a start due is forgotten (R64). -/
def State.enterMoored (s : State) : State :=
  let s := { s with dev := .moored, can := { s.can with nmt := .preOperational } }
  let s := ((s.obSet 0x2000 3 0).obSet 0x2301 2 0).bootUpMessage
  let s := (s.tryTrain 0).tryTrain 1
  if s.pins.ejectOpen then s.enterEasy 1 (decide (s.ob 0x2300 4 = 1)) else s

/-- Enters HALTED (R49, R535, R578). -/
def State.enterHalted (s : State) : State :=
  let muster : Bool := decide (s.dev = .muster)
  let s := { s with dev := .halted, can := { s.can with nmt := .stopped }, stw := { s.stw with running := false, warmup := false } }
  let s := s.modPwr (fun p => { p with stage := .none })
  let s := if muster then s.bootUpMessage else s
  let s := (s.haltReads 0).haltReads 1
  (List.range 12).foldl (fun s k => if (s.br (2 + k)).state = .disabled then s else s.pcieDown (2 + k) .idle false) s

/-- What an NI takes from the store (R330, R344, R353). -/
def State.loadNi (s : State) (n : Nat) : State :=
  let s := (List.range 256).foldl (fun s sh => s.fillTokens n sh) s
  s.modNi n (fun x => { x with cache := [], wheel := [], gates := { s.adminGates n with given := s.fabricRuns } })

/-- Enters LAUNCH (R223, R260, R330, R462, R512, R580, R597, R598): the loaded values take effect. -/
def State.enterLaunch (s : State) : State :=
  let s := { s with dev := .launch, can := { s.can with nmt := .preOperational } }
  let s := s.img.atLaunch.foldl (fun s e => s.setKv e.1 e.2) s
  let s := match s.img.shadow with
    | some t =>
      { s with fabric := { s.fabric with act := { s.fabric.act with confined := t.confined, allow := t.allow, pairs := t.pairs, groups := t.groups } } }
    | none => s
  let s := { s with img := { s.img with atLaunch := [], loaderDone := false, state := .staged } }
  let s := s.modPwr (fun p => { p with waves := [] })
  let s := ((List.range 48).filter (fun n => decide (s.domain (niDom n) = DomainState.on) && validNi n)).foldl (fun s n => s.loadNi n) s
  let s := (List.range 12).foldl (fun s k =>
    s.modBr (2 + k) (fun r => { r with waveDone := false, perstOut := decide (s.ob (brIdx (2 + k)) 0x20 = 1 ∧ s.domain (bridgeDom (2 + k)) = .on) })) s
  let s := { s with stw := { s.stw with running := true, warmup := true, warmStart := s.clk.fab } }
  ((List.range 46).map (4 + ·)).foldl (fun s d =>
    match s.target d with
    | 1 => s.wake d
    | 0 => if 48 ≤ d then s.startFence d .off false else s
    | _ => s) s

/-- Enters AFLOAT (R47, R64). -/
def State.enterAfloat (s : State) : State :=
  { s with dev := .afloat, can := { s.can with nmt := if s.ob 0x2000 3 = 1 ∨ s.ob 0x2000 4 = 1 then .operational else .preOperational } }

/-! ### Chip reset and STANDBY -/

/-- Keys of PD00's objects (R593, R551). -/
def aonKey (k : Nat) : Bool := (decide (0x2300 ≤ keyIdx k) && decide (keyIdx k ≤ 0x2302)) || decide (keyIdx k = 0x2430)

/-- What a chip reset leaves: PD00, what lies outside the hub, and, unless power was cut, the service of requests and the
CAN controller (R581), which then uses the rates held in OTP (R58). -/
def State.wiped (s : State) (cut : Bool) : State :=
  { State.reset with
    clk := s.clk, pins := s.pins, otp := s.otp, aon := s.aon, free := s.free, pending := s.pending
    dict := { objs := s.dict.objs.filter (fun e => aonKey e.1), queue := if cut then [] else s.dict.queue, sdo := if cut then none else s.dict.sdo }
    can := if cut then { out := s.can.out, nominal := s.otp.nominalRate, data := s.otp.dataRate }
      else { out := s.can.out, nominal := s.otp.nominalRate, data := s.otp.dataRate, emcyQ := s.can.emcyQ, inhibit := s.can.inhibit,
             reported := s.can.reported, errPassive := s.can.errPassive, busOff := s.can.busOff }
    bridges := s.bridges.map (fun e => (e.1, { perst := e.2.perst, out := e.2.out }))
    boat := { flash := { fitted := s.boat.flash.fitted, ident := s.boat.flash.ident, mem := s.boat.flash.mem } } }

/-- Records the cause of a chip reset and counts it (R576, R581). -/
def State.countReset (s : State) (cause : Nat) : State := (s.obSet 0x2301 1 cause).bump 0x2301 4

/-- A chip reset takes hold: a claim ends, everything but PD00 returns to its defaults, and the cause is recorded (R94, R581). -/
def State.resetBy (s : State) (cause : Nat) : State :=
  let s := s.releaseClaim.wiped false
  let s := { s with dev := .muster, aon := { s.aon with resetting := some cause }, pwr := { s.pwr with dom := [(0, .on), (1, .on)] } }
  s.obSet 0x2301 1 cause

/-- A chip reset of a cause begins and is counted (R581, R583). One under way is not begun again. -/
def State.beginReset (s : State) (cause : Nat) : State :=
  if s.aon.resetting.isSome ∨ s.dev = .standby then s else (s.resetBy cause).bump 0x2301 4

/-- A chip reset ends. An asserted RST_N resets at once instead and lasts until it is released; the two are one chip reset, counted
once (R581; DEDUCED, log 106). -/
def State.endReset (s : State) (st : Straps) : State :=
  if s.aon.resetting.isNone then s
  else if s.pins.rstLow ∧ ¬ s.aon.rstMasked then s.dropRequests.resetBy 1
  else s.enterMuster st

/-- Enters STANDBY: only PD00 stays powered (R573, R574, R576). A claim ends with PD01 and sends no EMCY (DEDUCED, log 67). -/
def State.enterStandby (s : State) (cause : Nat) : State :=
  let s := s.wiped true
  let s := { s with dev := .standby, aon := { s.aon with pwrReq := false, pwrGood := false, resetting := none, unlockAt := none },
                    pwr := { s.pwr with dom := [(0, .on)] } }
  s.countReset cause

/-- VAUX_POWER_ON (R574, R618): the first application of VAUX, recorded as cause 0 and not counted. -/
def execVauxPowerOn (s : State) : Host.Outcome State Fault Refusal :=
  done s (
    if s.aon.vaux then s
    else
      { s.wiped true with dev := .standby, aon := { pwrReq := false, pwrGood := false }, pwr := { dom := [(0, .on)] }, dict := {} })

/-- VAUX_LOSS (R618, R644): every state ends at once; what PD00 kept is lost. -/
def execVauxLoss (s : State) : Host.Outcome State Fault Refusal :=
  done s ({ s.wiped true with dev := .standby, aon := { vaux := false, pwrReq := false, pwrGood := false }, pwr := { dom := [] }, dict := {} })

/-- STANDBY_WAKE (R574): the handle has been closed for 100 ms; under ON_WAKE, WAKE_IN is asserted as well. Outside STANDBY it
tells only that the handle has closed again, and the level of WAKE_IN (R590, R596; DEDUCED, log 124). -/
def execStandbyWake (wakeIn : Bool) (s : State) : Host.Outcome State Fault Refusal :=
  done s (
    let s := { s with pins := { s.pins with ejectOpen := false, wakeIn := wakeIn } }
    if s.dev ≠ .standby ∨ ¬ s.aon.vaux ∨ s.aon.pwrReq ∨ s.aon.fails ≥ 3 then s
    else
      let policy := s.ob 0x2300 1
      if policy = 0 ∨ wakeIn then
        { s.obSet 0x2300 7 (if policy = 0 then 1 else 2) with aon := { s.aon with pwrReq := true, retryDue := false } }
      else s)

/-- PWR_GOOD_RISE (R577, R581): MUSTER, or first the reset that an asserted RST_N holds. -/
def execPwrGoodRise (straps : Straps) (s : State) : Host.Outcome State Fault Refusal :=
  done s (
    if s.dev ≠ .standby ∨ ¬ s.aon.pwrReq then s
    else
      let s := { s with aon := { s.aon with pwrGood := true, fails := 0, retryDue := false } }
      if s.pins.rstLow ∧ ¬ s.aon.rstMasked then ({ s with dev := .muster }).beginReset 1 else s.enterMuster straps)

/-- PWR_GOOD_TIMEOUT (R575). -/
def execPwrGoodTimeout (s : State) : Host.Outcome State Fault Refusal :=
  done s (
    if s.dev ≠ .standby ∨ ¬ s.aon.pwrReq ∨ s.aon.pwrGood then s
    else
      let s := s.bump 0x2300 6
      { s with aon := { s.aon with pwrReq := false, fails := s.aon.fails + 1, retryDue := decide (s.aon.fails + 1 < 3) } })

/-- PWR_REQ_RETRY (R575): with the handle open nothing powers the hub (R574). -/
def execPwrReqRetry (s : State) : Host.Outcome State Fault Refusal :=
  done s (if s.dev = .standby ∧ s.aon.retryDue ∧ ¬ s.pins.ejectOpen then { s with aon := { s.aon with pwrReq := true, retryDue := false } } else s)

/-- PWR_GOOD_LOSS (R576). -/
def execPwrGoodLoss (s : State) : Host.Outcome State Fault Refusal :=
  done s (if s.aon.pwrReq ∧ s.dev ≠ .standby then s.enterStandby 4 else s)

/-- RST_N_ASSERT (R105, R581, R582, R586, R596). -/
def execRstNAssert (s : State) : Host.Outcome State Fault Refusal :=
  done s (
    let s := { s with pins := { s.pins with rstLow := true } }
    if s.aon.rstMasked then s else s.dropRequests.beginReset 1)

/-- RST_N_RELEASE (R581). -/
def execRstNRelease (straps : Straps) (s : State) : Host.Outcome State Fault Refusal :=
  done s (
    let s := { s with pins := { s.pins with rstLow := false } }
    if s.aon.resetting = some 1 then s.endReset straps else s)

/-- CHIP_RESET_END (R581): a reset caused by NMT or by a fault ends after 10 µs. -/
def execChipResetEnd (straps : Straps) (s : State) : Host.Outcome State Fault Refusal :=
  done s (if s.aon.resetting = some 1 then s else s.endReset straps)

/-- RESET_HELD_TIMER (R584). -/
def execResetHeldTimer (s : State) : Host.Outcome State Fault Refusal :=
  done s (
    if s.pins.rstLow ∧ ¬ s.aon.rstMasked ∧ s.dev ≠ .standby ∧ s.ob 0x2301 2 = 0 then (s.obSet 0x2301 2 1).emcy 0xFF20 [] else s)

/-- XTAL32_OSCILLATOR_START (R627). -/
def execXtal32OscillatorStart (s : State) : Host.Outcome State Fault Refusal :=
  done s (if s.aon.vaux then { s with aon := { s.aon with xtal := true } } else s)

/-- PLL_LOCK (R121). -/
def execPllLock (s : State) : Host.Outcome State Fault Refusal :=
  done s (if s.domain 2 = .on ∧ s.dev = .muster then s.coxLock else s)

/-- PLL_LOCK_TIMEOUT (R110). -/
def execPllLockTimeout (s : State) : Host.Outcome State Fault Refusal :=
  done s (if s.domain 2 = .on ∧ ¬ s.cox.pll then s.raise 0x0101 3 0x40 0 0 else s)

/-- EJECT_OPEN (R575, R579, R587, R590): the handle has been open for 20 ms. -/
def execEjectOpen (s : State) : Host.Outcome State Fault Refusal :=
  done s (
    let s := { s with pins := { s.pins with ejectOpen := true } }
    let easy (s : State) : State := s.enterEasy 1 (decide (s.ob 0x2300 4 = 1))
    match s.dev with
    | .moored => easy s
    | .launch => easy s
    | .afloat => easy s
    | .halted => s.enterStandby 5
    | .standby => { s with aon := { s.aon with fails := 0, retryDue := false } }
    | .muster => s
    | .easy => s)

/-- EASY_DRAINED (R588): RELEASING; PD03 and PD02 go off, EMCY 0xFF23, then PD01, and the hub is in STANDBY. -/
def State.release (s : State) : State :=
  let ms := min 0xFFFF ((s.clk.now - s.pwr.easyAt) / 3072000)
  let s := s.modPwr (fun p => { p with stage := .releasing })
  let s := (s.setDomain 3 .off).setDomain 2 .off
  let s := s.emcy 0xFF23 (leBytes ms 2 ++ [BitVec.ofNat 8 s.pwr.forcedOff])
  s.enterStandby 5

def execEasyDrained (s : State) : Host.Outcome State Fault Refusal :=
  done s (
    if s.dev = .easy ∧ s.pwr.stage = .draining ∧ ((List.range 46).map (4 + ·)).all (fun d => decide (s.domain d = .off)) then s.release else s)

/-- EASY_LIMIT_EXPIRY (R589). -/
def execEasyLimitExpiry (s : State) : Host.Outcome State Fault Refusal :=
  done s (
    if s.dev ≠ .easy ∨ s.pwr.stage = .releasing then s
    else
      let s := s.modPwr (fun p => { p with limitHit := true })
      let s := ((List.range 46).map (4 + ·)).foldl (fun s d => if s.domain d = .draining then s.forceDrain d else s) s
      if s.pwr.stage = .stopping then ((s.disarm (some 4)).modCox (fun c => { c with stopDue := c.running })).easyStopped
      else s.easyAdvance)

/-! ### Requests for a transition -/

/-- Domains that hold SC0 or SC1 allocations under a set of tables (R263). A multicast flow or circuit names its group's
members as destinations (DEDUCED, log 75). -/
def State.allocated (_s : State) (t : Tables) (d : Nat) : Bool :=
  let n := niOfDom d
  let member (g : Nat) : Bool := bitAt (field (sget 0 t.groups g) 47 0) n
  (t.flows.any (fun f => decide (flowType f.2 ≠ 0) && (decide (flowSrc f.2 = n) || (if flowMcast f.2 then member (flowDst f.2) else decide (flowDst f.2 = n)))))
    || (t.circuits.any (fun f => circDefined f.2 && (decide (circSrc f.2 = n) || (if circMcast f.2 then member (circDst f.2) else decide (circDst f.2 = n)))))
    || (decide (16 ≤ d ∧ d < 40) && t.clusTab.any (fun e => decide (e.1 / 256 = d - 16) && decide (field e.2 31 30 = 1 ∨ field e.2 31 30 = 2)))

/-- ALLOC_MASK bit d: allocations in the running schedule, or in a staged one (R559, R594). -/
def State.holds (s : State) (d : Nat) : Bool :=
  decide (4 ≤ d) && ((s.cox.running && s.allocated s.fabric.act d)
    || (decide (s.img.state = .staged) && (match s.img.shadow with
      | some t => s.allocated t d
      | none => false)))

/-- Refusal of a write to POWER_TARGET, as its abort code (R559). -/
def State.targetRefused (s : State) (d v : Nat) : Option Nat :=
  let st := s.domain d
  match s.dev with
  | .launch | .afloat | .standby =>
    if v = 2 ∧ ¬ (16 ≤ d ∧ d < 40) then some 0x06090030
    else if st = .fencing ∨ st = .draining ∨ st = .waking then some 0x06040043
    else if v ≠ 1 ∧ s.holds d ∧ (st = .on ∨ (st = .retain ∧ v = 0)) then some 0x06040043
    else if v ≠ 1 ∧ st = .on ∧ 40 ≤ d ∧ d < 48 ∧ (((s.eng (d - 40)).queues.any (fun q => decide (q.2.state = .running ∨ q.2.state = .aborting)))
        ∨ (s.eng (d - 40)).frames.any (fun f => ! f.dead)) then some 0x06040043
    else none
  | .muster => some 0x08000022
  | .moored => some 0x08000022
  | .easy => some 0x08000022
  | .halted => some 0x08000022

/-- An accepted write to POWER_TARGET (R557, R558, R565). -/
def State.setTarget (s : State) (d v : Nat) : State :=
  let old := s.target d
  let s := s.obSet (domIdx d) 2 v
  match v with
  | 0 =>
    let s := s.dropWakes [d]
    if s.domain d = .retain then (s.loseDomain d false).setDomain d .off else s.startFence d .off false
  | 1 =>
    if s.pwr.failed.contains d ∧ old ≠ 0 then s
    else (s.modPwr (fun p => { p with failed := without p.failed d })).wake d
  | _ =>
    (s.dropWakes [d]).startFence d .retain false

/-- A warm reset (R566). -/
def State.warmReset (s : State) (d : Nat) : State := s.startFence d (if 16 ≤ d ∧ d < 40 then .retain else .off) true

/-! ### Progress of a transition -/

/-- FENCE_COMPLETE (R560). -/
def execFenceComplete (d : DomainId) (s : State) : Host.Outcome State Fault Refusal :=
  let d := d.val
  done s (
    if s.domain d ≠ .fencing then s
    else
      let s := s.setDomain d .draining
      if s.dev = .easy ∧ s.pwr.limitHit then (s.forceDrain d).easyAdvance else s)

/-- DRAIN_COMPLETE (R561). -/
def execDrainComplete (d : DomainId) (s : State) : Host.Outcome State Fault Refusal :=
  done s (if s.domain d.val = .draining ∧ s.drained d.val then (s.leaveDrain d.val).easyAdvance else s)

/-- DRAIN_TIMEOUT_EXPIRY (R562). -/
def execDrainTimeoutExpiry (d : DomainId) (s : State) : Host.Outcome State Fault Refusal :=
  done s (if s.domain d.val = .draining then (s.forceDrain d.val).easyAdvance else s)

/-- WAKE_START (R564). -/
def execWakeStart (d : DomainId) (s : State) : Host.Outcome State Fault Refusal := done s (s.startWake d.val)

/-- A domain reaches ON: it is reloaded, and takes the packets its proxy parked before any other (R353, R383, R384, R435,
R478, R564, R569). -/
def State.reachOn (s : State) (d : Nat) : State :=
  let n := niOfDom d
  let kept := s.pwr.fromRetain.contains d
  let s := s.setDomain d .on
  let s := s.modPwr (fun p => { p with fromRetain := without p.fromRetain d })
  let px := sget {} s.pwr.proxies d
  let s := s.modPwr (fun p => { p with proxies := sdel p.proxies d })
  let s := (s.modNi n (fun x => { x with rx := x.rx ++ px.parked ++ px.rx })).loadNi n
  let s := { s with stw := { s.stw with busyAt := sins s.stw.busyAt d s.clk.fab } }
  if d < 16 ∨ 48 ≤ d then
    let b := if d < 16 then d - 2 else d - 48
    let s := s.modBr b (fun r => { r with bar4 := s.ob (brIdx b) 0xA, perstOut := decide (s.role b = 1), waveDone := decide (2 ≤ b) && s.pwr.waves.contains ((b - 2) / 4) })
    s.tryTrain b
  else if d < 40 then
    let k := d - 16
    let s := { s with fabric := { s.fabric with clusRank := sput 0x07246108 s.fabric.clusRank k (s.ob 0x3401 1) } }
    if kept then s
    else (List.range 8).foldl (fun s p => if poolEnabled (s.poolCfg k p) then s.poolFill k p else s) s
  else s.reloadEngine (d - 40)

/-- WAKE_COMPLETE (R564). -/
def execWakeComplete (d : DomainId) (s : State) : Host.Outcome State Fault Refusal :=
  done s (if s.domain d.val = .waking then (s.reachOn d.val).easyAdvance else s)

/-- WAKE_TIMEOUT (R565). -/
def execWakeTimeout (d : DomainId) (s : State) : Host.Outcome State Fault Refusal :=
  let d := d.val
  done s (
    if s.domain d ≠ .waking then s
    else
      let s := s.modPwr (fun p => { p with failed := addOnce p.failed d, fromRetain := without p.fromRetain d })
      let s := (s.loseDomain d false).setDomain d .off
      ((s.raise 0x0D02 2 0x44 0 d).unpark d).easyAdvance)

/-- Whether a request at a sleeping domain's proxy is parked (R569). -/
def State.parks (s : State) (d : Nat) : Bool :=
  let px := sget {} s.pwr.proxies d
  decide (s.dev = .launch ∨ s.dev = .afloat)
    && (! px.parked.isEmpty
      || (decide (s.domain d = .off ∨ s.domain d = .retain) && bitAt (s.ob (domIdx d) 3) 31 && ! s.pwr.failed.contains d))

/-- A copy of a multicast packet. -/
def isCopy (p : Packet) : Bool := decide (faSpace p.hdr.fa = 3)

/-- PROXY_RECEIVE (R568 to R570): the first packet that the router's local output delivered to a sleeping domain. A multicast copy
is dropped and counted, and neither parked nor a cause to wake (R217). -/
def execProxyReceive (n : RouterId) (s : State) : Host.Outcome State Fault Refusal :=
  let n := n.val
  let d := niDom n
  done s (
    match (sget {} s.pwr.proxies d).rx with
    | [] => s
    | p :: rest =>
      let s := s.modPwr (fun w => { w with proxies := smod {} w.proxies d (fun x => { x with rx := rest }) })
      let px := sget {} s.pwr.proxies d
      let again := p.hdr.retx && px.parked.any (fun q => decide (q.hdr.src = p.hdr.src ∧ q.lane = p.lane ∧ q.hdr.pseq = p.hdr.pseq))
      if opKind p.hdr.opcode = .response ∨ opKind p.hdr.opcode = .unlisted ∨ again then s
      else if ! isCopy p ∧ s.parks d ∧ px.parked.length < 16 then
        let first := px.parked.isEmpty
        let s := s.modPwr (fun w => { w with proxies := smod {} w.proxies d (fun x => { x with parked := x.parked ++ [p] }) })
        let s := s.bump (domIdx d) 7
        if first then (s.obSet (domIdx d) 2 1).wake d else s
      else s.proxyAnswer n p)

end Sys2Proof.Machine
end

