-- ==== Sys2Proof/Machine/Faults.lean ====
section
/-! DEFINITION. Fault collection and reaction: kinds and policies, the list, the log and the pin status word, escalation,
acknowledging and clearing, chip resets caused by faults, injection (chapter 13, R528 to R555, R648). -/

namespace Sys2Proof.Machine

/-! ### Kinds and policies -/

/-- Block kinds of R534 with their default REACTION and NEXT level, in kind order. -/
def blockKinds : List (Nat × Nat × Nat) :=
  [(0x0101, 2, 0), (0x0102, 0, 0), (0x0103, 1, 2), (0x0201, 0, 0), (0x0202, 1, 2), (0x0301, 1, 2), (0x0302, 1, 0), (0x0303, 1, 0),
   (0x0304, 1, 0), (0x0401, 1, 0), (0x0402, 1, 0), (0x0403, 1, 0), (0x0404, 1, 0), (0x0601, 0, 0), (0x0602, 1, 2), (0x0603, 1, 0),
   (0x0701, 1, 0), (0x0702, 1, 0), (0x0703, 1, 0), (0x0901, 1, 2), (0x0902, 0, 0), (0x0903, 1, 2), (0x0B01, 0, 0), (0x0B02, 0, 0),
   (0x0B03, 1, 0), (0x0C01, 2, 0), (0x0C02, 1, 0), (0x0C03, 1, 0), (0x0D01, 1, 0), (0x0D02, 1, 2), (0x0E01, 0, 0), (0x0F01, 1, 0),
   (0x0F02, 1, 0), (0x0F03, 2, 0)]

/-- Class of a block kind (R534); SCRIPT_RAISE takes its class from COND and is listed as U. -/
def kindClass (k : Nat) : Nat :=
  if k = 0x0101 ∨ k = 0x0C01 ∨ k = 0x0F03 then 3
  else if k = 0x0102 ∨ k = 0x0201 ∨ k = 0x0601 ∨ k = 0x0902 ∨ k = 0x0B01 ∨ k = 0x0B02 ∨ k = 0x0E01 then 1
  else 2

/-- Pin positions: class, default REACTION and NEXT (R539). -/
def pinKind (b : Nat) : Option (Nat × Nat × Nat) :=
  if b = 0 ∨ b = 28 ∨ b = 31 then some (2, 1, 2)
  else if b = 1 ∨ (8 ≤ b ∧ b ≤ 13) ∨ (16 ≤ b ∧ b ≤ 25) then some (3, 2, 0)
  else if (2 ≤ b ∧ b ≤ 7) ∨ b = 26 ∨ b = 27 ∨ b = 29 then some (2, 1, 0)
  else if b = 30 then some (1, 0, 0)
  else none

/-- Every kind of R534 in kind order, the pins last. -/
def allKinds : List Nat :=
  blockKinds.map (·.1) ++ ((List.range 32).filter (fun b => (pinKind b).isSome)).map (0x1000 + ·)

/-- Default policy of a kind (R534, R539, R554). A NEXT of "—" is level 0, which never lies above the level applied. -/
def defaultPolicy (k : Nat) : Policy :=
  if k ≥ 0x1000 then
    match pinKind (k - 0x1000) with
    | some (c, r, n) => { reaction := r, next := n, pin := decide (c ≠ 1) }
    | none => { reaction := 0, next := 0, pin := false }
  else
    match blockKinds.find? (fun x => x.1 = k) with
    | some (_, r, n) => { reaction := r, next := n, pin := decide (kindClass k ≠ 1) }
    | none => { reaction := 0, next := 0, pin := false }

def State.policy (s : State) (k : Nat) : Policy :=
  match sfind s.flt.policy k with
  | some p => p
  | none => defaultPolicy k

def State.modFlt (s : State) (f : Faults → Faults) : State := { s with flt := f s.flt }

/-- Stores a policy; a default is not listed. -/
def State.setPolicy (s : State) (k : Nat) (p : Policy) : State :=
  s.modFlt (fun f => { f with policy := if p = defaultPolicy k then sdel f.policy k else sins f.policy k p })

/-- A policy as an entry of POLICY_TABLE (0x2411). -/
def Policy.entry (p : Policy) (k : Nat) : Nat := k <<< 48 ||| p.reaction <<< 45 ||| p.next <<< 42 ||| b2n p.pin <<< 41 ||| p.grace

/-! ### Causes -/

/-- Whether the cause of a fault is active (CAUSE_ACTIVE; R534, R553): a condition lasts as long as the state it names. -/
def State.causeActive (s : State) (e : FEntry) : Bool :=
  let m := e.msg
  let k := m.kind
  if e.test then false
  else if k ≥ 0x1000 then s.flt.pinRaw.contains (k - 0x1000)
  else if k = 0x0101 then ! s.cox.pll
  else if k = 0x0102 ∨ k = 0x0103 then decide (s.cox.state = .holdover)
  else if k = 0x0202 then decide (s.linkState m.source m.unit = .down)
  else if k = 0x0701 ∨ k = 0x0702 then
    (match endpointOf m.source with
     | .dm x => decide ((s.dq x m.unit).state = .error)
     | _ => false)
  else if k = 0x0703 then
    (match endpointOf m.source with
     | .dm x => decide ((s.ring x m.unit).state = .error)
     | _ => false)
  else if k = 0x0901 then
    (match endpointOf m.source with
     | .bridge b => decide ((s.br b).state ≠ .up)
     | _ => false)
  else if k = 0x0903 then
    (match endpointOf m.source with
     | .bridge b => (s.br b).contained
     | _ => false)
  else if k = 0x0D02 then decide (s.domain m.addr ≠ .on)
  else if k = 0x0E01 then decide (s.ob 0x2503 5 > 0)
  else false

/-- ERR_N is driven low (R540, R551). -/
def State.errN (s : State) : Bool :=
  s.aon.retainedHold || s.uncleared.any (fun e => e.pin && decide (e.msg.cls ≥ s.ob 0x2400 3))

/-- The block behind a message may report that kind again (R533). -/
def State.tellBlock (s : State) (m : FaultMsg) : State :=
  s.modFlt (fun f => { f with held := f.held.filter (fun h => h ≠ (m.kind, m.source, m.unit)) })

/-! ### Actions of the levels -/

/-- Sends a vector on each host bridge that INT_ENABLE names; one that cannot send yet holds it pending (R536, R542). -/
def State.vectorOut (s : State) (v : Nat) : State :=
  [0, 1].foldl (fun s b => if bitAt (s.ob 0x2400 4) b then s.addVector b v else s) s

/-- Bytes 3 to 7 of an EMCY of the collector (R541). -/
def FaultMsg.info (m : FaultMsg) (last : Nat) : Bytes :=
  leBytes m.kind 2 ++ [BitVec.ofNat 8 m.source, BitVec.ofNat 8 m.unit, BitVec.ofNat 8 last]

/-- TRAP: a trap request, which a full queue drops, and vector 255 (R497, R498, R536). -/
def State.actTrap (s : State) (m : FaultMsg) : State :=
  let s := s.bump 0x2400 0xC
  let s := if s.boat.trapQ.length ≥ 8 then s.bump 0x2610 5 else { s with boat := { s.boat with trapQ := s.boat.trapQ ++ [m.kind] } }
  s.vectorOut 255

/-- BLOCK_RESET (R537): anything it cannot reset has had TRAP. -/
def State.actBlockReset (s : State) (m : FaultMsg) : State :=
  let h := m.kind / 256
  if h = 0x02 then s.immediateRetrain m.source m.unit
  else if h = 0x01 then s.coxReset.easyStopped
  else if (h = 0x03 ∨ h = 0x04 ∨ h = 0x06 ∨ h = 0x07 ∨ h = 0x09) ∧ validNi m.source ∧ m.source ≠ 43 then s.warmReset (niDom m.source)
  else s

/-- The hub enters HALTED for a class F fault (R535, R648): EMCY 0xFF14, which from MUSTER follows the boot-up message. -/
def State.halt (s : State) (m : FaultMsg) : State :=
  if s.dev = .standby ∨ s.dev = .halted then s else (s.collectorEmcy 0xFF14 (m.info 0) true).enterHalted

/-- Percentage of the true rate at which AON times run: until the crystal runs they are measured on the ring oscillator, which keeps
within 10 % (R627). -/
def State.aonPace (s : State) : Nat × State :=
  if s.aon.xtal then (100, s)
  else
    let (x, s) := s.drawNat
    (90 + x % 21, s)

/-- CHIP_RESET (R550, R551): the loop guard, the retained record, the reset. -/
def State.actChipReset (s : State) (m : FaultMsg) : State :=
  let now := s.aonTicks
  let (pace, s) := s.aonPace
  if (s.aon.resetTimes.filter (fun t => decide ((now - t) * pace < 60 * 32768 * 100))).length ≥ 3 then
    let l : FaultMsg := { time := s.stamp, kind := 0x0F03, source := 0x46, unit := 0, cls := 3, addr := s.ob 0x2430 4 }
    (s.halt l).raise 0x0F03 3 0x46 0 (s.ob 0x2430 4)
  else
    let s := { s with aon := { s.aon with retained := m, retainedHold := true, resetTimes := (now :: s.aon.resetTimes).take 4 } }
    let s := (s.bump 0x2430 4).beginReset 3
    s.collectorEmcy 0xFF15 (m.info 0) true

/-- The actions of levels lo to hi, in order (R536); `entry` is byte 7 of the EMCY, none for an escalation (R543). -/
def State.act (s : State) (m : FaultMsg) (lo hi : Nat) (entry : Option Nat) : State :=
  let s := if lo ≤ 1 ∧ 1 ≤ hi then
      let s := s.vectorOut (s.ob 0x2400 5)
      match entry with
      | some e => s.collectorEmcy (0xFF10 + m.cls - 1) (m.info e)
      | none => s
    else s
  let s := if lo ≤ 2 ∧ 2 ≤ hi then s.actTrap m else s
  let s := if lo ≤ 3 ∧ 3 ≤ hi then s.actBlockReset m else s
  if lo ≤ 4 ∧ 4 ≤ hi then s.actChipReset m else s

/-! ### Taking a message -/

/-- Writes a message to the fault log (R546). -/
def State.logFault (s : State) (m : FaultMsg) : State :=
  (s.modFlt (fun f => { f with log := sins f.log f.logAt m, logAt := (f.logAt + 1) % 256 })).bump 0x2423 1

/-- The lowest free entry a message takes (R545): 63 is LIST_OVERFLOW's. -/
def State.listPlace (s : State) (m : FaultMsg) : Option Nat :=
  let free (e : Nat) : Bool := (sfind s.flt.list e).isNone
  if m.kind = 0x0F01 ∧ m.source = 0x46 then (if free 63 then some 63 else none)
  else (List.range 63).find? free

/-- Handles a fault: log, HALTED for class F, level, entry, reaction (R534 to R545). `pin` is its pin position. -/
def State.handleFault (s : State) (m : FaultMsg) (pin : Option Nat) (test : Bool) : State :=
  let s := s.logFault m
  let pol := s.policy m.kind
  let second := s.uncleared.any (fun e => decide (e.state = .raised ∧ e.msg.cls = m.cls))
  let level := if second then min 4 (pol.reaction + 1) else pol.reaction
  let s := if m.cls = 3 then s.halt m else s
  let s := if second then s.bump 0x2400 0xA else s
  let entry : FEntry :=
    { msg := m, state := if level = 0 then .acknowledged else .raised, level := level, second := second
      timer := if 0 < level ∧ level < pol.next then some pol.next else none, test := test, pin := pol.pin }
  match pin with
  | some b => (s.modFlt (fun f => { f with pins := sins f.pins b entry })).act m 1 level (some (0x80 + b))
  | none =>
    match s.listPlace m with
    | some e => (s.modFlt (fun f => { f with list := sins f.list e entry })).act m 1 level (some e)
    | none =>
      let s := (s.bump 0x2400 0xB).tellBlock m
      (if (sfind s.flt.list 63).isSome then s else s.raise 0x0F01 2 0x46 0 (s.ob 0x2400 0xB)).act m 1 level (some 0xFF)

/-- FAULT_MESSAGE_TAKE (R538, R545): not while a chip reset holds the collector (R530). -/
def execFaultMessageTake (s : State) : Host.Outcome State Fault Refusal :=
  done s (
    match s.flt.input with
    | [] => s
    | (m, test) :: rest => if s.aon.resetting.isSome then s else ((s.modFlt (fun f => { f with input := rest })).bump 0x2400 7).handleFault m none test)

/-- Whether a position of the pin status word is evaluated: with PD01 on and not in reset (R530, R581), that of the fabric PLL after MUSTER, those of the rails
but VAUX while PWR_GOOD is asserted (R539, R616). -/
def State.pinWatched (s : State) (b : Nat) : Bool :=
  decide (s.domain 1 = .on) && s.aon.resetting.isNone && decide (b = 1 → s.dev ≠ .muster) && (! decide (9 ≤ b ∧ b ≤ 13) || s.aon.pwrGood)

/-- A position of the pin status word is asserted (R539, R616). -/
def State.latchPin (s : State) (b : Nat) : State :=
  if ! s.pinWatched b then s
  else match pinKind b with
  | none => s
  | some (c, _, _) =>
    let s := s.modFlt (fun f => { f with pinRaw := addOnce f.pinRaw b })
    if (sfind s.flt.pins b).isSome then s
    else s.handleFault { time := s.stamp, kind := 0x1000 + b, source := 0x47, unit := b, cls := c, addr := 0 } (some b) false

/-- PIN_LATCH (R539, R616). -/
def execPinLatch (b : Fin 64) (s : State) : Host.Outcome State Fault Refusal := done s (s.latchPin b.val)

/-- ERROR_PIN_DEASSERT (R539). -/
def execErrorPinDeassert (b : Fin 64) (s : State) : Host.Outcome State Fault Refusal :=
  done s (s.modFlt (fun f => { f with pinRaw := without f.pinRaw b.val }))

/-- The entry a grace timer belongs to. -/
def State.faultAt (s : State) : FaultRef → Option FEntry
  | .entry e => sfind s.flt.list e.val
  | .pin b => sfind s.flt.pins b.val

def State.setFaultAt (s : State) (r : FaultRef) (x : FEntry) : State :=
  match r with
  | .entry e => s.modFlt (fun f => { f with list := sins f.list e.val x })
  | .pin b => s.modFlt (fun f => { f with pins := sins f.pins b.val x })

/-- GRACE_EXPIRY (R543): EMCY 0xFF13 first, then what NEXT_LEVEL adds to the level applied. -/
def execGraceExpiry (f : FaultRef) (s : State) : Host.Outcome State Fault Refusal :=
  done s (
    match s.faultAt f with
    | none => s
    | some e =>
      match e.timer with
      | none => s
      | some next =>
        if e.state ≠ .raised then s
        else
          let s := s.setFaultAt f { e with level := next, escalated := true, timer := none }
          let s := (s.bump 0x2400 9).collectorEmcy 0xFF13 (e.msg.info next)
          s.act e.msg (e.level + 1) next none)

/-! ### Acknowledging and clearing -/

/-- Acknowledges a fault: its grace timer stops (R547). -/
def FEntry.ack (e : FEntry) : FEntry := if e.state = .raised then { e with state := .acknowledged, timer := none } else e

def State.ackEntry (s : State) (e : Nat) : State :=
  match sfind s.flt.list e with
  | some x => s.modFlt (fun f => { f with list := sins f.list e x.ack })
  | none => s

def State.ackAll (s : State) : State := s.modFlt (fun f => { f with list := f.list.map (fun x => (x.1, x.2.ack)) })

/-- Clears an entry whose cause has ended (R548). -/
def State.clearEntry (s : State) (e : Nat) : State :=
  match sfind s.flt.list e with
  | some x => ((s.modFlt (fun f => { f with list := sdel f.list e })).tellBlock x.msg).emcyCleared
  | none => s

def State.clearEnded (s : State) : State :=
  (s.flt.list.filter (fun x => ! s.causeActive x.2)).foldl (fun s x => s.clearEntry x.1) s

/-- Whether a clear of an entry is refused (R548). -/
def State.clearRefused (s : State) (e : Nat) : Bool :=
  match sfind s.flt.list e with
  | some x => s.causeActive x
  | none => false

/-- PIN_ACK and PIN_CLEAR (R549). -/
def State.ackPins (s : State) (mask : Nat) : State :=
  s.modFlt (fun f => { f with pins := f.pins.map (fun x => (x.1, if bitAt mask x.1 then x.2.ack else x.2)) })

def State.clearPins (s : State) (mask : Nat) : State :=
  (s.modFlt (fun f => { f with pins := f.pins.filter (fun x => ! (bitAt mask x.1 && ! f.pinRaw.contains x.1)) })).emcyCleared

/-- RETAINED_RELEASE (R551). -/
def State.releaseRetained (s : State) : State := ({ s with aon := { s.aon with retainedHold := false } }).emcyCleared

/-! ### Views -/

/-- ENTRY_STATE (0x2420:04). -/
def State.entryWord (s : State) (e : Nat) : Nat :=
  match sfind s.flt.list e with
  | none => 0
  | some x =>
    (match x.state with | .free => 0 | .raised => 1 | .acknowledged => 2) <<< 30 ||| b2n (s.causeActive x) <<< 29 ||| x.level <<< 26
      ||| b2n x.escalated <<< 25 ||| b2n x.second <<< 24

/-- An entry's message. -/
def State.entryMsg (s : State) (e : Nat) : FaultMsg :=
  match sfind s.flt.list e with
  | some x => x.msg
  | none => {}

/-- 16 bytes of a message; a message that was never written is all zeros. -/
def FaultMsg.bytes (m : FaultMsg) : Bytes := leBytes m.low 8 ++ leBytes m.high 8

/-- FAULT_SUMMARY (0x2400:01). -/
def State.faultSummary (s : State) : Nat :=
  let u := s.uncleared
  let n (c : Nat) : Nat := min 255 (u.filter (fun e => e.msg.cls = c)).length
  b2n (u.any (fun e => e.state = .raised)) <<< 25 ||| b2n s.errN <<< 24 ||| n 3 <<< 16 ||| n 2 <<< 8 ||| n 1

/-! ### Injection -/

/-- Refusal of an arm write (R552): the abort code. -/
def State.armInjectRefused (s : State) : Option Nat :=
  let t := s.ob 0x2440 1
  let ty := field t 31 28
  let bits := field t 27 26
  let i := field t 13 8
  let bitsOk := decide (bits = 1 ∨ bits = 2)
  let at_ (valid : Bool) (d : Nat) : Option Nat :=
    if ! valid then some 0x06040043 else if ! s.answers d then some 0x08000021 else if s.flt.inject = .armed then some 0x06040043 else none
  if ty = 1 then at_ (bitsOk && decide (i < 48) && hasPort i (field t 1 0)) 3
  else if ty = 2 then at_ (bitsOk && decide (i < 24)) (16 + i)
  else if ty = 3 then at_ (validNi i && decide (i ≠ 43)) (niDom i)
  else if ty = 4 then at_ (bitsOk && decide (i < 16)) (if i < 8 then 40 + i else 1)
  else some 0x06040043

/-- Arms an injection: what INJECT_TARGET and INJECT_OFFSET hold at the arm write is what is injected. -/
def State.armInject (s : State) : State :=
  s.modFlt (fun f => { f with inject := .armed, injTarget := s.ob 0x2440 1, injOffset := s.ob 0x2440 2 })

/-- INJECTION_APPLY (R552): a TYPE 2 error goes into the stored check byte in one bank access; the other types wait for the
flit, request or item that carries them. -/
def execInjectionApply (s : State) : Host.Outcome State Fault Refusal :=
  let t := s.flt.injTarget
  done s (
    if s.flt.inject = .armed ∧ field t 31 28 = 2 then
      let k := field t 13 8
      let w := s.flt.injOffset / 8
      let errs := min 2 (sget 0 (s.clu k).ecc w + field t 27 26)
      ((s.injectEcc k s.flt.injOffset errs).modFlt (fun f => { f with inject := .done })).bump 0x2440 5
    else s)

end Sys2Proof.Machine
end

