-- ==== Sys2Proof/Machine/Values.lean ====
section
/-! DEFINITION. Values of objects: the key a selector shows, the length and range an object table asks of a value
(R13, R16, R71, R555), and the rules for windows and pools that a run-time write and image validation share
(R328, R381). `look` reads a stored key: the running store, or that store under an image's records. -/

namespace Sys2Proof.Machine

/-- The selector sub-index of an object that shows one entry of an array. -/
def selectorSub (i s : Nat) : Option Nat :=
  if 0x4200 ≤ i ∧ i ≤ 0x422F ∧ (s = 3 ∨ s = 4) then some 2
  else if 0x4C00 ≤ i ∧ i ≤ 0x4C07 ∧ 2 ≤ s ∧ s ≤ 6 then some 1
  else if 0x4C00 ≤ i ∧ i ≤ 0x4C07 ∧ 0x11 ≤ s ∧ s ≤ 0x14 then some 0x10
  else none

/-- Key under which the value that object i:s now shows is stored. -/
def shownKey (look : Nat → Nat) (i s : Nat) : Nat :=
  match selectorSub i s with
  | some x => skey i s (look (okey i x))
  | none => okey i s

/-- The value of bytes of the right length, with reserved bits cleared (R13, R71). -/
def Obj.coerce (o : Obj) (data : Bytes) : Option Nat :=
  if tySize o.ty ≠ 0 ∧ data.length = tySize o.ty then some (fromLe data &&& o.keep) else none

/-- Size of a pool's buffers by code (R375). -/
def bufSize (code : Nat) : Nat := lget 0 [256, 512, 2048, 9216] code

/-- A permutation of the lanes listed, one in each 4 bits. -/
def permOf (l : List Nat) (v : Nat) : Bool := l.all (fun x => (List.range l.length).any (fun j => decide (field v (4 * j + 3) (4 * j) = x)))

/-- A shaper entry in range (R352): with ENABLE, RATE and BURST. -/
def shaperOk (v : Nat) : Bool :=
  ! bitAt v 63 || (decide (1 ≤ field v 57 40) && decide (field v 57 40 ≤ 131072) && decide (576 ≤ field v 20 0)
    && decide (field v 20 0 ≤ 1048576) && decide (field v 20 0 % 64 = 0))

/-- Ranges with cases of their own. COUNT and BASE of a pool are judged with ENABLE (DEDUCED, log 55: the default is 0). -/
def ruleOk (s : State) (look : Nat → Nat) (n i sub v : Nat) : Bool :=
  match n with
  | 1 => ! bitAt v 30
  | 3 => decide ((1 ≤ v ∧ v ≤ 240) ∨ v = 254)
  | 4 => decide (10 ≤ field v 19 0 ∧ field v 19 0 ≤ 100000)
  | 5 => allKinds.contains v
  | 6 => decide (800 ≤ ofTwos 16 v ∧ ofTwos 16 v ≤ s.otp.maxTj)
  | 7 => decide (look (okey i (sub - 1)) + 4095 ≤ v ∧ (v + 1) % 4096 = 0)
  | 8 => decide (field v 39 0 % 64 = 0)
  | 9 => decide ((field v 39 0 + 1) % 64 = 0)
  | 10 => shaperOk v
  | 11 => decide (8 ≤ field v 23 0 ∧ field v 23 0 ≤ 16777208 ∧ field v 23 0 % 8 = 0)
  | 12 => ! bitAt v 63 || decide (1 ≤ field v 55 40 ∧ field v 55 40 ≤ 32768 ∧ field v 22 0 % min (bufSize (field v 62 61)) 4096 = 0)
  | 13 => decide (3 ≤ field v 27 24 ∧ field v 27 24 ≤ 12 ∧ 1 ≤ field v 23 20)
  | 14 => decide (3 ≤ field v 29 26 ∧ field v 29 26 ≤ 12 ∧ 1 ≤ field v 25 16 ∧ field v 25 16 ≤ 1000)
  | 15 => decide (field v 7 0 ≤ 6)
  | _ => true

/-- Ranges that a pair of objects sets together: R611's LOAD_LOW below LOAD_HIGH and SCRUB_FAST at most SCRUB_SLOW;
RETAIN only for PD16 to PD39 (R559). -/
def pairOk (look : Nat → Nat) (i sub v : Nat) : Bool :=
  if i = 0x2504 ∧ sub = 3 then decide (v < look (okey i 4))
  else if i = 0x2504 ∧ sub = 4 then decide (look (okey i 3) < v)
  else if i = 0x2504 ∧ sub = 5 then decide (v ≤ look (okey i 6))
  else if i = 0x2504 ∧ sub = 6 then decide (look (okey i 5) ≤ v)
  else if 0x2214 ≤ i ∧ i ≤ 0x2241 ∧ sub = 2 ∧ v = 2 then decide (0x2220 ≤ i ∧ i ≤ 0x2237)
  else true

/-- Whether a value lies in its object's range (R16). -/
def State.rangeOk (s : State) (look : Nat → Nat) (i sub : Nat) (o : Obj) (v : Nat) : Bool :=
  (match o.ty with
   | .bool => decide (v ≤ 1)
   | _ => true)
  && (match o.rng with
   | .any => true
   | .btw lo hi => decide (lo ≤ v ∧ v ≤ hi)
   | .zeroOr lo hi => decide (v = 0 ∨ (lo ≤ v ∧ v ≤ hi))
   | .oneOf l => l.contains v
   | .mult m hi => decide (v % m = 0 ∧ v ≤ hi)
   | .multOr m hi x => decide (v = x ∨ (v % m = 0 ∧ v ≤ hi))
   | .sbtw lo hi => decide (lo ≤ ofTwos 16 v ∧ ofTwos 16 v ≤ hi)
   | .perm8 z => (z && decide (v = 0)) || permOf [0, 1, 2, 3, 4, 5, 6, 7] v
   | .permC => permOf [0, 1, 2, 4, 6, 7, 8] v
   | .rule n => ruleOk s look n i sub v)
  && pairOk look i sub v

/-! ### Tables written as bytes -/

/-- The 8-byte words of a run of bytes. -/
def words8 : Bytes → List Nat
  | a :: b :: c :: d :: e :: f :: g :: h :: rest => fromLe [a, b, c, d, e, f, g, h] :: words8 rest
  | _ => []

/-- Fields of an entry of POLICY_TABLE in range (R555). -/
def policyOk (v : Nat) : Bool :=
  decide (field v 47 45 ≤ 4) && decide (field v 44 42 ≤ 4) && decide (250 ≤ field v 31 0) && decide (field v 31 0 ≤ 250000000)

/-- Abort code for a write of bytes to POLICY_TABLE at an offset, if it is refused (R555). -/
def policyRefused (off : Nat) (data : Bytes) : Option Nat :=
  if off % 8 ≠ 0 ∨ data.length % 8 ≠ 0 then some 0x06070010
  else if off + data.length > 8 * allKinds.length then some 0x06090030
  else if (words8 data).all policyOk then none else some 0x06090030

/-- Abort code for a write of bytes to SHAPER_TABLE at an offset (R352): whole entries within the 2048 bytes. -/
def shapersRefused (off : Nat) (data : Bytes) : Option Nat :=
  if off % 8 ≠ 0 ∨ data.length % 8 ≠ 0 then some 0x06070010
  else if off + data.length > 2048 then some 0x06090030
  else if (words8 data).all shaperOk then none else some 0x06090030

/-! ### Windows and pools -/

/-- BASE, LIMIT, TARGET and ATTR of window w of NI n. -/
def winAt (look : Nat → Nat) (n w : Nat) : Nat × Nat × Nat × Nat :=
  (look (okey (0x4000 + n) (4 * w + 1)), look (okey (0x4000 + n) (4 * w + 2)), look (okey (0x4000 + n) (4 * w + 3)),
   look (okey (0x4000 + n) (4 * w + 4)))

/-- Whether window w of NI n with attribute `attr` breaks R328. -/
def windowRefused (look : Nat → Nat) (n w attr : Nat) : Bool :=
  let (base, limit, target, _) := winAt look n w
  let cls := field attr 29 28
  let space := faSpace (target % 2 ^ 48)
  (bitAt attr 30 && (decide (cls ≠ 2) || decide (space = 3)))
    || (decide (faTarget target = 43) && decide (space ≤ 1))
    || decide (0xFFFFFFFFFF < faOffset target + (limit - base))
    || (bitAt attr 27 && decide (cls ≤ 1))
    || (bitAt attr 31 && (List.range 32).any (fun v =>
          let (b, l, _, a) := winAt look n v
          decide (v ≠ w) && bitAt a 31 && decide (base ≤ l) && decide (b ≤ limit)))

/-- First and last offset of a pool's area and its COUNT, when it is enabled. -/
def poolArea (v : Nat) : Option (Nat × Nat × Nat) :=
  if bitAt v 63 then
    some (field v 22 0, field v 22 0 + field v 55 40 * bufSize (field v 62 61) - 1, field v 55 40)
  else none

/-- Whether pool p of cluster k, given its words and control block, breaks the first three points of R381 against the
block and the other pools that `among` selects. -/
def poolRefused (cfg : Nat → Nat) (ctrl p : Nat) (among : Nat → Bool) : Bool :=
  match poolArea (cfg p) with
  | none => false
  | some (lo, hi, n) =>
    let others := ((List.range 8).filter (fun j => j ≠ p && among j)).filterMap (fun j => poolArea (cfg j))
    decide (0x7FFFFF < hi) || (decide (ctrl ≠ 0xFFFFFFFF) && decide (lo ≤ ctrl + 511) && decide (ctrl ≤ hi))
      || others.any (fun a => decide (lo ≤ a.2.1) && decide (a.1 ≤ hi))
      || decide (32768 < n + (others.map (fun a => a.2.2)).sum)

/-- Whether cluster k's settings break R381: the first pool that does. -/
def poolsRefused (look : Nat → Nat) (k : Nat) : Option Nat :=
  let cfg (p : Nat) : Nat := look (okey (0x4800 + k) (0x30 + p))
  (List.range 8).find? (fun p => poolRefused cfg (look (okey (0x4800 + k) 8)) p (fun j => decide (j < p)))

end Sys2Proof.Machine
end

