-- ==== Sys2Proof/Machine/Images.lean ====
section
/-! DEFINITION. The Zwinov container (R500 to R507), and the checks of image validation on it, step by step (R509),
without the schedule checker. -/

namespace Sys2Proof.Machine

/-! ### The container -/

/-- `n` numbers of `w` bytes each, from the front of a run of bytes. -/
def numbers (w : Nat) : Nat → Bytes → List Nat
  | 0, _ => []
  | n + 1, bs => fromLe (bs.take w) :: numbers w n (bs.drop w)

/-- A sparse table from numbers in order; the default `d` is not listed. -/
def tableOf (d : Nat) (vs : List Nat) : SMap Nat :=
  ((List.range vs.length).zip vs).filter (fun e => e.2 ≠ d)

/-- A section of the table (R501); sections are numbered from 1 in table order (DESIGN CHOICE, log 15). -/
structure Section where
  num : Nat
  type : Nat
  optional : Bool
  off : Nat
  len : Nat
  crc : Nat
  deriving DecidableEq, Repr

/-- Fields of the header (R500). -/
def imgKind (img : Bytes) : Nat := leAt img 6 1
def imgSigned (img : Bytes) : Bool := bitAt (leAt img 7 1) 0
def imgTotal (img : Bytes) : Nat := leAt img 8 4
def imgGeneration (img : Bytes) : Nat := leAt img 20 4
def imgCount (img : Bytes) : Nat := leAt img 24 2
def imgBuild (img : Bytes) : Bytes := ((slice img 32 32).reverse.dropWhile (· = 0)).reverse

/-- The section table. -/
def imgSections (img : Bytes) : List Section :=
  (List.range (min (imgCount img) 32)).map (fun j =>
    let e := slice img (128 + 16 * j) 16
    { num := j + 1, type := leAt e 0 1, optional := bitAt (leAt e 1 1) 0, off := leAt e 4 4, len := leAt e 8 4, crc := leAt e 12 4 })

/-- The section of a type. -/
def imgFind (img : Bytes) (t : Nat) : Option Section := (imgSections img).find? (fun x => x.type = t)
/-- Contents of the section of a type; none where it is absent. -/
def imgBytes (img : Bytes) (t : Nat) : Bytes :=
  match imgFind img t with
  | some x => slice img x.off x.len
  | none => []

/-- A record of OBJECTS (R503). -/
structure Rec where
  index : Nat
  sub : Nat
  data : Bytes
  /-- it runs past the end of its section, or its padding is not 0 -/
  short : Bool := false
  deriving DecidableEq, Repr

/-- The records of an OBJECTS section, in order. -/
def objRecords : Nat → Bytes → List Rec
  | 0, _ => []
  | n + 1, bs =>
    if bs.isEmpty then []
    else
      let len := leAt bs 4 4
      let pad := (len + 7) / 8 * 8
      let r : Rec := { index := leAt bs 0 2, sub := leAt bs 2 1, data := slice bs 8 len }
      if bs.length < 8 + pad then [{ r with short := true }]
      else { r with short := leAt bs (8 + len) (pad - len) ≠ 0 } :: objRecords n (bs.drop (8 + pad))

/-- Numbers without the bits of their reserved fields, which the hub ignores (R13). -/
def masked (m : Nat) (vs : List Nat) : List Nat := vs.map (· &&& m)

/-- The tables of a ROUTING section (R504), with the fields of R227. -/
def routingOf (b : Bytes) (t : Tables) : Tables :=
  { t with confined := bitAt (leAt b 0 8) 0, allow := tableOf 0xF (masked 0xF (numbers 1 2304 (b.drop 8))),
           pairs := tableOf 0 (masked 0x8FFFFFFFFFFF0000 (numbers 8 1920 (b.drop 2312))),
           groups := tableOf 0 (masked 0xF800FFFFFFFFFFFF (numbers 8 64 (b.drop 17672))) }

/-- The tables of a SCHEDULE section (R505), with the fields of R233, R241 and R251. -/
def scheduleOf (b : Bytes) (t : Tables) : Tables :=
  { t with guard := leAt b 0 2, l7slot := leAt b 2 1, maintPeriod := leAt b 4 4,
           maintOffset := tableOf 0xFFFFFFFF (numbers 4 192 (b.drop 8)), linkTab := tableOf 0 (masked 0xFF80FFFF (numbers 4 49152 (b.drop 776))),
           clusTab := tableOf 0 (masked 0xFF80FFFF (numbers 4 6144 (b.drop 197384))),
           flows := tableOf 0 (masked 0xFFFFFFFFFE0000EFFFF3FF (numbers 16 1024 (b.drop 221960))),
           circuits := tableOf 0 (masked 0xFFFFFFFFFF0000EFFFF000 (numbers 16 64 (b.drop 238344))) }

/-- Both. -/
def imgTables (img : Bytes) : Tables := scheduleOf (imgBytes img 3) (routingOf (imgBytes img 2) {})

/-- A Springhead command from its 32 bytes (R491). -/
def parseCmd (b : Bytes) : SpringCmd :=
  { op := leAt b 0 1, cond := leAt b 1 1 / 16, size := leAt b 1 1 % 16, index := leAt b 2 2, sub := leAt b 4 1, rsvd := leAt b 5 3,
    value := leAt b 8 8, mask := leAt b 16 8, target := leAt b 24 2, code := leAt b 26 2, time := leAt b 28 4 }

/-- Vector entries in use and commands of a TRAP_SCRIPTS section (R506). -/
def trapVector (b : Bytes) : List (Nat × Nat) :=
  ((numbers 4 64 b).map (fun v => (field v 31 16, field v 15 0))).filter (fun e => e.1 ≠ 0xFFFF)
def trapCmds (b : Bytes) : List SpringCmd :=
  (List.range ((b.length - 256) / 32)).map (fun j => parseCmd (slice b (256 + 32 * j) 32))

/-! ### Springhead commands -/

/-- Whether an opcode uses each field of R492: COND, SIZE with INDEX and SUB, VALUE with MASK, TARGET, CODE, TIME. -/
def cmdUses (op : Nat) : Option (Bool × Bool × Bool × Bool × Bool × Bool) :=
  match op with
  | 0 => some (false, false, false, false, false, false)
  | 1 => some (true, true, true, false, false, false)
  | 2 => some (true, true, true, true, false, true)
  | 3 => some (false, false, false, true, false, false)
  | 4 => some (false, false, false, false, false, false)
  | 5 => some (true, true, true, true, false, false)
  | 6 => some (false, false, false, false, false, true)
  | 7 => some (true, false, false, false, true, false)
  | _ => none

/-- SIZE equals the size of the object (R493). A DOMAIN object has no size; R494 refuses it when it is reached. -/
def cmdSizeOk (c : SpringCmd) : Bool :=
  decide (c.size ≤ 3) && (match objInfo c.index c.sub with
    | some o => decide (o.ty = .domain) || decide (tySize o.ty = 2 ^ c.size)
    | none => false)

/-- Whether a command is bad (R492, R493). `m` is the number of commands of its script, where that is known. The
reserved bytes count as an unused field (DEDUCED, log 16). -/
def cmdBad (m : Option Nat) (c : SpringCmd) : Bool :=
  match cmdUses c.op with
  | none => true
  | some (cond, obj, val, tgt, code, time) =>
    let condOk := if c.op = 1 then decide (c.cond = 0) else if c.op = 7 then decide (1 ≤ c.cond ∧ c.cond ≤ 3) else decide (c.cond ≤ 4)
    ! ((if cond then condOk else decide (c.cond = 0))
      && (if obj then cmdSizeOk c else decide (c.size = 0 ∧ c.index = 0 ∧ c.sub = 0))
      && (val || decide (c.value = 0 ∧ c.mask = 0))
      && (if tgt then (match m with
                       | some n => decide (c.target < n)
                       | none => true) else decide (c.target = 0))
      && (code || decide (c.code = 0))
      && (if time then decide (1 ≤ c.time ∧ c.time ≤ 1000000) else decide (c.time = 0))
      && decide (c.rsvd = 0))

/-! ### Steps 1 to 7 -/

/-- Step 1: the header. A GENERATION outside its range is a fault of the header (DEDUCED, log 15). -/
def headerBad (img : Bytes) : Bool :=
  decide (img.length < 128) || decide (leAt img 0 4 ≠ 0x564E575A) || decide (leAt img 4 2 ≠ 1) || decide (leAt img 12 4 ≠ 0x9648)
    || decide (leAt img 16 4 ≠ 0xA1) || decide (crc32c (img.take 124) ≠ leAt img 124 4) || decide (imgTotal img ≠ img.length)
    || decide (imgGeneration img = 0 ∨ imgGeneration img = 0xFFFFFFFF)

/-- Step 2: FULL outside MOORED, HEAT outside LAUNCH and AFLOAT, or no kind. -/
def kindBad (img : Bytes) (dev : DeviceState) : Bool :=
  if imgKind img = 1 then decide (dev ≠ .moored)
  else if imgKind img = 2 then decide (dev ≠ .launch ∧ dev ≠ .afloat)
  else true

/-- Whether one section breaks R501 or R502, given those before it. -/
def sectionBad (img : Bytes) (before : List Section) (x : Section) : Bool :=
  let full := decide (imgKind img = 1)
  let tableEnd := 128 + 16 * imgCount img
  decide (x.off % 64 ≠ 0) || decide (imgTotal img < x.off + x.len)
    || (decide (0 < x.len) && (decide (x.off < tableEnd) || before.any (fun y => decide (x.off < y.off + y.len) && decide (y.off < x.off + x.len))))
    || (decide (x.type ≠ 0x7E) && decide (x.type ∈ [1, 2, 3, 4, 0x7F]) && before.any (fun y => decide (y.type = x.type)))
    || (match x.type with
        | 1 => ! full
        | 2 => decide (x.len ≠ 18184)
        | 3 => decide (x.len ≠ 239368)
        | 4 => ! full || decide (x.len < 256 ∨ (x.len - 256) % 32 ≠ 0 ∨ 504 < (x.len - 256) / 32)
        | 0x7E => false
        | 0x7F => ! imgSigned img || decide (x.len ≠ 200 ∨ x.off + x.len ≠ imgTotal img)
        | _ => ! x.optional)

/-- The first bad section of a list. -/
def firstBad (img : Bytes) (before : List Section) : List Section → Option Nat
  | [] => none
  | x :: rest => if sectionBad img before x then some x.num else firstBad img (before ++ [x]) rest

/-- Step 3: the number of the section at fault; 0 where the table itself breaks a rule or a section is missing. -/
def sectionsBad (img : Bytes) : Option Nat :=
  if imgCount img = 0 ∨ 32 < imgCount img ∨ leAt img 28 4 ≠ 128 ∨ imgTotal img < 128 + 16 * imgCount img then some 0
  else
    match firstBad img [] (imgSections img) with
    | some n => some n
    | none =>
      let has (t : Nat) : Bool := (imgFind img t).isSome
      if (imgKind img = 1 ∧ ! has 1) ∨ ! has 2 ∨ ! has 3 ∨ (imgSigned img ∧ ! has 0x7F) then some 0 else none

/-- Step 4: the first section whose CRC fails; that of SIGNATURE is not checked. -/
def crcBad (img : Bytes) : Option Nat :=
  ((imgSections img).find? (fun x => x.type ≠ 0x7F ∧ crc32c (slice img x.off x.len) ≠ x.crc)).map (·.num)

/-- The OTP key slot that the image's key matches, 1 or 2, if it is not revoked (step 6). The hash is taken over the
97 bytes of the SEC1 form (DEDUCED, log 15). -/
def keySlot (otp : Otp) (img : Bytes) : Option Nat :=
  let h := sha384 ((imgBytes img 0x7F).take 97)
  if h = otp.keyHash0 then (if bitAt otp.revoked 0 then none else some 1)
  else if h = otp.keyHash1 then (if bitAt otp.revoked 1 then none else some 2)
  else none

/-- Step 7 (R507). -/
def signatureBad (img : Bytes) : Bool :=
  match imgFind img 0x7F with
  | none => false
  | some x =>
    let sig := slice img x.off x.len
    ! ecdsaOk (sig.take 97) (img.take x.off) (fromBe (slice sig 104 48)) (fromBe (slice sig 152 48))

/-! ### Step 8: objects -/

/-- Whether the object is one that an image's records may name (R503): the owner may write it in AFLOAT, and it is not of
access wo. ROLE is read-only to every path, and the image sets it (R460; DEDUCED, log 15). -/
def State.recordable (s : State) (i sub : Nat) (o : Obj) : Bool :=
  (decide (o.acc = .rw ∨ o.acc = .w1c) || decide (0x5100 ≤ i ∧ i ≤ 0x510B ∧ sub = 0x20))
    && ! (decide (0x1000 ≤ i) && decide (i ≤ 0x209F)) && ! objAbsent i sub && (decide (i ≠ 0x2441) || s.pins.testMode)

/-- Whether a record breaks step 8, under the store as the records before it leave it. -/
def State.recordBad (s : State) (look : Nat → Nat) (r : Rec) : Bool :=
  match objInfo r.index r.sub with
  | none => true
  | some o =>
    r.short || ! s.recordable r.index r.sub o
      || (if r.index = 0x2411 then (policyRefused 0 r.data).isSome
          else if 0x4200 ≤ r.index ∧ r.index ≤ 0x422F ∧ r.sub = 1 then decide (r.data.length ≠ 2048) || (shapersRefused 0 r.data).isSome
          else match o.coerce r.data with
            | none => true
            | some v =>
              if 0x5100 ≤ r.index ∧ r.index ≤ 0x510B ∧ r.sub = 0x20 then decide (2 < v)
              else ! s.rangeOk look r.index r.sub o v)

/-- The running store under the records judged so far. -/
def State.under (s : State) (recs : SMap Nat) (k : Nat) : Nat :=
  match sfind recs k with
  | some v => v
  | none => s.kv k

/-- The records of an image judged in order: the first bad one, or the values they set. -/
def State.judgeRecords (s : State) (recs : SMap Nat) : List Rec → Except (Nat × Nat) (SMap Nat)
  | [] => .ok recs
  | r :: rest =>
    if s.recordBad (s.under recs) r then .error (8, r.index * 256 + r.sub)
    else
      let recs := match (objInfo r.index r.sub).bind (fun o => o.coerce r.data) with
        | some v => sins recs (shownKey (s.under recs) r.index r.sub) v
        | none => recs
      s.judgeRecords recs rest

/-! ### Steps 9 to 13 -/

/-- NIs that send and take SC3 packets: every NI but MP's. -/
def dataNis : List Nat := (List.range 48).filter (fun n => validNi n && decide (n ≠ 43))

/-- Step 9 (R328). -/
def windowsBad (look : Nat → Nat) : Option Nat :=
  dataNis.findSome? (fun n => (List.range 32).findSome? (fun w =>
    if windowRefused look n w (winAt look n w).2.2.2 then some (n * 256 + w) else none))

/-- Step 10 (R381). -/
def poolsBad (look : Nat → Nat) : Option Nat :=
  (List.range 24).findSome? (fun k => (poolsRefused look k).map (fun p => k * 256 + p))

/-- Step 11 (R215): NIs 43 and 44 and those of DM0 to DM7 are no members. -/
def groupsBad (t : Tables) : Option Nat :=
  (List.range 64).find? (fun g =>
    let v := sget 0 t.groups g
    decide (field v 63 62 ≠ 0) && ([43, 44] ++ (List.range 8).map niOfDm).any (fun n => bitAt v n))

/-- Routers that a path of R201 brings a packet for d through, after n more hops; `xs` is the source column. -/
def sc3Reach (d xs : Nat) : Nat → Nat → Nat
  | 0, m => m
  | n + 1, m =>
    sc3Reach d xs n ((bitsOf 48 m).foldl (fun m r =>
      if r = d then m else (oddEven r d (xOf r = xs)).foldl (fun m o => setBitN m (neighbour r o)) m) m)

/-- Step 12 (R209): the first router and destination for which SC3_ALLOW leaves no candidate. -/
def turnsBad (t : Tables) : Option Nat :=
  let bad (d xs : Nat) : List Nat :=
    let start := maskOf (dataNis.filter (fun n => xOf n = xs ∧ n ≠ d))
    (bitsOf 48 (sc3Reach d xs 14 start)).filter (fun r =>
      decide (r ≠ d) && ! (oddEven r d (xOf r = xs)).any (fun o => bitAt (sget 0xF t.allow (48 * r + d)) o))
  let all := dataNis.flatMap (fun d => (List.range 8).flatMap (fun xs => (bad d xs).map (fun r => r * 256 + d)))
  all.foldl (fun m x => match m with
    | none => some x
    | some y => some (min x y)) none

/-- VALID pairs of a table: router, input port and word. -/
def validPairs (t : Tables) : List (Nat × Nat × Nat) :=
  (t.pairs.filter (fun e => bitAt e.2 63)).map (fun e => (e.1 / 40, e.1 % 40 / 8, e.2))

/-- The rectangle of a pair (R227). -/
def rectOf (v : Nat) : Nat := field v 59 48

/-- Routers that the XY, tree or compiled path of a window of NI n meets or ends at: those of the flow or circuit, the members of
a group, or the target of SC2 (a shortest path stays in the bounding box of its ends). An SC3 window has no such path. -/
def windowRouters (t : Tables) (n target attr : Nat) : List Nat :=
  let fa := target % 2 ^ 48
  if faSpace fa ≥ 2 then (List.range 48).filter (fun m => bitAt (sget 0 t.groups (faTarget fa)) m)
  else
    let v := if field attr 29 28 = 0 then sget 0 t.flows (field attr 9 0) else sget 0 t.circuits (field attr 9 0 % 64)
    let hops := if field attr 29 28 = 0 then pathHops n (flowPath v) (flowHops v) else pathHops n (circPath v) (circHops v)
    if field attr 29 28 ≤ 1 then hops.map (fun h => neighbour h.1 h.2) else if field attr 29 28 = 2 then [faTarget fa] else []

/-- Whether two pairs name a partition twice, or two partitions in one place: a key that both admit has one rectangle, and pairs
without a common key have rectangles that share no router (R222; DEDUCED, log 17). -/
def pairsClash (a b : Nat) : Bool :=
  if (field a 47 32 ^^^ field b 47 32) &&& field a 31 16 &&& field b 31 16 = 0 then decide (rectOf a ≠ rectOf b)
  else (List.range 48).any (fun r => inRect a r && inRect b r)

/-- Step 13 (R222), for a CONFINED image: router and input port of the first failure. -/
def partitionsBad (look : Nat → Nat) (t : Tables) : Option Nat :=
  if ! t.confined then none
  else
    let ps := validPairs t
    let shared := ps.find? (fun x => ps.any (fun y => pairsClash x.2.2 y.2.2))
    let outside := ps.find? (fun x => ! inRect x.2.2 x.1)
    let paths := dataNis.find? (fun n => (List.range 32).any (fun w =>
      let (_, _, target, attr) := winAt look n w
      let key := target / 2 ^ 48
      bitAt attr 31 && (match (List.range 8).findSome? (fun j =>
          let v := sget 0 t.pairs (40 * n + 32 + j)
          if bitAt v 63 ∧ key &&& field v 31 16 = field v 47 32 &&& field v 31 16 then some v else none) with
        | some v => (windowRouters t n target attr).any (fun r => ! inRect v r)
        | none => false)))
    match shared, outside, paths with
    | some x, _, _ => some (x.1 * 256 + x.2.1)
    | none, some x, _ => some (x.1 * 256 + x.2.1)
    | none, none, some n => some (n * 256 + 4)
    | none, none, none => none

/-! ### Step 15 -/

/-- The first bad command, or the command that a vector entry names beyond the last (R509). -/
def trapsBad (img : Bytes) : Option Nat :=
  match imgFind img 4 with
  | none => none
  | some x =>
    let b := slice img x.off x.len
    let cs := trapCmds b
    match (List.range cs.length).find? (fun j => cmdBad (some cs.length) (lget {} cs j)) with
    | some j => some j
    | none => ((trapVector b).find? (fun e => cs.length ≤ e.2)).map (·.2)

/-! ### The steps before the schedule checker -/

/-- Steps 1 to 7: code and detail of the first that refuses the image. -/
def State.stepsOne (s : State) (img : Bytes) (dev : DeviceState) : Option (Nat × Nat) :=
  if headerBad img then some (1, 0)
  else if kindBad img dev then some (2, devNum dev)
  else match sectionsBad img with
  | some n => some (3, n)
  | none => match crcBad img with
    | some n => some (4, n)
    | none =>
      if s.otp.sigRequired ∧ ! imgSigned img then some (5, 0)
      else if imgSigned img ∧ (keySlot s.otp img).isNone then some (6, 0)
      else if imgSigned img ∧ signatureBad img then some (7, 0)
      else none

/-- Steps 8 to 13. A HEAT image is judged under the running objects with its own ROUTING. -/
def State.stepsTwo (s : State) (img : Bytes) : Option (Nat × Nat) :=
  let t := imgTables img
  match s.judgeRecords [] (objRecords img.length (imgBytes img 1)) with
  | .error e => some e
  | .ok recs =>
    let look := s.under recs
    match windowsBad look, poolsBad look, groupsBad t, turnsBad t, partitionsBad look t with
    | some d, _, _, _, _ => some (9, d)
    | none, some d, _, _, _ => some (10, d)
    | none, none, some d, _, _ => some (11, d)
    | none, none, none, some d, _ => some (12, d)
    | none, none, none, none, some d => some (13, d)
    | none, none, none, none, none => none

end Sys2Proof.Machine
end

