-- ==== Sys2Proof/Machine/Strokes.lean ====
section
/-! DEFINITION. What happens at a stroke boundary: the next stroke or a step stroke begins (R119, R128), heat changes
(R137 to R143, R515), the ranking commit (R258), the start of LAUNCH (R512). -/

namespace Sys2Proof.Machine

/-- SC3 at one link output at the end of a stroke (R264): a stroke in which a HEAD of L4 or L5 waited with credit throughout
and never won counts as starved; then the next stroke is watched. -/
def State.starvation (s : State) (r p : Nat) : State :=
  let s := if (s.arb r p).waited.isEmpty then s else s.bump (0x3440 + r) (16 * p + 7)
  s.setArb r p { s.arb r p with waited := s.sc3Waits r p }

/-- The next stroke of network time. -/
def Cox.nextStroke (c : Cox) : Cox :=
  let n := c.seconds * 1500000 + c.stroke + 1
  { c.atStroke n with cycle := 0, strokeLen := 2048, inStep := false }

/-- SC0 stops at the holdover limit (R131); SC0 and SC1 stop for EASY (R588). -/
def State.stopsDue (s : State) : State :=
  let s := if s.cox.sc0StopDue then s.modCox (fun c => { c with sc0Stopped := true, sc0StopDue := false }) else s
  if s.cox.stopDue then (s.modCox (fun c => { c with running := false, stopDue := false })).easyStopped else s

/-- The tables that take effect on entry to LAUNCH are loaded into every router (R223, R227). -/
def State.launchTables (s : State) : State :=
  (List.range 48).foldl (fun s r => (s.obSet (0x3100 + r) 1 2).obSet (0x3100 + r) 2 0) s

/-- AUTO_START: Springhead arms START at the first stroke 0 that lies at least 100 ms ahead (R521). -/
def State.autoStart (s : State) : State :=
  if s.img.autoStart then
    let s := { s with img := { s.img with autoStart := false } }
    let s := ((s.obSet 0x2120 1 ((s.netStroke + 150000 + 1499999) / 1500000)).obSet 0x2120 2 0).obSet 0x2120 3 1
    if s.armRefused then s else s.arm
  else s

/-- Enters LAUNCH once the loader has finished (R512, R521). -/
def State.launchDue (s : State) : State :=
  if s.img.loaderDone ∧ s.dev = .moored then ((s.launchTables.enterLaunch).obSet 0x2602 6 (s.ob 0x2602 4)).autoStart else s

/-- Time runs to the boundary that ends the stroke under way, and the next stroke begins. -/
def State.boundary (s : State) : State :=
  if ¬ s.cox.pll then s
  else
    let s := { s with clk := { now := s.clk.now + (s.cox.strokeLen - s.cox.cycle), fab := s.clk.fab + (s.cox.strokeLen - s.cox.cycle) } }
    let s := allDirs.foldl (fun s q => s.starvation q.1 q.2) s
    let due := s.cox.pendStep
    let s := s.modCox Cox.nextStroke
    let s := match due with
      | some step => s.stepStroke step
      | none => s
    let s := (List.range 48).foldl (fun s n => if (s.ni n).sc0Done.isEmpty then s else s.modNi n (fun x => { x with sc0Done := [] })) s
    s.stopsDue.launchDue

/-- STROKE_BOUNDARY (R119). -/
def execStrokeBoundary (s : State) : Host.Outcome State Fault Refusal := done s s.boundary

/-- STEP_STROKE (R128): the boundary at which a step stroke begins. -/
def execStepStroke (s : State) : Host.Outcome State Fault Refusal := done s (if s.cox.pendStep.isSome then s.boundary else s)

/-! ### Heat changes -/

/-- Whether the armed change takes place now: at the first cycle of the stroke of its instant, or of the first stroke
after a step that passed it over (R140, R142): the one that ends a step stroke of another length than 2048 cycles, and the one
that begins a step stroke of 2048 cycles (DEDUCED, log 119). -/
def State.changeDue (s : State) (start : Bool) : Option Heat :=
  match s.cox.armed with
  | some h =>
    if h.start = start ∧ s.cox.pll ∧ s.cox.cycle = 0 ∧ h.at_ ≤ s.netStroke ∧ (¬ s.cox.inStep ∨ s.cox.strokeLen = 2048) then some h else none
  | none => none

/-- The change is disarmed with its result and timestamp (R140); LATE when its instant was passed over (R142). -/
def State.changed (s : State) (h : Heat) : State :=
  let late : Bool := decide (h.at_ < s.netStroke)
  let s := (s.modCox (fun c => { c with armed := none })).obSet 0x2120 7 s.stamp
  if late then (s.obSet 0x2120 8 2).bump 0x2111 0xA else s.obSet 0x2120 8 1

/-- The change does not take place in UNANCHORED when it asks for an anchor (R141). -/
def State.missedAnchor (s : State) : State := (s.disarm (some 3)).bump 0x2111 0xB

/-- One job that its heat no longer carries: a non-posted request completes with RETRY_LATER, a posted write is dropped
and counted (R248, R256). -/
def State.dropJob (s : State) (n sub : Nat) (j : Job) : State :=
  let s := if opKind j.pkt.hdr.opcode = .nonPosted then s else s.bump 0x3493 sub
  s.fail n j 0xA

/-- Packets queued at an NI, or held at its write buffer, for flows and circuits that the new tables do not define with the same SRC and DST (R256; for
SC0 flows DEDUCED, log 19). `now` tells whether a compiled schedule runs after the change. -/
def State.dropStale (s : State) (old new : Tables) (now : Bool) (n : Nat) : State :=
  let x := s.ni n
  let keepC (j : Job) : Bool :=
    let a := sget 0 old.circuits j.pkt.hdr.flow
    let b := sget 0 new.circuits j.pkt.hdr.flow
    now && circDefined b && decide (circSrc a = circSrc b ∧ circDst a = circDst b ∧ circMcast a = circMcast b)
  let keepF (j : Job) : Bool :=
    let a := sget 0 old.flows j.pkt.hdr.flow
    let b := sget 0 new.flows j.pkt.hdr.flow
    now && decide (flowType b ≠ 0) && decide (flowSrc a = flowSrc b ∧ flowDst a = flowDst b ∧ flowMcast a = flowMcast b)
  let keep (j : Job) : Bool := if j.cls = 1 then keepC j else if j.cls = 0 then keepF j else true
  let s := s.setNi n { x with circ := x.circ.filter keep, sc0 := x.sc0.filter keep, held := x.held.filter keep, openWin := [], burst := [] }
  (x.circ ++ x.sc0 ++ x.held).foldl (fun s j => if keep j then s else s.dropJob n (if j.cls = 1 then 3 else 2) j) s

/-- The staged tables become active on this stroke (R140, R515). -/
def State.switchTables (s : State) : State :=
  let old := s.fabric.act
  let new := match s.img.shadow with
    | some t => t
    | none => old
  let s := { s with fabric := { s.fabric with act := new } }
  let s := (List.range 48).foldl (fun s n => s.dropStale old new true n) s
  let s := ((s.obSet 0x2602 7 (s.ob 0x2602 4)).bump 0x2120 6).bump 0x2111 9
  let s := (List.range 48).foldl (fun s r => s.obSet (0x3100 + r) 2 (s.ob 0x2120 6)) s
  s.emptyStaging

/-- HEAT_CHANGE_START (R137, R140, R141, R47). -/
def execHeatChangeStart (s : State) : Host.Outcome State Fault Refusal :=
  done s (
    match s.changeDue true with
    | none => s
    | some h =>
      if s.ob 0x2120 5 = 1 ∧ s.cox.state = .unanchored then s.missedAnchor
      else
        let s := ((s.changed h).switchTables).modCox (fun c => { c with running := true })
        if s.dev = .launch then s.enterAfloat else s)

/-- HEAT_CHANGE_END (R137, R141, R588): SC0 and SC1 stop. -/
def execHeatChangeEnd (s : State) : Host.Outcome State Fault Refusal :=
  done s (
    match s.changeDue false with
    | none => s
    | some h =>
      if s.ob 0x2120 5 = 1 ∧ s.cox.state = .unanchored then s.missedAnchor
      else
        let s := (s.changed h).modCox (fun c => { c with running := false })
        let t := s.fabric.act
        ((List.range 48).foldl (fun s n => s.dropStale t t false n) s).easyStopped)

/-! ### The ranking commit -/

/-- COMMIT_APPLY (R258, R265): at a boundary, every shadow value becomes active at every stroke point; a cluster in OFF, WAKING
or RETAIN takes its copy on its return to ON. -/
def execCommitApply (s : State) : Host.Outcome State Fault Refusal :=
  done s (
    if s.ob 0x34F0 2 = 0 ∨ s.cox.cycle ≠ 0 then s
    else
      let s := (s.obSet 0x3400 1 (s.ob 0x3400 2)).obSet 0x3401 1 (s.ob 0x3401 2)
      let s := allDirs.foldl (fun s q => s.obSet (0x3410 + q.1) (q.2 + 1) (s.ob (0x3410 + q.1) (q.2 + 0x11))) s
      let up := (List.range 24).filter (fun k => s.answers (16 + k))
      let rank := s.ob 0x3401 1
      let s := { s with fabric := { s.fabric with clusRank := up.foldl (fun m k => sput 0x07246108 m k rank) s.fabric.clusRank } }
      ((s.obSet 0x34F0 2 0).bump 0x34F0 3).obSet 0x34F0 4 s.stamp)

end Sys2Proof.Machine
end

