-- ==== Sys2Proof/Machine/Steward.lean ====
section
/-! DEFINITION. The Steward: telemetry samples, its five loops, its decisions and their log (chapter 15, R432). -/

namespace Sys2Proof.Machine

def State.modStw (s : State) (f : Steward → Steward) : State := { s with stw := f s.stw }

/-- Domains whose objects answer, for an index of the Steward's writes (R55). -/
def State.objAnswers (s : State) (i sub : Nat) : Bool :=
  let d := objDom i sub
  decide (d = 0) || s.answers d

/-! ### Telemetry (R601) -/

/-- The queue that a source code writes to: the lowest-numbered one that selects it. -/
def State.queueOf (s : State) (code : Nat) : Option Nat :=
  ((List.range 8).map (8 + ·)).find? (fun i => field (s.ob (0x4E00 + i) 9) 7 0 = code)

/-- Loop that a source code feeds; 0 where it feeds none. -/
def loopOf (code : Nat) : Nat := lget 0 [0, 1, 1, 2, 3, 4, 5] code

/-- MODE of a loop (R603). -/
def State.mode (s : State) (loop : Nat) : Nat := s.ob (0x2500 + loop) 1

/-- Percentage of the last period's BUF cycles that cluster k's port granted; a fraction goes to a neighbouring integer,
and a free bit says which. A stroke has 4096 / 3 BUF cycles. -/
def State.loadOf (s : State) (k : Nat) : Nat × State :=
  let a := 300 * ((s.clu k).granted - sget 0 s.stw.grants k)
  let b := 4096 * max 1 (s.ob 0x2504 2)
  if a % b = 0 then (min 100 (a / b), s)
  else
    let (up, s) := s.drawBit
    (min 100 (a / b + b2n up), s)

/-- Items of a source at its sampling instant: KIND and DATA. -/
def State.sampleOf (s : State) (code : Nat) (sensors : List Int) : List (Nat × Nat) × State :=
  match code with
  | 1 | 2 =>
    ((allDirs.filter (fun q => decide (24 * (code - 1) ≤ q.1 ∧ q.1 < 24 * code))).flatMap (fun q => [0, 1].map (fun l =>
      (0x40, q.1 <<< 42 ||| q.2 <<< 40 ||| l <<< 39 ||| s.ob (0x3100 + q.1) (0x90 + 2 * q.2 + l)))), s)
  | 3 =>
    let now (q : Nat × Nat) : Nat := s.ob (0x3000 + q.1) (16 * q.2 + 2)
    (allDirs.map (fun q => (0x41, q.1 <<< 42 ||| q.2 <<< 40 ||| (now q - sget 0 s.stw.corrected (4 * q.1 + q.2)))),
     s.modStw (fun w => { w with corrected := allDirs.foldl (fun m q => sput 0 m (4 * q.1 + q.2) (now q)) w.corrected }))
  | 4 => ((List.range 8).map (fun j => (0x42, j <<< 45 ||| toTwos 16 (lget 0 sensors j))), s)
  | 5 =>
    let (l, s) := (List.range 24).foldl (fun (acc : List (Nat × Nat) × State) k =>
      let (p, t) := acc.2.loadOf k
      (acc.1 ++ [(0x43, k <<< 43 ||| p)], t)) ([], s)
    (l, s.modStw (fun w => { w with grants := (List.range 24).foldl (fun m k => sput 0 m k (s.clu k).granted) w.grants }))
  | 6 =>
    ((List.range 32).map (fun j =>
      (0x44, (16 + j) <<< 42 ||| min 0xFFFFFFFF ((s.clk.fab - sget 0 s.stw.busyAt (16 + j)) / 2048))), s)
  | _ => ([], s)

/-- Writes a sample's items. -/
def State.writeSample (s : State) (i : Nat) (items : List Nat) : State :=
  items.foldl (fun s v => s.eqWrite i (v / 2 ^ 48) (v % 2 ^ 48)) s

/-- Readings of the thermal sensors: pin positions 16 to 23 are asserted by those of the part's maximum Tj plus 10 °C or more
(R539, R640). -/
def State.readSensors (s : State) (sensors : List Int) : State :=
  (List.range 8).foldl (fun s j =>
    if lget 0 sensors j ≥ s.otp.maxTj + 160 then s.latchPin (16 + j)
    else s.modFlt (fun f => { f with pinRaw := without f.pinRaw (16 + j) })) s

/-- TELEMETRY_SAMPLE (R432, R601): at a sampling instant, or in the stroke after a slip. `busy` tells that the source block
serves foreground traffic; `sensors` are the readings of the thermal sensors. A loop in MODE OFF samples nothing (R603). -/
def execTelemetrySample (i : Fin 16) (busy : Bool) (sensors : List Int) (s : State) : Host.Outcome State Fault Refusal :=
  let i := i.val
  let code := field (s.ob (0x4E00 + i) 9) 7 0
  done s (
    match (s.evq i).slipped with
    | some items =>
      let s := s.setEvq i { s.evq i with slipped := none }
      if busy then
        let q := s.evq i
        ((s.bump (0x4E00 + i) 0xB).eqLose i items.length).setEvq i { q with seq := (q.seq + items.length) % 256 }
      else s.writeSample i items
    | none =>
      let s := if code = 4 then s.readSensors sensors else s
      if i < 8 ∨ code = 0 ∨ ¬ s.stw.running ∨ s.queueOf code ≠ some i ∨ s.mode (loopOf code) = 0 then s
      else
        let (items, s) := s.sampleOf code sensors
        let vs := items.map (fun x => x.1 <<< 48 ||| x.2)
        if busy then (s.bump (0x4E00 + i) 0xB).setEvq i { s.evq i with slipped := some vs } else s.writeSample i vs)

/-! ### Reading the samples -/

/-- Takes every item that the Steward can read from a queue. -/
def State.takeItems (s : State) (i : Nat) : Nat → List Nat × State
  | 0 => ([], s)
  | n + 1 =>
    match s.eqPop i with
    | (none, s) => ([], s)
    | (some v, s) =>
      let (l, s) := s.takeItems i n
      (v :: l, s)

/-- Takes in one item: the last value for its router and port, sensor, cluster or domain. -/
def State.takeIn (s : State) (v : Nat) : State :=
  let k := field v 62 56
  let r := field v 47 42
  let p := field v 41 40
  if k = 0x40 then s.modStw (fun w => { w with qd := sput 0 w.qd (8 * r + 2 * p + field v 39 39) (field v 15 0) })
  else if k = 0x41 then s.modStw (fun w => { w with inc := sput 0 w.inc (4 * r + p) (field v 31 0) })
  else if k = 0x42 then s.obSet 0x2503 (8 + field v 47 45) (field v 15 0)
  else if k = 0x43 then s.modStw (fun w => { w with load := sput 0 w.load (field v 47 43) (field v 6 0) })
  else if k = 0x44 then s.modStw (fun w => { w with idle := sput 0 w.idle (field v 47 42) (field v 31 0) })
  else s

/-- Source codes of a loop. -/
def loopCodes (loop : Nat) : List Nat := if loop = 1 then [1, 2] else [loop + 1]

/-- Whether a loop has lost its input (R602): a source of it lies in no queue, or the queue it writes to has READER 1. -/
def State.inputLost (s : State) (loop : Nat) : Bool :=
  (loopCodes loop).any (fun c =>
    match s.queueOf c with
    | some i => s.dictReads i
    | none => true)

/-- The end of a loop's sample: its items taken in; `none` when the loop does not evaluate (R602, R603). -/
def State.loopInput (s : State) (loop : Nat) : State × Bool :=
  if ¬ s.stw.running ∨ s.mode loop = 0 then (s, false)
  else
    let lost := s.inputLost loop
    let s := s.obSet 0x2500 4 (if lost then setBitN (s.ob 0x2500 4) (loop - 1) else clrBitN (s.ob 0x2500 4) (loop - 1))
    if lost then (s, false)
    else
      ((loopCodes loop).foldl (fun s c =>
        match s.queueOf c with
        | some i =>
          let (l, s) := s.takeItems i 600
          l.foldl State.takeIn s
        | none => s) s, true)

/-! ### Decisions -/

/-- Adds an entry to the decision log (R610). -/
def State.logDecision (s : State) (loop action i sub old new metric : Nat) : State :=
  let d : Decision := { time := s.stamp, loop := loop, action := action, index := i, sub := sub, old := old % 65536,
                        new := new % 65536, metric := min 65535 metric }
  (s.bump 0x2500 6).modStw (fun w => { w with log := sins w.log w.next d, next := (w.next + 1) % 64 })

/-- Bytes of a log entry. -/
def Decision.bytes (d : Decision) : Bytes :=
  leBytes d.time 6 ++ leBytes (16 * d.loop + d.action) 1 ++ leBytes d.sub 1 ++ leBytes d.index 2 ++ leBytes d.old 2
    ++ leBytes d.new 2 ++ leBytes d.metric 2

/-- Notes an owner's write to an object that the Steward writes too (R608). -/
def State.ownerWrote (s : State) (i sub : Nat) : State :=
  s.modStw (fun w => { w with ownerAt := sins w.ownerAt (okey i sub) (s.clk.fab, false) })

/-- Whether OWNER_HOLD holds for an object, and whether a decision was already withheld in it (R608). -/
def State.ownerHold (s : State) (i sub : Nat) : Option Bool :=
  match sfind s.stw.ownerAt (okey i sub) with
  | some (t, w) => if s.clk.fab < t + 2048 * s.ob 0x2500 3 then some w else none
  | none => none

/-- A decision of a loop to write an object: advised, frozen, withheld, refused or written (R598, R603, R607, R608, R614).
`write` tells whether the write took place; the matrix grants it as an access of the dictionary engine (R599). -/
def State.decide_ (s : State) (loop i sub new metric : Nat) (write : State → State × Bool) : State :=
  let old := s.ob i sub
  if loop ≠ 3 ∧ (s.stw.warmup ∨ s.dev = .easy) then s
  else if s.mode loop = 1 then s.logDecision loop 0 i sub old new metric
  else if s.ob 0x2500 2 = 1 then s.logDecision loop 4 i sub old new metric
  else
    match s.ownerHold i sub with
    | some true => s
    | some false =>
      (s.logDecision loop 3 i sub old new metric).modStw (fun w =>
        { w with ownerAt := (sfind w.ownerAt (okey i sub)).elim w.ownerAt (fun x => sins w.ownerAt (okey i sub) (x.1, true)) })
    | none =>
      if ! s.objAnswers i sub then s.logDecision loop 2 i sub old new metric
      else match write (s.matrixAsk 1 (matrixTarget i) true 0 (((objInfo i sub).map (fun o => tySize o.ty)).getD 0)) with
        | (t, true) => t.logDecision loop 1 i sub old new metric
        | (t, false) => t.logDecision loop 2 i sub old new metric

/-! ### The loops -/

/-- WARMUP_END (R598). -/
def execWarmupEnd (s : State) : Host.Outcome State Fault Refusal := done s (s.modStw (fun w => { w with warmup := false }))

/-- ADAPT for one output and lane (R604). -/
def State.adaptOne (s : State) (r p l : Nat) : State :=
  let k := 8 * r + 2 * p + l
  let la := sget 0 s.stw.la k
  let la := la + ((sget 0 s.stw.qd k : Nat) - la) / (2 ^ s.ob 0x2501 5 : Nat)
  let s := s.modStw (fun w => { w with la := sput 0 w.la k la })
  let target := min (s.ob 0x2501 4) (la - (s.ob 0x2501 3 : Nat)).toNat
  let now := s.ob (0x3100 + r) (0x88 + 2 * p + l)
  if (max target now) - (min target now) < 16 then s
  else s.decide_ 1 (0x3100 + r) (0x88 + 2 * p + l) target la.toNat (fun s => (s.putLate (0x3100 + r) (0x88 + 2 * p + l) target s.nextSlot, true))

/-- ADAPT_SAMPLE (R604). -/
def execAdaptSample (s : State) : Host.Outcome State Fault Refusal :=
  done s (
    match s.loopInput 1 with
    | (s, false) => s
    | (s, true) => allDirs.foldl (fun s q => (s.adaptOne q.1 q.2 0).adaptOne q.1 q.2 1) s)

/-- LINK for the link whose receiving end is port p of router r: the planned retrain goes to its sending side (R604). -/
def State.linkOne (s : State) (r p : Nat) : State :=
  let k := 4 * r + p
  let inc := sget 0 s.stw.inc k
  let hits := if inc ≥ s.ob 0x2502 3 then sget 0 s.stw.hits k + 1 else 0
  let hold := sget 0 s.stw.holdoff k - 1
  let s := s.modStw (fun w => { w with hits := sput 0 w.hits k hits, holdoff := sput 0 w.holdoff k hold })
  if hits < s.ob 0x2502 4 ∨ hold > 0 ∨ s.stw.warmup then s
  else
    let q := neighbour r p
    let o := opposite p
    let s := s.modStw (fun w => { w with holdoff := sput 0 w.holdoff k (s.ob 0x2502 5) })
    let asked : Bool := decide (s.mode 2 = 2 ∧ s.ob 0x2500 2 = 0) && decide (s.ownerHold (0x3000 + q) (16 * o + 15) = none) && decide (s.dev ≠ .easy)
      && s.objAnswers (0x3000 + q) (16 * o + 15)
    let s := s.decide_ 2 (0x3000 + q) (16 * o + 15) 1 inc (fun s => if s.hasWindow q o then (s.plannedRetrain q o, true) else (s, false))
    if ! asked then s else if s.hasWindow q o then s.bump 0x2502 6 else s.bump 0x2502 7

/-- LINK_SAMPLE (R604, R612). -/
def execLinkSample (s : State) : Host.Outcome State Fault Refusal :=
  done s (
    match s.loopInput 2 with
    | (s, false) => s
    | (s, true) => allDirs.foldl (fun s q => s.linkOne q.1 q.2) s)

/-- Reading of a sensor. -/
def State.sensor (s : State) (j : Nat) : Int := ofTwos 16 (s.ob 0x2503 (8 + j))
/-- The hottest sensor: the lowest-numbered of those with the highest reading. -/
def State.hottest (s : State) : Nat :=
  (List.range 8).foldl (fun a j => if s.sensor j > s.sensor a then j else a) 0

/-- Sets LEVEL (R605): leaving 0 counts and raises THERMAL_CAP. -/
def State.setLevel (s : State) (level : Nat) : State :=
  let was := s.ob 0x2503 5
  let s := s.obSet 0x2503 5 level
  if was = 0 ∧ level ≠ 0 then
    (s.bump 0x2503 7).raise 0x0E01 1 0x45 s.hottest (toTwos 48 (s.sensor s.hottest))
  else s

/-- THERMAL_SAMPLE (R605), during WARMUP and in EASY as well. -/
def execThermalSample (s : State) : Host.Outcome State Fault Refusal :=
  done s (
    match s.loopInput 3 with
    | (s, false) => s
    | (s, true) =>
      let m := s.sensor s.hottest
      let s := s.obSet 0x2503 6 (toTwos 16 m)
      let on := ofTwos 16 (s.ob 0x2503 3)
      let level := s.ob 0x2503 5
      let new := if m ≥ on then min 8 (level + 1) else if m ≤ on - (s.ob 0x2503 4 : Nat) then level - 1 else level
      if new = level then s else s.decide_ 3 0x2503 5 new (toTwos 16 m) (fun s => (s.setLevel new, true)))

/-- SCRUB for cluster k (R604); a rise of SCRUB_SLIPPED is logged by how much (log 78). -/
def State.scrubOne (s : State) (k : Nat) : State :=
  let load := sget 0 s.stw.load k
  let slipped := s.ob (0x4800 + k) 7
  let rise := slipped - sget 0 s.stw.slippedSeen k
  let s := s.modStw (fun w => { w with slippedSeen := sput 0 w.slippedSeen k slipped })
  let write (v metric : Nat) (s : State) : State := s.decide_ 4 (0x4800 + k) 3 v metric (fun s => (s.obSet (0x4800 + k) 3 v, true))
  if load > s.ob 0x2504 4 then write (s.ob 0x2504 6) load s
  else if 0 < rise then write (s.ob 0x2504 6) rise s
  else if load < s.ob 0x2504 3 then write (s.ob 0x2504 5) load s
  else s

/-- SCRUB_SAMPLE (R604). -/
def execScrubSample (s : State) : Host.Outcome State Fault Refusal :=
  done s (
    match s.loopInput 4 with
    | (s, false) => s
    | (s, true) => (List.range 24).foldl (fun s k => s.scrubOne k) s)

/-- The POWER_TARGET that IDLE writes for a domain (R604). -/
def idleTarget (d : Nat) : Nat := if d < 40 then 2 else 0

/-- IDLE for domain d (R604, R613); in WARMUP nothing but THERMAL acts (R598). -/
def State.idleOne (s : State) (d : Nat) : State :=
  let cfg := s.ob (domIdx d) 3
  let idle := sget 0 s.stw.idle d
  if s.stw.warmup ∨ s.domain d ≠ .on ∨ ! bitAt cfg 30 ∨ s.holds d ∨ idle < s.ob 0x2505 3 then s
  else if ! bitAt cfg 31 then s.bump 0x2505 5
  else
    let v := idleTarget d
    let s := s.decide_ 5 (domIdx d) 2 v idle (fun s => if (s.targetRefused d v).isSome then (s.bump 0x2200 4, false) else (s.setTarget d v, true))
    if s.domain d = .fencing then s.bump 0x2505 4 else s

/-- The write of POWER_TARGET by the Steward, which only IDLE makes: for one domain, on what the last sample holds (R597 to R600, R602 to R604,
R607, R608). Any other value, and any other domain, it never writes. -/
def State.stewardTarget (s : State) (d v : Nat) : State :=
  if d < 16 ∨ 48 ≤ d ∨ v ≠ idleTarget d ∨ ! s.stw.running ∨ s.mode 5 = 0 ∨ s.inputLost 5 then s else s.idleOne d

/-- IDLE_SAMPLE (R604). -/
def execIdleSample (s : State) : Host.Outcome State Fault Refusal :=
  done s (
    match s.loopInput 5 with
    | (s, false) => s
    | (s, true) => ((List.range 32).map (16 + ·)).foldl (fun s d => s.idleOne d) s)

end Sys2Proof.Machine
end

