-- ==== Sys2Proof/Machine/Views.lean ====
section
/-! DEFINITION. What a read of an object returns: the stored value, or the block's own state that the object shows
(chapters 02 to 16, the object tables). -/

namespace Sys2Proof.Machine

/-- A text as the bytes of a VISIBLE_STRING. -/
def textBytes (s : String) : Bytes := s.toList.map (fun c => BitVec.ofNat 8 c.toNat)

/-- The part's name (0x2002:02). -/
def State.partName (s : State) : Bytes := textBytes (if s.otp.partCode = 2 then "FV9648-AI" else "FV9648-AC")

/-! ### State numbers -/

def coxNum : CoxState → Nat
  | .unanchored => 0 | .anchored => 1 | .holdover => 2
def domainNum : DomainState → Nat
  | .off => 0 | .waking => 1 | .on => 2 | .fencing => 3 | .draining => 4 | .retain => 5
def imageNum : ImageState → Nat
  | .empty => 0 | .loadingFlash => 1 | .validating => 2 | .validated => 3 | .loading => 4 | .staged => 5
def jtagNum : JtagState → Nat
  | .locked => 0 | .challenged => 1 | .unlocked => 2 | .lockedOut => 3
def springNum : SpringState → Nat
  | .idle => 0 | .boot => 1 | .trap => 2
def flashNum : FlashState → Nat
  | .absent => 0 | .ready => 1 | .busy => 2 | .error => 3
def injectNum : InjectState → Nat
  | .idle => 0 | .armed => 1 | .done => 2
def outNum : OutState → Nat
  | .live => 0 | .holding => 1 | .fallenBack => 2
def stageNum : EasyStage → Nat
  | .none => 0 | .stopping => 1 | .draining => 2 | .releasing => 3

/-! ### Numbers -/

/-- Network time as a path reads it: the instant that the path latched, or the present one (R123). -/
def State.latched (s : State) (who : Who) : Nat × Nat :=
  match who with
  | .path p => (sfind s.dict.latch (pathNum p)).getD (s.nanos, s.cox.stroke)
  | _ => (s.nanos, s.cox.stroke)

/-- 0x2000 to 0x208F. -/
def State.view20 (s : State) (who : Who) (i sub : Nat) : Option Nat :=
  match i, sub with
  | 0x2000, 1 => some (devNum s.dev)
  | 0x2000, 2 => some (nmtNum s.can.nmt)
  | 0x2010, 1 => some s.ownerNum
  | 0x2010, 2 => some (match who, s.dict.owner with
    | .path p, some q => b2n (decide (p = q))
    | _, _ => 0)
  | 0x2011, 1 => some s.dict.queue.length
  | 0x2022, 2 => some (outNum s.can.outState)
  | 0x2080, 1 => some s.xferState
  | _, _ => none

/-- 0x2100 to 0x212F. -/
def State.view21 (s : State) (who : Who) (i sub : Nat) : Option Nat :=
  let c := s.cox
  match i, sub with
  | 0x2100, 1 => some (coxNum c.state)
  | 0x2100, 2 => some (32 * b2n s.sc0Runs + 16 * b2n c.pll + 8 * b2n c.reanchorNeeded + 4 * b2n c.limitHit + 2 * b2n c.slewing + b2n c.timeValid)
  | 0x2100, 4 => some (toTwos 32 c.fraction)
  | 0x2100, 5 => some (match c.holdStart with
    | some t => min 0xFFFFFFFF ((s.clk.fab - t) / 3072000)
    | none => 0)
  | 0x2101, 1 => some c.seconds
  | 0x2101, 2 => some (s.latched who).1
  | 0x2101, 3 => some (s.latched who).2
  | 0x2101, 4 => some s.stamp
  | 0x2120, 4 => some (b2n c.armed.isSome)
  | _, _ => none

/-- CLOCK_STATE in the order of R571. The PLL's domains run once it has locked, and a running clock whose pin of the pin
status word is asserted reads LOST (DEDUCED, log 20); TCK is outside the hub, so DBG is a free value. -/
def State.clock (s : State) (j : Nat) : Nat :=
  let on (d : Nat) : Bool := decide (s.domain d = DomainState.on)
  let any (l : List Nat) : Bool := l.any on
  let run (pin : Nat) (r : Bool) : Nat := if ! r then 0 else if s.flt.pinRaw.contains pin then 2 else 1
  match j with
  | 1 => b2n s.aon.xtal
  | 2 => b2n (on 1)
  | 3 => run 2 (on 1)
  | 4 => run 0 (on 2)
  | 5 => run 1 (on 2 && s.cox.pll)
  | 6 => run 1 (on 2 && s.cox.pll)
  | 7 => run 1 (on 2 && s.cox.pll)
  | 8 => run 1 (on 2 && s.cox.pll)
  | 9 => run 3 (on 48)
  | 10 => run 4 (on 49)
  | 11 => run 5 (on 2 && any [4, 5, 6, 7])
  | 12 => run 6 (on 2 && any [8, 9, 10, 11])
  | 13 => run 7 (on 2 && any [12, 13, 14, 15])
  | _ => b2n (Config.freeBit s.free)

/-- 0x2200 to 0x23FF. RST_N_RAW shows the unfiltered pin, which no command brings: a free bit tells whether it stands otherwise than
the filtered level (R582; DESIGN CHOICE, log 125). -/
def State.view22 (s : State) (i sub : Nat) : Option Nat :=
  if i = 0x2200 ∧ sub = 1 then some (maskOf ((List.range 50).filter (fun d => decide (s.domain d = DomainState.on))))
  else if i = 0x2200 ∧ sub = 3 then some (maskOf ((List.range 50).filter s.holds))
  else if 0x2210 ≤ i ∧ i ≤ 0x2241 ∧ sub = 1 then some (domainNum (s.domain (i - 0x2210)))
  else if i = 0x2280 ∧ 1 ≤ sub then some (s.clock sub)
  else match i, sub with
    | 0x2300, 3 => some (b2n s.pins.ejectOpen)
    | 0x2301, 3 => some (b2n (s.pins.rstLow != Config.freeBit s.free))
    | 0x2302, 2 => some (b2n s.aon.rstMasked)
    | 0x2303, 2 => some (stageNum s.pwr.stage)
    | _, _ => none

/-- 0x2400 to 0x244F. -/
def State.view24 (s : State) (i sub : Nat) : Option Nat :=
  let k := s.ob 0x2410 1
  let e := s.ob 0x2420 1
  match i, sub with
  | 0x2400, 1 => some s.faultSummary
  | 0x2400, 2 => some (s.uncleared.foldl (fun a x => max a x.msg.cls) 0)
  | 0x2410, 2 => some (s.policy k).reaction
  | 0x2410, 3 => some (s.policy k).grace
  | 0x2410, 4 => some (s.policy k).next
  | 0x2410, 5 => some (b2n (s.policy k).pin)
  | 0x2420, 2 => some (s.entryMsg e).low
  | 0x2420, 3 => some (s.entryMsg e).high
  | 0x2420, 4 => some (s.entryWord e)
  | 0x2420, 6 => some s.flt.list.length
  | 0x2428, 1 => some (maskOf (s.flt.pins.map (·.1)))
  | 0x2428, 2 => some (maskOf s.flt.pinRaw)
  | 0x2428, 3 => some (maskOf ((s.flt.pins.filter (fun x => decide (x.2.state = .raised))).map (·.1)))
  | 0x2430, 1 => some s.aon.retained.low
  | 0x2430, 2 => some s.aon.retained.high
  | 0x2440, 4 => some (injectNum s.flt.inject)
  | _, _ => none

/-- 0x2500 to 0x26FF. -/
def State.view25 (s : State) (i sub : Nat) : Option Nat :=
  match i, sub with
  | 0x2500, 1 => some (if ! s.stw.running then 0 else if s.stw.warmup then 1 else if s.ob 0x2500 2 = 1 then 3 else 2)
  | 0x2500, 5 => some (if s.stw.running && s.stw.warmup then 512 - (s.clk.fab - s.stw.warmStart) / 2048 else 0)
  | 0x2600, 1 => some (b2n s.boat.debug)
  | 0x2600, 2 => some (b2n s.boat.remap)
  | 0x2601, 1 => some (jtagNum s.boat.jtag)
  | 0x2602, 1 => some (imageNum s.img.state)
  | 0x2610, 1 => some (springNum s.boat.spring)
  | 0x2610, 2 => some s.boat.pc
  | 0x2610, 9 => some s.boat.trapQ.length
  | 0x2620, 1 => some (flashNum s.boat.flash.state)
  | _, _ => none

/-- 0x3000 to 0x34FF: what the running tables and the links show. -/
def State.view30 (s : State) (i sub : Nat) : Option Nat :=
  let t := s.fabric.act
  let r := i % 256
  if i / 256 = 0x30 then
    (if sub % 16 = 1 ∧ sub < 0x40 then some (linkNum (s.linkState r (sub / 16)))
     else if sub % 16 = 14 ∧ sub < 0x40 then some (sget 0xFFFFFFFF t.maintOffset (4 * r + sub / 16))
     else if sub = 0x41 then some t.maintPeriod else none)
  else if i / 256 = 0x31 then
    (if sub = 1 then some (s.ob i 1 / 2 % 2 * 2 + b2n t.confined)
     else if 0x10 ≤ sub ∧ sub < 0x40 then some (sget 0xF t.allow (48 * r + (sub - 0x10)))
     else if 0x40 ≤ sub ∧ sub < 0x68 then some (sget 0 t.pairs (40 * r + (sub - 0x40)))
     else if 0xC0 ≤ sub then some (sget 0 t.groups (sub - 0xC0)) else none)
  else match i, sub with
    | 0x3262, 1 => some (if s.cox.running then (t.flows.filter (fun f => decide (flowType f.2 ≠ 0))).length else 0)
    | 0x3262, 2 => some (if s.cox.running then (t.circuits.filter (fun f => circDefined f.2)).length else 0)
    | 0x3402, 1 => some t.guard
    | 0x3402, 2 => some t.l7slot
    | _, _ => none

/-- The occupied places of the calendar wheel, the shapers in it. -/
def State.view42 (s : State) (i sub : Nat) : Option Nat :=
  let n := i % 256
  let x := s.ni n
  if i / 256 = 0x42 then
    (if sub = 4 then some (sget 0 x.tokens (s.ob i 2) / 1024) else if sub = 5 then some x.wheel.length else none)
  else
    (if sub = 6 then some (b2n x.gates.enable) else if sub = 7 then some (b2n x.pendGates.isSome)
     else if sub = 10 then some (if x.gates.given then (x.gates.entries.map (fun e => field e 23 0)).sum else 0)
     else if 0x30 ≤ sub ∧ sub < 0x50 then some (lget 0xFF000008 x.gates.entries (sub - 0x30)) else none)

/-- Clusters. -/
def State.view48 (s : State) (i sub : Nat) : Option Nat :=
  let k := i % 256
  let c := s.clu k
  let e := c.log[s.ob i 0x15]?
  match sub with
  | 0x16 => some (e.elim 0 (fun x => x.place))
  | 0x17 => some (e.elim 0 (fun x => x.time))
  | 0x25 => some c.trackers.length
  | _ => if 0x38 ≤ sub ∧ sub < 0x40 then some (c.freeList (sub - 0x38)).length else none

/-- Engines and event queues. -/
def State.view4C (s : State) (i sub : Nat) : Option Nat :=
  let e := i % 256
  if i / 256 = 0x4C then
    (if sub = 5 then some (s.qStatus e (s.ob i 1)) else if sub = 0x13 then some (s.mbStatus e (s.ob i 0x10)) else none)
  else if sub = 3 then some (s.eqCount e) else if sub = 4 then some (s.eqFlags e) else none

/-- Bridges. -/
def State.viewBr (s : State) (i sub : Nat) : Option Nat :=
  let r := s.br (if i < 0x5100 then i - 0x5000 else i - 0x5100 + 2)
  match sub with
  | 1 => some (pcieNum r.state)
  | 2 => some r.speed
  | 3 => some r.width
  | 4 => some (b2n r.flit)
  | 0x23 => some (b2n r.perstOut)
  | _ => none

/-- What an object shows, when it is a view of a block's own state. -/
def State.view (s : State) (who : Who) (i sub : Nat) : Option Nat :=
  let h := i / 256
  if i = 0x1001 then some s.errorRegister
  else if h = 0x20 then s.view20 who i sub
  else if h = 0x21 then s.view21 who i sub
  else if h = 0x22 ∨ h = 0x23 then s.view22 i sub
  else if h = 0x24 then s.view24 i sub
  else if h = 0x25 ∨ h = 0x26 then s.view25 i sub
  else if 0x30 ≤ h ∧ h ≤ 0x34 then s.view30 i sub
  else if h = 0x42 ∨ h = 0x43 then s.view42 i sub
  else if h = 0x48 then s.view48 i sub
  else if h = 0x4C ∨ h = 0x4E then s.view4C i sub
  else if h = 0x50 ∨ h = 0x51 then s.viewBr i sub
  else none

/-- BAR4_SIZE_LOG2 of a PB that is not in endpoint role: a sub-index that does not apply to the bridge (R477). -/
def State.noAperture (s : State) (i sub : Nat) : Bool :=
  decide (i / 256 = 0x51 ∧ sub = 0xA ∧ s.ob i 0x20 ≠ 2)

/-- The number that an object reads as, without the effects of the read. A port that a router does not have reads 0,
and a domain that does not answer reads the default (R55, R187). -/
def State.peek (s : State) (who : Who) (i sub : Nat) : Nat :=
  if objAbsent i sub || s.noAperture i sub then 0
  else if ! s.objAnswers i sub then objDefault s.otp s.pins i sub
  else (s.view who i sub).getD (s.kv (shownKey s.kv i sub))

/-- The number that an object reads as, with the effects of the read: 0x2101:01 latches for the path (R123), and EQ_HEAD
takes its item (R430). -/
def State.readNum (s : State) (who : Who) (i sub : Nat) : Nat × State :=
  if (i = 0x2280 ∧ sub = 14) ∨ (i = 0x2301 ∧ sub = 3) then (s.peek who i sub, s.drawBit.2)
  else if i = 0x2101 ∧ sub = 1 ∧ s.objAnswers i sub then
    (s.peek who i sub, match who with
      | .path p => { s with dict := { s.dict with latch := sins s.dict.latch (pathNum p) (s.nanos, s.cox.stroke) } }
      | _ => s)
  else if i / 256 = 0x4E ∧ sub = 2 then
    (if s.objAnswers i sub then s.eqRead (i % 256) .dict8 else (idleItem, s))
  else if i / 256 = 0x4E ∧ (sub = 3 ∨ sub = 4) ∧ s.objAnswers i sub then
    (if sub = 3 then s.eqCountRead (i % 256) else s.eqFlagsRead (i % 256))
  else (s.peek who i sub, s)

/-! ### Bytes -/

/-- Words as bytes. -/
def wordsBytes (w : Nat) (l : List Nat) : Bytes := l.flatMap (fun v => leBytes v w)

/-- An entry of the fault list (0x2421). -/
def State.entryBytes (s : State) (e : Nat) : Bytes := (s.entryMsg e).bytes ++ leBytes (s.entryWord e) 4 ++ List.replicate 12 0

/-- Contents of a DOMAIN object or a VISIBLE_STRING. A domain that does not answer shows its default, all zeros. -/
def State.contents (s : State) (i sub : Nat) : Bytes :=
  let h := i / 256
  let l := i % 256
  let t : Tables := if s.objAnswers i sub then s.fabric.act else {}
  if i = 0x1008 then textBytes "FV9648"
  else if i = 0x1009 then textBytes "A1"
  else if i = 0x100A then s.otp.swVersion
  else if i = 0x2002 then s.partName
  else if i = 0x2411 then wordsBytes 8 (allKinds.map (fun k => (s.policy k).entry k))
  else if i = 0x2421 then (List.range 64).flatMap s.entryBytes
  else if i = 0x2422 then (List.range 256).flatMap (fun j => (sget {} s.flt.log j).bytes)
  else if i = 0x2520 then (List.range 64).flatMap (fun j => ((sfind s.stw.log j).map Decision.bytes).getD (List.replicate 16 0))
  else if i = 0x2601 then padTo 48 s.boat.challenge
  else if i = 0x2602 then s.img.buildId
  else if h = 0x32 ∧ l < 0x30 then wordsBytes 4 ((List.range 256).map (fun j => if objAbsent i sub then 0 else sget 0 t.linkTab ((4 * l + (sub - 1)) * 256 + j)))
  else if h = 0x32 ∧ l < 0x58 then wordsBytes 4 ((List.range 256).map (fun j => sget 0 t.clusTab (256 * (l - 0x40) + j)))
  else if i = 0x3260 then wordsBytes 16 ((List.range 1024).map (sget 0 t.flows))
  else if i = 0x3261 then wordsBytes 16 ((List.range 64).map (sget 0 t.circuits))
  else if h = 0x42 then wordsBytes 8 ((List.range 256).map (fun j => if s.objAnswers i sub then s.shaperEntry l j else 0))
  else []

/-- The current length of a DOMAIN or VISIBLE_STRING object (R90). A write-only one shows none: its slot is refused before
(log 96). -/
def State.contentsLen (s : State) (i sub : Nat) : Nat := (s.contents i sub).length

/-- The bytes that an upload of an object carries, with the effects of the read. -/
def State.readBytes (s : State) (who : Who) (i sub : Nat) : Bytes × State :=
  match objInfo i sub with
  | none => ([], s)
  | some o =>
    if tySize o.ty = 0 then (s.contents i sub, s)
    else
      let (v, s) := s.readNum who i sub
      (leBytes v (tySize o.ty), s)

end Sys2Proof.Machine
end

