-- ==== Sys2Proof/Machine/Judge.lean ====
section
/-! DEFINITION. Whether an access to an object is refused, and with which abort code: the checks of R645 in their
order, with the refusals that the chapters state at each. -/

namespace Sys2Proof.Machine

/-- A write as it is judged: who writes, the object, the data, the offset within a DOMAIN object, and whether it comes
through a BAR2 slot (R89, R90). -/
structure WriteReq where
  who : Who
  index : Nat
  sub : Nat
  data : Bytes
  off : Nat := 0
  slot : Bool := false
  deriving DecidableEq, Repr

/-- The number that the data of a write spell; for a slot the bytes beyond the object are ignored (R88). -/
def WriteReq.value (w : WriteReq) : Nat :=
  match objInfo w.index w.sub with
  | some o => if tySize o.ty = 0 then fromLe w.data else fromLe (w.data.take (tySize o.ty)) &&& o.keep
  | none => fromLe w.data

/-- A slot that shows a length (R90). The maximum length of a string is that of its value: SW_VERSION's is what the boot ROM
holds, and the others' are those of the tables. -/
def State.lengthSlot (s : State) (i : Nat) (o : Obj) : Bool :=
  match o.ty with
  | .domain => true
  | .str n => if i = 0x100A then decide (8 < s.otp.swVersion.length) else decide (8 < n)
  | _ => false

/-- Order 2: existence. -/
def absentCode (i sub : Nat) : Option Nat :=
  if ! indexExists i then some 0x06020000 else if (objInfo i sub).isNone then some 0x06090011 else none

/-- Objects that are read while no claim is held (R96). -/
def openIndex (i : Nat) : Bool :=
  decide (i = 0x1000 ∨ i = 0x1001 ∨ i = 0x1017 ∨ i = 0x1018 ∨ i = 0x2010 ∨ i = 0x2012) || (decide (0x1008 ≤ i) && decide (i ≤ 0x100A))
    || (decide (0x2000 ≤ i) && decide (i ≤ 0x200F))

/-- Indices whose objects R583 opens during a reset that RST_N holds. -/
def resetIndex (i : Nat) : Bool := decide (0x2300 ≤ i) && decide (i ≤ 0x2303)

/-- Whether a chip reset caused by RST_N lasts (R583). -/
def State.rstLasts (s : State) : Bool := decide (s.aon.resetting = some 1)

/-- Order 4 for a read. The rows of R63 concern the CAN path; its identity and status objects are those of R96
(DEDUCED, log 21). -/
def State.readBarred (s : State) (who : Who) (i : Nat) : Bool :=
  let muster : Bool := decide (s.dev = .muster) && ! (openIndex i || (s.rstLasts && resetIndex i))
  (match who with
   | .path p => (decide (s.dict.owner = none) && ! openIndex i) || (decide (p = Path.can) && muster)
   | _ => false)
    || decide (s.dev = .standby) || (decide (i = 0x2441) && ! s.pins.testMode)

/-- Order 4 for a write, ownership and the CAN path's services. -/
def State.ownerBarred (s : State) (w : WriteReq) : Bool :=
  let claim : Bool := decide (w.index = 0x2010 ∧ w.sub = 2)
  let own : Bool := match objInfo w.index w.sub with
    | some o => o.own
    | none => false
  match w.who with
  | .path p =>
    let can : Bool := decide (p = Path.can) &&
      ((decide (s.dev = .muster) && ! (s.rstLasts && (claim || resetIndex w.index))) || decide (s.dev = .halted))
    can || (match s.dict.owner with
      | none => ! claim
      | some q => decide (q ≠ p) && (own || claim))
  | _ => false

/-- Order 4 for a write, the refusals that the chapters state with 0x0800_0022. The image loader is exempt (R512). -/
def State.stateBarred (s : State) (w : WriteReq) : Bool :=
  let i := w.index
  let h := i / 256
  let v := w.value
  let moored : Bool := decide (s.dev = .muster ∨ s.dev = .moored)
  let running : Bool := decide (s.dev = .launch ∨ s.dev = .afloat)
  decide (s.dev = .standby)
    || (moored && ((decide (0x40 ≤ h) && decide (h ≤ 0x43)) || decide (h = 0x4C) || decide (h = 0x4E)))
    || (decide (i = 0x2441) && ! s.pins.testMode)
    || (decide ((0x1600 ≤ i ∧ i ≤ 0x1603) ∨ (0x1A00 ≤ i ∧ i ≤ 0x1A03)) && decide (s.can.nmt ≠ .preOperational))
    || (decide (0x2214 ≤ i ∧ i ≤ 0x2241 ∧ w.sub = 2) && decide (s.dev = .muster ∨ s.dev = .moored ∨ s.dev = .easy ∨ s.dev = .halted))
    || (decide (0x2210 ≤ i ∧ i ≤ 0x2241 ∧ w.sub = 4) && ! running)
    || (decide (i = 0x2303 ∧ w.sub = 1) && ! running)
    || (decide (i = 0x2420 ∧ w.sub = 5 ∧ v = 2) && s.clearRefused (s.ob 0x2420 1))
    || (decide (i = 0x2620 ∧ w.sub = 4) && decide (s.dev = .muster))
    || (decide (h = 0x30 ∧ w.sub % 16 = 15 ∧ v = 3) && decide (s.dev = .muster))
    || (decide ((h = 0x50 ∨ h = 0x51) ∧ w.sub = 0xC) && decide (s.dev = .muster))

/-- Order 5: the block's domain (R55), and an injection's target (R552). -/
def State.domainBarred (s : State) (w : WriteReq) : Bool :=
  ! s.objAnswers w.index w.sub
    || (decide (w.index = 0x2440 ∧ w.sub = 3 ∧ w.value = 1) && decide (s.armInjectRefused = some 0x08000021))

/-- DOMAIN objects that take a run of bytes of any length at any offset, and their lengths (R101: 0x2081 holds 2 MiB). -/
def domainRoom (i sub : Nat) : Option Nat :=
  if i = 0x2081 then some 2097152 else if i = 0x2601 ∧ sub = 3 then some 96 else none

/-- Orders 6 and 7 for a DOMAIN object: 0x2411 and SHAPER_TABLE take whole entries (R352, R555); a response is 96
bytes over an SDO, and a piece of them through a window. -/
def domainData (w : WriteReq) : Option Nat :=
  if w.index = 0x2411 then policyRefused w.off w.data
  else if w.index / 256 = 0x42 then shapersRefused w.off w.data
  else match domainRoom w.index w.sub with
    | some room =>
      if w.index = 0x2601 ∧ w.who = .path .can ∧ w.data.length ≠ 96 then some 0x06070010
      else if w.off + w.data.length > room then some 0x06090030 else none
    | none => some 0x06070010

/-- Orders 6 and 7: length, then range. -/
def State.dataRefused (s : State) (w : WriteReq) (o : Obj) : Option Nat :=
  if tySize o.ty = 0 then domainData w
  else if (if w.slot then decide (w.off ≠ 0 ∨ w.data.length < tySize o.ty) else decide (w.off ≠ 0 ∨ w.data.length ≠ tySize o.ty)) then some 0x06070010
  else if ! s.rangeOk s.kv w.index w.sub o w.value then some 0x06090030
  else none

/-! ### Order 8 -/

/-- Mapping entry of a PDO: the object may be mapped (R72), over its whole size and no part of it (DESIGN CHOICE, log 95). -/
def mappable (v : Nat) : Bool :=
  match objInfo (v / 65536) (v / 256 % 256) with
  | some o => o.map && decide (v % 256 = 8 * tySize o.ty)
  | none => false

/-- Refusals of a PDO's mapping (R72). The COB-ID is invalid while its mapping changes, and the entries change while
the count is 0. -/
def State.mapRefused (s : State) (i sub v : Nat) : Option Nat :=
  if ! bitAt (s.ob (i - 0x200) 1) 31 then some 0x06040043
  else if sub = 0 then
    let es := (List.range v).map (fun j => s.ob i (j + 1))
    if 8 < v then some 0x06040042
    else if ! es.all mappable then some 0x06040041
    else if 64 < (es.map (fun e => e % 256)).sum then some 0x06040042
    else none
  else if s.ob i 0 ≠ 0 then some 0x06040043
  else if ! mappable v then some 0x06040041
  else none

/-- Station of an active consumer entry; 0 for an inactive one (R79). -/
def hbStation (v : Nat) : Nat := if v % 65536 = 0 then 0 else field v 23 16

/-- Stations that the active consumer entries name. -/
def State.stations (s : State) : List Nat := ((List.range 8).map (fun j => hbStation (s.ob 0x1016 (j + 1)))).filter (fun n => n ≠ 0)

/-- Refusals of R95. -/
def State.guardRefused (s : State) (i sub v : Nat) : Bool :=
  if i = 0x1016 then
    let left := ((List.range 8).map (fun j => hbStation (if j + 1 = sub then v else s.ob 0x1016 (j + 1)))).filter (fun n => n ≠ 0)
    [s.ob 0x2022 3, s.ob 0x2010 4].any (fun n => decide (n ≠ 0) && s.stations.contains n && ! left.contains n)
  else decide (v ≠ 0) && ! s.stations.contains v

/-- RESULT of a refused write to XFER_CONTROL (R87, R508): BUSY, NOT_OPEN, BAD_FRAME for a length of 0, and NOT_OWNER on
a path that is no host's. -/
def State.xferRefused (s : State) (who : Who) (v : Nat) : Option Nat :=
  let host : Bool := match who with
    | .path p => decide (p ≠ Path.can)
    | _ => false
  if ! host then some 1
  else if v = 1 then (if s.xferState ≠ 0 then some 2 else if s.ob 0x2080 7 = 0 then some 4 else none)
  else if v = 2 then (if s.img.xfer ≠ .openHost then some 9 else none)
  else none

/-- Refusals of a window write (R328, R329): a write of WIN_ATTR is judged when it sets VALID, or the window is VALID. -/
def State.winRefused (s : State) (n sub v : Nat) : Bool :=
  let w := (sub - 1) / 4
  let valid := bitAt (s.ob (0x4000 + n) (4 * w + 4)) 31
  if sub > 0x80 then false
  else if sub % 4 ≠ 0 then valid
  else (valid || bitAt v 31) && windowRefused s.kv n w v

/-- Refusals of GATE_APPLY (R349). -/
def State.gateRefused (s : State) (n v : Nat) : Bool :=
  match (s.ni n).pendGates with
  | none => false
  | some (_, start) => decide (v = 1) || decide (start < s.netCount + 1500 * 2048)

/-- Refusals of a pool write (R381). -/
def State.poolBad (s : State) (k sub v : Nat) : Bool :=
  let idx := 0x4800 + k
  if sub = 8 then (List.range 8).any (fun p => poolEnabled (s.poolCfg k p))
  else if 0x30 ≤ sub ∧ sub < 0x38 then
    let p := sub - 0x30
    let old := s.poolCfg k p
    (poolEnabled old && poolEnabled v && decide (old ≠ v))
      || poolRefused (fun j => if j = p then v else s.poolCfg k j) (s.ob idx 8) p (fun _ => true)
  else false

/-- Refusals of a write to a queue or ring of an engine (R410, R433). -/
def State.engineBad (s : State) (e sub v : Nat) : Bool :=
  let q := s.ob (0x4C00 + e) 1
  let r := s.ob (0x4C00 + e) 0x10
  let qOn := bitAt (qConfig s e q) 31
  let st := (s.dq e q).state
  if sub = 2 ∨ sub = 3 then qOn
  else if sub = 4 then
    (qOn && decide (field v 27 24 ≠ qLog s e q)) || (qOn && ! bitAt v 31 && decide (st = .running ∨ st = .aborting ∨ st = .error))
  else if sub = 0x11 then bitAt (mbConfig s e r) 31
  else if sub = 0x12 then bitAt (mbConfig s e r) 31 && decide (field v 29 26 ≠ field (mbConfig s e r) 29 26)
  else false

/-- A flash write from staging is under way (R516). -/
def State.flashWriting (s : State) : Bool :=
  match s.boat.flash.op with
  | some o => ! o.erase
  | none => false

/-- Refusals of IMAGE_COMMAND (R511, R516, R525). -/
def State.imageRefused (s : State) (v : Nat) : Bool :=
  if v = 1 then decide (s.dev ≠ .moored) || decide (s.img.state ≠ .validated) || decide (s.ob 0x2602 3 ≠ 1)
  else decide (s.img.state ≠ .validated ∧ s.img.state ≠ .staged) || s.flashWriting
    || (match s.cox.armed with
        | some h => h.start
        | none => false)

/-- Refusals of FLASH_COMMAND (R522). -/
def State.flashRefused (s : State) (v : Nat) : Bool :=
  decide (s.boat.flash.state = .busy) || (decide (v ≤ 2) && decide (s.img.state ≠ .validated ∧ s.img.state ≠ .staged))

/-- Refusals of a test message (R553). -/
def State.testRefused (s : State) : Bool :=
  let m := unpackFault (s.ob 0x2441 1) (s.ob 0x2441 2)
  decide (m.cls = 0) || ! allKinds.contains m.kind || decide (m.kind ≥ 0x1000)

/-- Refusals of a link's LINK_COMMAND (R178, R188): a planned retrain without a window, unless the link is DOWN or
retraining already. -/
def State.retrainRefused (s : State) (r p v : Nat) : Bool :=
  let st := s.linkState r p
  decide (v = 1) && ! s.hasWindow r p && decide (st ≠ .down) && decide (st ≠ .retrain)

/-- Order 8: the code of a refusal for conflict with other settings or the object's state. That a write of 0x2081 with no host
transfer open, or beyond the length of the open one, is such a conflict is the model's reading (DEDUCED, log 115). -/
def State.conflict (s : State) (w : WriteReq) : Option Nat :=
  let i := w.index
  let sub := w.sub
  let h := i / 256
  let l := i % 256
  let v := w.value
  let bad (b : Bool) : Option Nat := if b then some 0x06040043 else none
  if objAbsent i sub || (decide (w.who ≠ .loader) && s.noAperture i sub) then some 0x06040043
  else if (0x1600 ≤ i ∧ i ≤ 0x1603) ∨ (0x1A00 ≤ i ∧ i ≤ 0x1A03) then s.mapRefused i sub v
  else if i = 0x1016 ∨ (i = 0x2022 ∧ sub = 3) ∨ (i = 0x2010 ∧ sub = 4) then bad (s.guardRefused i sub v)
  else if i = 0x2080 ∧ sub = 6 then bad (s.xferRefused w.who v).isSome
  else if i = 0x2081 then bad (decide (s.img.xfer ≠ .openHost) || decide (s.ob 0x2080 2 < w.off + w.data.length))
  else if i = 0x2120 ∧ sub ≤ 4 then bad (s.frozen || (decide (sub = 4 ∧ v = 1) && s.armRefused))
  else if 0x2210 ≤ i ∧ i ≤ 0x2241 ∧ sub = 2 then (match s.targetRefused (i - 0x2210) v with
    | some 0x06040043 => some 0x06040043
    | _ => none)
  else if 0x2210 ≤ i ∧ i ≤ 0x2241 ∧ sub = 4 then bad (decide (i < 0x2214) || decide (s.domain (i - 0x2210) ≠ .on))
  else if i = 0x2440 ∧ sub = 3 then bad (decide (v = 1) && decide (s.armInjectRefused = some 0x06040043))
  else if i = 0x2441 ∧ sub = 3 then bad s.testRefused
  else if i = 0x2503 ∧ sub = 5 then bad (decide (s.mode 3 = 2))
  else if i = 0x2602 ∧ sub = 2 then bad (s.imageRefused v)
  else if i = 0x2620 ∧ sub = 4 then bad (s.flashRefused v)
  else if h = 0x30 ∧ sub % 16 = 15 then bad (s.retrainRefused l (sub / 16) v)
  else if h = 0x38 ∧ sub = 1 then bad (decide (200 < (s.ob i 2 + 1) * v))
  else if h = 0x38 ∧ sub = 2 then bad (decide (200 < (v + 1) * s.ob i 1))
  else if h = 0x40 then bad (s.winRefused l sub v)
  else if h = 0x43 ∧ sub = 5 then bad (s.gateRefused l v)
  else if h = 0x48 then bad (s.poolBad l sub v)
  else if h = 0x4C then bad (s.engineBad l sub v)
  else if (h = 0x50 ∨ h = 0x51) ∧ sub = 0xC then bad (decide (v = 4) && decide (s.role (if h = 0x50 then l else l + 2) ≠ 1))
  else none

/-! ### The checks in order -/

/-- Abort code for a write, from order 2 on (R645); none when it takes place. -/
def State.writeRefused (s : State) (w : WriteReq) : Option Nat :=
  match absentCode w.index w.sub, objInfo w.index w.sub with
  | some c, _ => some c
  | none, none => some 0x06090011
  | none, some o =>
    if o.acc = .ro ∨ o.acc = .const ∨ (w.slot ∧ s.lengthSlot w.index o) then some 0x06010002
    else if s.ownerBarred w || s.stateBarred w then some 0x08000022
    else if s.domainBarred w then some 0x08000021
    else match s.dataRefused w o with
      | some c => some c
      | none => s.conflict w

/-- Abort code for a read, from order 2 on (R645). The slot of a write-only DOMAIN object is refused as any read of it is
(DEDUCED, log 96). -/
def State.readRefused (s : State) (who : Who) (i sub : Nat) : Option Nat :=
  match absentCode i sub, objInfo i sub with
  | some c, _ => some c
  | none, none => some 0x06090011
  | none, some o =>
    if o.acc = .wo then some 0x06010001 else if s.readBarred who i then some 0x08000022 else none

end Sys2Proof.Machine
end

