-- ==== Sys2Proof/Machine/Dict.lean ====
section
/-! DEFINITION. What an accepted write to an object does, the write rows of the table, and the image loader's records
(chapters 02 to 15). -/

namespace Sys2Proof.Machine

/-! ### Ownership, image transfer -/

/-- A claim by a path that found none held (R93). -/
def State.claimBy (s : State) (p : Path) : State :=
  match s.dict.owner with
  | some _ => s
  | none =>
    let s := ({ s with dict := { s.dict with owner := some p } }).bump 0x2010 3
    s.emcy 0xFF30 [BitVec.ofNat 8 (pathNum p), 0]

/-- CLAIM written 1 or 0 by a path that may (R93, R94). -/
def State.writeClaim (s : State) (p : Path) (v : Nat) : State :=
  if v = 1 then s.claimBy p else if s.dict.owner = some p then s.releaseClaim else s

/-- XFER_CONTROL (R86, R87). -/
def State.xferControl (s : State) (v : Nat) : State :=
  if v = 1 then (s.xferStart .openHost (s.ob 0x2080 7)).obSet 0x2080 5 0
  else if v = 2 then
    let c := crc32c s.staged
    if s.img.staging.length ≠ s.ob 0x2080 2 then ((s.obSet 0x2080 4 c).xferReset).obSet 0x2080 5 6
    else ((s.obSet 0x2080 4 c).xferClosed 2).obSet 0x2080 5 0
  else s.xferAbort 7

/-! ### Cox, power, reset mask -/

/-- HEAT_ARM (R137, R138): the loader's record meets the refusals of R138 too. -/
def State.writeArm (s : State) (v : Nat) : State := if v = 0 then s.disarm none else if s.armRefused then s else s.arm

/-- Straps as the pins show them where no command brings their levels: free values (R642). -/
def State.drawStraps (s : State) : Straps × State :=
  let (ga, s) := s.drawNat
  let (refclk, s) := s.drawNat
  let (testMode, s) := s.drawBit
  ({ ga := Fin.ofNat 32 ga, refclk := Fin.ofNat 4 refclk, testMode := testMode }, s)

/-- RST_MASK_UNLOCK (R585): the second value within 1 s of the first sets the mask. -/
def State.maskUnlock (s : State) (v : Nat) (st : Option Straps) : State :=
  if v = 0x5A5A then { s with aon := { s.aon with unlockAt := some s.clk.now } }
  else
    match s.aon.unlockAt with
    | some t =>
      let s := { s with aon := { s.aon with unlockAt := none } }
      if s.clk.now ≤ t + 3072000000 then
        let s := ({ s with aon := { s.aon with rstMasked := true } }).emcy 0xFF21 [1]
        if s.aon.resetting = some 1 then
          (match st with
           | some st => s.endReset st
           | none =>
             let (st, s) := s.drawStraps
             s.endReset st)
        else s
      else s
    | none => s

/-- RST_UNMASK (R586): a pin still asserted starts a reset. -/
def State.unmask (s : State) : State :=
  let s := ({ s with aon := { s.aon with rstMasked := false } }).emcy 0xFF21 [0]
  if s.pins.rstLow then s.dropRequests.beginReset 1 else s

/-! ### Faults -/

/-- ENTRY_COMMAND (R547, R548). -/
def State.entryCommand (s : State) (v : Nat) : State :=
  let e := s.ob 0x2420 1
  if v = 1 then s.ackEntry e else if v = 2 then s.clearEntry e else if v = 3 then s.ackAll else s.clearEnded

/-- One field of the selected policy (0x2410:02 to :05). -/
def State.writePolicy (s : State) (sub v : Nat) : State :=
  let k := s.ob 0x2410 1
  let p := s.policy k
  s.setPolicy k (if sub = 2 then { p with reaction := v } else if sub = 3 then { p with grace := v }
    else if sub = 4 then { p with next := v } else { p with pin := decide (v = 1) })

/-- A run of entries of POLICY_TABLE (R555); KIND is unchanged. -/
def State.writePolicies (s : State) (off : Nat) (data : Bytes) : State :=
  ((List.range (data.length / 8)).zip (words8 data)).foldl (fun s e =>
    s.setPolicy (lget 0 allKinds (off / 8 + e.1))
      { reaction := field e.2 47 45, next := field e.2 44 42, pin := bitAt e.2 41, grace := field e.2 31 0 }) s

/-! ### Links, routers, strokes -/

/-- LINK_COMMAND (R175, R182, R188). -/
def State.linkCommand (s : State) (r p v : Nat) : State :=
  if v = 1 then s.plannedRetrain r p
  else if v = 2 then s.immediateRetrain r p
  else if s.linkState r p = .down then s else s.linkDown r p false

/-! ### Network interfaces -/

/-- A shaper entry takes a value: tokens and the waiting packet follow R344. -/
def State.writeShaper (s : State) (n sh v : Nat) : State :=
  if s.shaperEntry n sh = v then s
  else
    let s := (s.setKv (skey (0x4200 + n) 3 sh) v).fillTokens n sh
    let s := s.modNi n (fun x => { x with wheel := sdel x.wheel sh })
    (s.evalShaper n sh).flushShape n (s.ni n).shape.length

/-- A run of shaper entries (R352). -/
def State.writeShapers (s : State) (n off : Nat) (data : Bytes) : State :=
  ((List.range (data.length / 8)).zip (words8 data)).foldl (fun s e => s.writeShaper n (off / 8 + e.1) (e.2 &&& 0xC3FFFF00001FFFFF)) s

/-- GATE_APPLY (R349). -/
def State.writeGate (s : State) (n v : Nat) : State :=
  if v = 1 then s.gateApply n
  else if (s.ni n).pendGates.isSome then (s.modNi n (fun x => { x with pendGates := none })).obSet (0x4300 + n) 8 2
  else s

/-! ### Clusters and engines -/

/-- POOL_CONFIG (R376, R381). -/
def State.writePool (s : State) (k p v : Nat) : State :=
  let was := poolEnabled (s.poolCfg k p)
  let s := s.obSet (0x4800 + k) (0x30 + p) v
  if poolEnabled v ∧ ¬ was then s.poolFill k p else if ¬ poolEnabled v ∧ was then s.poolEmpty k p else s

/-- Q_CONFIG of the selected queue (R410). -/
def State.writeQueue (s : State) (e v : Nat) : State :=
  let q := s.ob (0x4C00 + e) 1
  let was := bitAt (qConfig s e q) 31
  let s := s.setKv (skey (0x4C00 + e) 4 q) v
  if bitAt v 31 ∧ ¬ was then s.setDq e q { state := .idle } else if ¬ bitAt v 31 ∧ was then s.setDq e q {} else s

/-- MB_CONFIG of the selected ring (R413). -/
def State.writeRing (s : State) (e v : Nat) : State :=
  let r := s.ob (0x4C00 + e) 0x10
  let was := bitAt (mbConfig s e r) 31
  let s := s.setKv (skey (0x4C00 + e) 0x12 r) v
  if bitAt v 31 ∧ ¬ was then s.setRing e r { state := .running } else if ¬ bitAt v 31 ∧ was then s.setRing e r {} else s

/-- MB_RESET of the selected ring (R433). -/
def State.resetRing (s : State) (e : Nat) : State :=
  let r := s.ob (0x4C00 + e) 0x10
  let x := s.ring e r
  if x.state = .error then s.setRing e r { x with state := .running, consumer := x.producer } else s

/-! ### Bridges -/

/-- LINK_COMMAND of a bridge (R472, R476, R477). -/
def State.bridgeCommand (s : State) (b v : Nat) : State :=
  let st := (s.br b).state
  if v = 1 then (if st = .up then s.setLink b .recovery else s.tryTrain b)
  else if v = 2 then (s.pcieDown b .disabled false).modBr b (fun r => { r with disabled := true })
  else if v = 3 then (s.modBr b (fun r => { r with disabled := false })).tryTrain b
  else if st = .up ∨ st = .recovery then ((s.tlp b .hotReset).pcieDown b .down false).tryTrain b
  else s

/-- Bridge of an index. -/
def bridgeOf (i : Nat) : Nat := if i < 0x5100 then i - 0x5000 else i - 0x5100 + 2

/-! ### Boathouse commands -/

/-- Debug mode ends (R488, R490). -/
def State.endDebug (s : State) : State :=
  { s with boat := { s.boat with debug := false, remap := false, jtag := if s.boat.jtag = .lockedOut then .lockedOut else .locked,
                                 challenge := [], response := [] } }

/-- A fresh challenge (R489); LOCKED_OUT lasts until the next chip reset. -/
def State.newChallenge (s : State) : State :=
  if s.boat.jtag = .lockedOut then s
  else
    let (c, s) := s.drawBytes 48
    { s with boat := { s.boat with jtag := .challenged, challenge := c, response := [] } }

/-- A failed response: the third in a row locks out (R489). -/
def State.jtagFail (s : State) : State :=
  let s := s.bump 0x2601 5
  if s.boat.jtag = .lockedOut then s
  else
    let n := s.boat.streak + 1
    { s with boat := { s.boat with streak := n, debug := false, remap := false, jtag := if n ≥ 3 then .lockedOut else .locked,
                                   challenge := [], response := [] } }

/-- A whole response is judged (R489). -/
def State.judgeResponse (s : State) (sig : Bytes) : State :=
  if s.boat.jtag = .challenged ∧ Config.debugVerify s.otp.debugKeyHash (s.boat.challenge ++ leBytes s.otp.serial 4) sig then
    { s with boat := { s.boat with jtag := .unlocked, debug := true, streak := 0, challenge := [], response := [] } }
  else s.jtagFail

/-- Bytes of a response: 96 of them make it whole. -/
def State.writeResponse (s : State) (off : Nat) (data : Bytes) : State :=
  let m := ((List.range data.length).zip data).foldl (fun m e => sins m (off + e.1) e.2) s.boat.response
  let s := { s with boat := { s.boat with response := m } }
  if m.length = 96 then s.judgeResponse (m.map (·.2)) else s

/-- IMAGE_COMMAND (R511, R516): a commit starts the loader; a discard empties the shadow tables. -/
def State.imageCommand (s : State) (v : Nat) : State :=
  if v = 1 then { s with img := { s.img with state := .loading } } else s.discardImage

/-- Starts a flash operation (R522). -/
def State.flashStart (s : State) (slotB erase : Bool) : State :=
  let op : FlashOp := { slotB := slotB, erase := erase, len := if erase then 0 else s.img.staging.length, generation := if erase then 0 else imgGeneration s.staged }
  ({ s with boat := { s.boat with flash := { s.boat.flash with state := .busy, op := some op } } }).obSet 0x2620 9 0

/-! ### COUNTER_CLEAR -/

/-- Clears a run of sub-indices for each port that a mask selects. -/
def State.clearPorts (s : State) (i mask lo hi : Nat) : State :=
  (List.range 4).foldl (fun s p => if bitAt mask p then s.clearSubs i (16 * p + lo) (16 * p + hi) else s) s

/-- COUNTER_CLEAR of each block. -/
def State.clearCounters (s : State) (i v : Nat) : State :=
  let h := i / 256
  let l := i % 256
  if i = 0x2200 then (List.range 50).foldl (fun s d => s.clearSubs (domIdx d) 5 8) (s.clearSubs 0x2200 4 4)
  else if i = 0x2400 then s.clearSubs 0x2400 7 0xC
  else if i = 0x2500 then (((s.clearSubs 0x2500 6 6).clearSubs 0x2502 6 7).clearSubs 0x2503 7 7).clearSubs 0x2505 4 5
  else if h = 0x30 then s.clearPorts i v 2 0xC
  else if h = 0x31 then
    let s := if bitAt v 0 then s.clearSubs i 0x70 0x74 else s
    let s := if bitAt v 1 then s.clearSubs i 0x78 0x7C else s
    let s := if bitAt v 2 then s.clearSubs i 0x80 0x84 else s
    if bitAt v 3 then s.clearSubs i 0xA8 0xA9 else s
  else if 0x3440 ≤ i ∧ i ≤ 0x346F then s.clearPorts i v 1 7
  else if h = 0x34 then s.clearSubs i 1 3
  else if h = 0x38 then s.clearSubs i 0x10 0x1E
  else if h = 0x40 then s.clearSubs i 0x82 0x85
  else if h = 0x41 then s.clearSubs i 0x41 0x44
  else if h = 0x42 then s.clearSubs i 0x10 0x13
  else if h = 0x43 then s.clearSubs i 0x50 0x51
  else if h = 0x48 then
    let s := if bitAt v 0 then (s.clearSubs i 5 7).clearSubs i 0x10 0x14 else s
    let s := if bitAt v 1 then (s.clearSubs i 0x20 0x24).clearSubs i 0x28 0x28 else s
    if bitAt v 2 then
      (List.range 8).foldl (fun s p => s.obSet i (0x48 + p) ((s.clu l).freeList p).length) ((s.clearSubs i 0x40 0x47).clearSubs i 0x50 0x57)
    else s
  else if h = 0x4C then
    (s.clearSubs i 0x40 0x49).forget (fun k => decide (keyIdx k = i) && decide (keySub k = 6))
  else if h = 0x4E then (s.clearSubs i 5 7).clearSubs i 0xB 0xB
  else if h = 0x50 ∨ h = 0x51 then (s.clearSubs i 0x10 0x18).clearSubs i 0x1A 0x1C
  else s

/-- Sub-index of a block's COUNTER_CLEAR. -/
def clearSub (i : Nat) : Option Nat :=
  let h := i / 256
  if i = 0x2200 ∨ i = 0x2400 ∨ i = 0x2500 then some 0xF
  else if h = 0x30 then some 0x42
  else if h = 0x31 then some 0xAF
  else if 0x3440 ≤ i ∧ i ≤ 0x346F then some 0x50
  else if 0x3470 ≤ i ∧ i ≤ 0x3487 then some 0x10
  else if h = 0x38 then some 0x20
  else if h = 0x40 then some 0x8F
  else if h = 0x41 then some 0x4F
  else if h = 0x42 then some 0x1F
  else if h = 0x43 then some 0x5F
  else if h = 0x48 then some 0x7F
  else if h = 0x4C then some 0x4F
  else if h = 0x4E then some 0xF
  else if h = 0x50 ∨ h = 0x51 then some 0x1F
  else none

/-! ### An accepted write -/

/-- A consumer entry changed: a station is watched from its first heartbeat after its entry became active (R79, R95). -/
def State.writeConsumer (s : State) (sub v : Nat) : State :=
  let before := s.stations
  let s := s.obSet 0x1016 sub v
  let keep (n : Nat) : Bool := before.contains n && s.stations.contains n
  ({ s with can := { s.can with watched := s.can.watched.filter keep, timedOut := s.can.timedOut.filter keep } }).emcyCleared

/-- An accepted number, chapters 02, 03 and 12 to 15. -/
def State.store2 (s : State) (who : Who) (i sub v : Nat) : State :=
  match i, sub with
  | 0x2010, 2 => (match who with
    | .path p => s.writeClaim p v
    | _ => s)
  | 0x2080, 6 => s.xferControl v
  | 0x2110, 1 => let s := s.obSet i sub v
                 if v = 0 then s.unanchor else s
  | 0x2110, 9 => s.modCox (fun c => { c with reanchor := true })
  | 0x2120, 4 => s.writeArm v
  | 0x2302, 1 => s.maskUnlock v none
  | 0x2302, 3 => s.unmask
  | 0x2303, 1 => s.enterEasy 2 (decide (v = 2))
  | 0x2410, 2 => s.writePolicy 2 v
  | 0x2410, 3 => s.writePolicy 3 v
  | 0x2410, 4 => s.writePolicy 4 v
  | 0x2410, 5 => s.writePolicy 5 v
  | 0x2420, 5 => s.entryCommand v
  | 0x2428, 4 => s.ackPins v
  | 0x2428, 5 => s.clearPins v
  | 0x2430, 3 => s.releaseRetained
  | 0x2440, 3 => if v = 1 then s.armInject else s.modFlt (fun f => { f with inject := if f.inject = .armed then .idle else f.inject })
  | 0x2441, 3 => s.toCollector (unpackFault (s.ob 0x2441 1) (s.ob 0x2441 2)) true
  | 0x2503, 5 => s.setLevel v
  | 0x2601, 4 => if v = 1 then s.newChallenge else s.endDebug
  | 0x2602, 2 => s.imageCommand v
  | 0x2620, 4 => s.flashStart (decide (v % 2 = 0)) (decide (3 ≤ v))
  | _, _ =>
    if i = 0x1016 then s.writeConsumer sub v
    else if 0x2210 ≤ i ∧ i ≤ 0x2241 ∧ sub = 2 then s.setTarget (i - 0x2210) v
    else if 0x2210 ≤ i ∧ i ≤ 0x2241 ∧ sub = 4 then s.warmReset (i - 0x2210)
    else s.obSet i sub v

/-- An accepted number, chapters 04 to 11. -/
def State.store3 (s : State) (i sub v : Nat) : State :=
  let h := i / 256
  let l := i % 256
  if h = 0x30 then s.linkCommand l (sub / 16) v
  else if i = 0x3492 then s.obSet i sub (s.ob i sub - (s.ob i sub &&& v))
  else if i = 0x34F0 then s.obSet 0x34F0 2 1
  else if h = 0x31 ∧ 0x88 ≤ sub ∧ sub < 0x90 then s.putLate i sub v s.nextSlot
  else if h = 0x40 then
    (if sub = 0x81 then s.modNi l (fun x => { x with cache := [] }) else (s.obSet i sub v).obSet i 0x86 s.stamp)
  else if h = 0x42 ∧ sub = 3 then s.writeShaper l (s.ob i 2) v
  else if h = 0x43 ∧ sub = 5 then s.writeGate l v
  else if h = 0x48 ∧ sub = 1 then (s.obSet i sub v).clearTrackers l
  else if h = 0x48 ∧ 0x30 ≤ sub then s.writePool l (sub - 0x30) v
  else if h = 0x4C ∧ sub = 4 then s.writeQueue l v
  else if h = 0x4C ∧ sub = 0x12 then s.writeRing l v
  else if h = 0x4C ∧ sub = 0x14 then s.resetRing l
  else if h = 0x4E ∧ sub = 8 then s.eqFlush l
  else if (h = 0x50 ∨ h = 0x51) ∧ sub = 0xC then s.bridgeCommand (bridgeOf i) v
  else s.setKv (shownKey s.kv i sub) v

/-- An accepted number. -/
def State.store (s : State) (who : Who) (i sub v : Nat) : State :=
  if clearSub i = some sub then s.clearCounters i v
  else if i < 0x3000 then s.store2 who i sub v
  else s.store3 i sub v

/-- Accepted bytes of a DOMAIN object, from an offset. -/
def State.storeBytes (s : State) (i sub off : Nat) (data : Bytes) : State :=
  if i = 0x2411 then s.writePolicies off data
  else if i / 256 = 0x42 then s.writeShapers (i % 256) off data
  else if i = 0x2081 then
    let s := s.stageBytes off data
    s.obSet 0x2080 3 s.img.staging.length
  else if i = 0x2601 ∧ sub = 3 then s.writeResponse off data
  else s

/-- What an owner's write leaves behind besides its effect: it breaks an unlock under way (R585) and starts the hold of an
object that the Steward writes too (R608). -/
def State.noteWrite (s : State) (who : Who) (i sub : Nat) : State :=
  match who with
  | .path p =>
    let s := if (i = 0x2302 ∧ sub = 1) ∨ s.dict.owner ≠ some p then s else { s with aon := { s.aon with unlockAt := none } }
    let h := i / 256
    let steward : Bool := decide ((h = 0x31 ∧ 0x88 ≤ sub ∧ sub < 0x90) ∨ (h = 0x30 ∧ sub % 16 = 15) ∨ (h = 0x48 ∧ sub = 3)
      ∨ (0x2210 ≤ i ∧ i ≤ 0x2241 ∧ sub = 2) ∨ (i = 0x2503 ∧ sub = 5))
    if steward then s.ownerWrote i sub else s
  | _ => s

/-- What a refusal leaves behind: the record of a host's write (R92), an unlock that the owner's write broke (R585), a RESULT
(R508), a count (R559, R566), a flash result. -/
def State.noteRefusal (s : State) (w : WriteReq) (code : Nat) : State :=
  let s := match w.who with
    | .path p => (if s.dict.owner = some p then { s with aon := { s.aon with unlockAt := none } } else s).hostRefusal p code
    | _ => s
  let own : Bool := ! s.ownerBarred w
  if w.index = 0x2080 ∧ w.sub = 6 ∧ code = 0x06040043 ∧ w.who ≠ .path .can then s.obSet 0x2080 5 ((s.xferRefused w.who w.value).getD 0)
  else if 0x2214 ≤ w.index ∧ w.index ≤ 0x2241 ∧ w.sub = 2 ∧ own
      ∧ (code = 0x08000022 ∨ code = 0x06040043 ∨ (code = 0x06090030 ∧ w.value = 2)) then s.bump 0x2200 4
  else if 0x2210 ≤ w.index ∧ w.index ≤ 0x2241 ∧ w.sub = 4 ∧ own ∧ (code = 0x08000022 ∨ code = 0x06040043) then s.bump 0x2200 4
  else if w.index = 0x2620 ∧ w.sub = 4 ∧ code = 0x06040043 then s.obSet 0x2620 8 3
  else s

/-- What an accepted write does. -/
def State.storeAccepted (s : State) (w : WriteReq) : State :=
  let s := match objInfo w.index w.sub with
    | some o => if tySize o.ty = 0 then s.storeBytes w.index w.sub w.off w.data else s.store w.who w.index w.sub w.value
    | none => s
  s.noteWrite w.who w.index w.sub

/-- A write of an object: judged in the order of R645, then performed; and its abort code. -/
def State.write (s : State) (w : WriteReq) : State × Option Nat :=
  match s.writeRefused w with
  | some c => (s.noteRefusal w c, some c)
  | none => (s.storeAccepted w, none)

/-- A write over the management matrix: one that is refused asks for no transaction (R482, R645). -/
def State.writeAsking (s : State) (ask : State → State) (w : WriteReq) : State × Option Nat :=
  match s.writeRefused w with
  | some c => (s.noteRefusal w c, some c)
  | none => ((ask s).storeAccepted w, none)

/-- A write of a number by a path. -/
def State.writeBy (s : State) (p : Path) (i sub v : Nat) : State :=
  (s.write { who := .path p, index := i, sub := sub, data := leBytes v (((objInfo i sub).map (fun o => tySize o.ty)).getD 0) }).1

/-! ### The loader (R503, R512) -/

/-- Objects whose loaded value waits for entry to LAUNCH (R260, R330, R435, R460, R580). -/
def tiedToLaunch (i sub : Nat) : Bool :=
  let h := i / 256
  (decide (0x40 ≤ h) && decide (h ≤ 0x43)) || decide (h = 0x4C) || decide (h = 0x4E) || decide (h = 0x34)
    || (decide (0x2210 ≤ i ∧ i ≤ 0x2241) && decide (sub = 2)) || (decide (h = 0x51) && decide (sub = 0x20))

/-- Sets a value for the entry to LAUNCH; a ranking's shadow sets its active value too (R260). -/
def State.atLaunch (s : State) (k v : Nat) : State :=
  let put (s : State) (k : Nat) : State := { s with img := { s.img with atLaunch := sins s.img.atLaunch k v } }
  let i := keyIdx k
  let s := put s k
  if i = 0x3400 ∨ i = 0x3401 then put s (okey i 1)
  else if 0x3410 ≤ i ∧ i ≤ 0x343F then put s (okey i (keySub k - 0x10))
  else s

/-- What a record sees: the values set for LAUNCH over the store. -/
def State.loaded (s : State) (k : Nat) : Nat := s.under s.img.atLaunch k

/-- Whether the loader's write of a record is refused (R512): by R503 or R16, or in conflict with the settings as they are; the
device state and the power domain do not matter to it (DEDUCED, log 110). -/
def State.recordRefused (s : State) (r : Rec) : Bool :=
  s.recordBad s.loaded r
    || (! decide (0x2210 ≤ r.index ∧ r.index ≤ 0x2241) && (s.conflict { who := .loader, index := r.index, sub := r.sub, data := r.data }).isSome)

/-- Applies one record of OBJECTS. -/
def State.loadRecord (s : State) (r : Rec) : State :=
  match objInfo r.index r.sub with
  | none => s
  | some o =>
    if s.recordRefused r then s
    else if tySize o.ty = 0 then
      (if r.index / 256 = 0x42 then
        ((List.range 256).zip (words8 r.data)).foldl (fun s e => s.atLaunch (skey r.index 3 e.1) (e.2 &&& 0xC3FFFF00001FFFFF)) s
       else s.storeBytes r.index r.sub 0 r.data)
    else
      match o.coerce r.data with
      | none => s
      | some v =>
        if r.index = 0x3492 then s.store .loader r.index r.sub v
        else if tiedToLaunch r.index r.sub then s.atLaunch (shownKey s.loaded r.index r.sub) v
        else if s.objAnswers r.index r.sub then s.store .loader r.index r.sub v
        else s.setKv (shownKey s.kv r.index r.sub) v

/-! ### Rows of the table that are writes -/

/-- CLAIM (R93). -/
def execClaim (p : Path) (s : State) : Host.Outcome State Fault Refusal := done s (s.writeBy p 0x2010 2 1)
/-- RELEASE (R94). -/
def execRelease (p : Path) (s : State) : Host.Outcome State Fault Refusal := done s (s.writeBy p 0x2010 2 0)
/-- OBJECT_WRITE (R15, R16, R645). -/
def execObjectWrite (w : ObjWrite) (s : State) : Host.Outcome State Fault Refusal :=
  done s (s.write { who := .path w.path, index := w.index, sub := w.sub, data := w.data }).1
/-- COUNTER_CLEAR (R187). -/
def execCounterClear (w : ObjWrite) (s : State) : Host.Outcome State Fault Refusal :=
  done s (if clearSub w.index = some w.sub then (s.write { who := .path w.path, index := w.index, sub := w.sub, data := w.data }).1 else s)
/-- XFER_CONTROL 1, 2, 3 (R87). -/
def execXferControlOpen (p : Path) (s : State) : Host.Outcome State Fault Refusal := done s (s.writeBy p 0x2080 6 1)
def execXferControlClose (p : Path) (s : State) : Host.Outcome State Fault Refusal := done s (s.writeBy p 0x2080 6 2)
def execXferControlAbort (p : Path) (s : State) : Host.Outcome State Fault Refusal := done s (s.writeBy p 0x2080 6 3)
/-- IMAGE_STAGE_WRITE (R87, R91). -/
def execImageStageWrite (p : Path) (offset : Nat) (data : Bytes) (s : State) : Host.Outcome State Fault Refusal :=
  done s (s.write { who := .path p, index := 0x2081, sub := 0, data := data, off := offset }).1
/-- PPS_ENABLE_WRITE (R126). -/
def execPpsEnableWrite (p : Path) (value : Bool) (s : State) : Host.Outcome State Fault Refusal := done s (s.writeBy p 0x2110 1 (b2n value))
/-- REANCHOR (R134). -/
def execReanchor (p : Path) (s : State) : Host.Outcome State Fault Refusal := done s (s.writeBy p 0x2110 9 1)
/-- TIME_SECONDS_READ (R123). -/
def execTimeSecondsRead (p : Path) (s : State) : Host.Outcome State Fault Refusal :=
  done s (if (s.readRefused (.path p) 0x2101 1).isSome then s else (s.readNum (.path p) 0x2101 1).2)
/-- HEAT_ARM (R137, R138). -/
def execHeatArm (p : Path) (s : State) : Host.Outcome State Fault Refusal := done s (s.writeBy p 0x2120 4 1)
/-- HEAT_DISARM (R137, R139). -/
def execHeatDisarm (p : Path) (s : State) : Host.Outcome State Fault Refusal := done s (s.writeBy p 0x2120 4 0)
/-- COMMIT (R258, R259). -/
def execCommit (p : Path) (s : State) : Host.Outcome State Fault Refusal := done s (s.writeBy p 0x34F0 1 1)
/-- LINK_COMMAND 1, 2, 3 of link r.p (R175, R178, R188). -/
def execLinkPlannedRetrain (path : Path) (r : RouterId) (p : Port) (s : State) : Host.Outcome State Fault Refusal :=
  done s (s.writeBy path (0x3000 + r.val) (16 * portNum p + 15) 1)
def execLinkImmediateRetrain (path : Path) (r : RouterId) (p : Port) (s : State) : Host.Outcome State Fault Refusal :=
  done s (s.writeBy path (0x3000 + r.val) (16 * portNum p + 15) 2)
def execLinkTakeDown (path : Path) (r : RouterId) (p : Port) (s : State) : Host.Outcome State Fault Refusal :=
  done s (s.writeBy path (0x3000 + r.val) (16 * portNum p + 15) 3)
/-- WIN_INVALIDATE (R333). -/
def execWinInvalidate (p : Path) (n : RouterId) (s : State) : Host.Outcome State Fault Refusal := done s (s.writeBy p (0x4000 + n.val) 0x81 1)
/-- SHAPER_ENTRY_WRITE (R344). -/
def execShaperEntryWrite (p : Path) (n : RouterId) (value : Nat) (s : State) : Host.Outcome State Fault Refusal :=
  done s (s.writeBy p (0x4200 + n.val) 3 value)
/-- GATE_APPLY (R349). -/
def execGateApply (p : Path) (n : RouterId) (s : State) : Host.Outcome State Fault Refusal := done s (s.writeBy p (0x4300 + n.val) 5 1)
/-- GATE_CANCEL (R349). -/
def execGateCancel (p : Path) (n : RouterId) (s : State) : Host.Outcome State Fault Refusal := done s (s.writeBy p (0x4300 + n.val) 5 2)
/-- POOL_ENABLE (R376): POOL_CONFIG written with ENABLE 1. -/
def execPoolEnable (p : Path) (k : ClusterId) (pool : Fin 8) (config : Nat) (s : State) : Host.Outcome State Fault Refusal :=
  done s (s.writeBy p (0x4800 + k.val) (0x30 + pool.val) (config ||| 2 ^ 63))
/-- POOL_DISABLE (R381): POOL_CONFIG written with ENABLE 0, its other fields as they are. -/
def execPoolDisable (p : Path) (k : ClusterId) (pool : Fin 8) (s : State) : Host.Outcome State Fault Refusal :=
  done s (s.writeBy p (0x4800 + k.val) (0x30 + pool.val) (s.poolCfg k.val pool.val % 2 ^ 63))
/-- BLOCK_LOG2_WRITE (R373). -/
def execBlockLog2Write (p : Path) (k : ClusterId) (value : Nat) (s : State) : Host.Outcome State Fault Refusal :=
  done s (s.writeBy p (0x4800 + k.val) 1 value)
/-- QUEUE_ENABLE (R410): Q_CONFIG of the selected queue written with ENABLE 1. -/
def execQueueEnable (p : Path) (e : EngineId) (config : Nat) (s : State) : Host.Outcome State Fault Refusal :=
  done s (s.writeBy p (0x4C00 + e.val) 4 (config ||| 2 ^ 31))
/-- QUEUE_DISABLE (R410). -/
def execQueueDisable (p : Path) (e : EngineId) (s : State) : Host.Outcome State Fault Refusal :=
  done s (s.writeBy p (0x4C00 + e.val) 4 (qConfig s e.val (s.ob (0x4C00 + e.val) 1) % 2 ^ 31))
/-- MB_RESET (R433). -/
def execMbReset (p : Path) (e : EngineId) (s : State) : Host.Outcome State Fault Refusal := done s (s.writeBy p (0x4C00 + e.val) 0x14 1)
/-- EQ_FLUSH (R431). -/
def execEqFlush (p : Path) (i : Fin 16) (s : State) : Host.Outcome State Fault Refusal := done s (s.writeBy p (0x4E00 + i.val) 8 1)
/-- LINK_COMMAND 1 to 4 of a bridge (R476, R477). -/
def execLinkCommandRetrain (p : Path) (b : BridgeId) (s : State) : Host.Outcome State Fault Refusal := done s (s.writeBy p (brIdx b.val) 0xC 1)
def execLinkCommandDisable (p : Path) (b : BridgeId) (s : State) : Host.Outcome State Fault Refusal := done s (s.writeBy p (brIdx b.val) 0xC 2)
def execLinkCommandEnable (p : Path) (b : BridgeId) (s : State) : Host.Outcome State Fault Refusal := done s (s.writeBy p (brIdx b.val) 0xC 3)
def execLinkCommandHotReset (p : Path) (b : BridgeId) (s : State) : Host.Outcome State Fault Refusal := done s (s.writeBy p (brIdx b.val) 0xC 4)
/-- JTAG_CHALLENGE (R489). -/
def execJtagChallenge (p : Path) (s : State) : Host.Outcome State Fault Refusal := done s (s.writeBy p 0x2601 4 1)
/-- JTAG_LOCK (R490). -/
def execJtagLock (p : Path) (s : State) : Host.Outcome State Fault Refusal := done s (s.writeBy p 0x2601 4 2)
/-- JTAG_RESPONSE (R489). -/
def execJtagResponse (p : Path) (sig : Bytes) (s : State) : Host.Outcome State Fault Refusal :=
  done s (s.write { who := .path p, index := 0x2601, sub := 3, data := sig }).1
/-- JTAG_CHALLENGE_TIMEOUT (R489): 60 s without a response. A response after it finds no challenge. -/
def execJtagChallengeTimeout (s : State) : Host.Outcome State Fault Refusal :=
  done s (if s.boat.jtag = .challenged then { s with boat := { s.boat with jtag := .locked, challenge := [], response := [] } } else s)
/-- IMAGE_COMMIT (R511). -/
def execImageCommit (p : Path) (s : State) : Host.Outcome State Fault Refusal := done s (s.writeBy p 0x2602 2 1)
/-- IMAGE_DISCARD (R516). -/
def execImageDiscard (p : Path) (s : State) : Host.Outcome State Fault Refusal := done s (s.writeBy p 0x2602 2 2)
/-- FLASH_WRITE_SLOT and FLASH_ERASE_SLOT (R522). -/
def execFlashWriteSlot (p : Path) (slotB : Bool) (s : State) : Host.Outcome State Fault Refusal := done s (s.writeBy p 0x2620 4 (1 + b2n slotB))
def execFlashEraseSlot (p : Path) (slotB : Bool) (s : State) : Host.Outcome State Fault Refusal := done s (s.writeBy p 0x2620 4 (3 + b2n slotB))
/-- ENTRY_COMMAND 1 to 4 (R547, R548). -/
def execEntryAcknowledge (p : Path) (s : State) : Host.Outcome State Fault Refusal := done s (s.writeBy p 0x2420 5 1)
def execEntryClear (p : Path) (s : State) : Host.Outcome State Fault Refusal := done s (s.writeBy p 0x2420 5 2)
def execEntryAcknowledgeAll (p : Path) (s : State) : Host.Outcome State Fault Refusal := done s (s.writeBy p 0x2420 5 3)
def execEntryClearEnded (p : Path) (s : State) : Host.Outcome State Fault Refusal := done s (s.writeBy p 0x2420 5 4)
/-- PIN_ACK and PIN_CLEAR (R549). -/
def execPinAck (p : Path) (mask : Nat) (s : State) : Host.Outcome State Fault Refusal := done s (s.writeBy p 0x2428 4 mask)
def execPinClear (p : Path) (mask : Nat) (s : State) : Host.Outcome State Fault Refusal := done s (s.writeBy p 0x2428 5 mask)
/-- RETAINED_RELEASE (R551). -/
def execRetainedRelease (p : Path) (s : State) : Host.Outcome State Fault Refusal := done s (s.writeBy p 0x2430 3 1)
/-- POLICY_TABLE_WRITE (R555). -/
def execPolicyTableWrite (p : Path) (offset : Nat) (data : Bytes) (s : State) : Host.Outcome State Fault Refusal :=
  done s (s.write { who := .path p, index := 0x2411, sub := 0, data := data, off := offset }).1
/-- INJECT_ARM and INJECT_CANCEL (R552). -/
def execInjectArm (p : Path) (s : State) : Host.Outcome State Fault Refusal := done s (s.writeBy p 0x2440 3 1)
def execInjectCancel (p : Path) (s : State) : Host.Outcome State Fault Refusal := done s (s.writeBy p 0x2440 3 2)
/-- TEST_MESSAGE_SUBMIT (R553). -/
def execTestMessageSubmit (p : Path) (s : State) : Host.Outcome State Fault Refusal := done s (s.writeBy p 0x2441 3 1)
/-- DOMAIN_COMMAND (R566). -/
def execDomainCommand (p : Path) (d : DomainId) (s : State) : Host.Outcome State Fault Refusal := done s (s.writeBy p (domIdx d.val) 4 1)
/-- EASY_COMMAND 1 and 2 (R587). -/
def execEasyCommandOrderly (p : Path) (s : State) : Host.Outcome State Fault Refusal := done s (s.writeBy p 0x2303 1 1)
def execEasyCommandForced (p : Path) (s : State) : Host.Outcome State Fault Refusal := done s (s.writeBy p 0x2303 1 2)

/-- A power transition is asked for (R558, R559): by a path's write, or by the Steward's IDLE loop. -/
def State.askPower (s : State) (by_ : PowerBy) (d v : Nat) : State :=
  match by_ with
  | .path p => s.writeBy p (domIdx d) 2 v
  | .steward => s.stewardTarget d v

def execPowerTargetOff (by_ : PowerBy) (d : DomainId) (s : State) : Host.Outcome State Fault Refusal := done s (s.askPower by_ d.val 0)
def execPowerTargetOn (by_ : PowerBy) (d : DomainId) (s : State) : Host.Outcome State Fault Refusal := done s (s.askPower by_ d.val 1)
def execPowerTargetRetain (by_ : PowerBy) (d : DomainId) (s : State) : Host.Outcome State Fault Refusal := done s (s.askPower by_ d.val 2)

/-- RST_MASK_UNLOCK_ARM (R585). -/
def execRstMaskUnlockArm (p : Path) (s : State) : Host.Outcome State Fault Refusal := done s (s.writeBy p 0x2302 1 0x5A5A)
/-- RST_MASK_UNLOCK_COMPLETE (R585): a reset that it ends samples the straps. -/
def execRstMaskUnlockComplete (p : Path) (straps : Straps) (s : State) : Host.Outcome State Fault Refusal :=
  done s (
    let w : WriteReq := { who := .path p, index := 0x2302, sub := 1, data := leBytes 0xA5A5 2 }
    match s.writeRefused w with
    | some c => s.noteRefusal w c
    | none => s.maskUnlock 0xA5A5 (some straps))
/-- RST_UNMASK (R586). -/
def execRstUnmask (p : Path) (s : State) : Host.Outcome State Fault Refusal := done s (s.writeBy p 0x2302 3 1)

end Sys2Proof.Machine
end

