-- ==== Sys2Proof/Machine/Schedule.lean ====
section
/-! DEFINITION. The schedule checker (R261, R262). The checks run in the order of their codes (DEDUCED, log 18); each
answers the router, port, slot and owner at which it fails. Router 48 + k names BMk's port. -/

namespace Sys2Proof.Machine

/-- Where a check fails: router, port, slot, owner. -/
abbrev Spot := Nat × Nat × Nat × Nat

/-- Fields of a stroke-table entry (R233). -/
def entKind (e : Nat) : Nat := field e 31 30
def entPhase (e : Nat) : Nat := field e 29 27
def entFlits (e : Nat) : Nat := field e 26 23
def entOwner (e : Nat) : Nat := field e 15 0

/-- A reservation of R234 at some point: router, port, kind, first cycle, length, slot, owner. -/
structure Resv where
  r : Nat
  p : Nat
  kind : Nat
  start : Nat
  len : Nat
  slot : Nat
  owner : Nat
  deriving DecidableEq, Repr

def Resv.spot (x : Resv) : Spot := (x.r, x.p, x.slot, x.owner)

/-- Entries of a point in use, with their slots. -/
def Tables.entries (t : Tables) (r p : Nat) : List (Nat × Nat) :=
  if 48 ≤ r then (t.clusTab.filter (fun e => decide (e.1 / 256 = r - 48))).map (fun e => (e.1 % 256, e.2))
  else (t.linkTab.filter (fun e => decide (e.1 / 256 = 4 * r + p))).map (fun e => (e.1 % 256, e.2))

/-- The stroke points (R232). -/
def strokePoints : List (Nat × Nat) := allDirs ++ (List.range 24).map (fun k => (48 + k, 0))

def Tables.flow (t : Tables) (n : Nat) : Nat := sget 0 t.flows n
def Tables.circuit (t : Tables) (c : Nat) : Nat := if c < 64 then sget 0 t.circuits c else 0
def Tables.flowsUsed (t : Tables) : List (Nat × Nat) := t.flows.filter (fun f => flowType f.2 ≠ 0)
def Tables.circuitsUsed (t : Tables) : List (Nat × Nat) := t.circuits.filter (fun c => circDefined c.2)

/-- Reservations at a point (R234). -/
def Tables.resvs (t : Tables) (r p : Nat) : List Resv :=
  ((t.entries r p).filter (fun e => decide (entKind e.2 = 1 ∨ entKind e.2 = 2))).map (fun e =>
    { r := r, p := p, kind := entKind e.2, start := 8 * e.1 + entPhase e.2,
      len := if entKind e.2 = 1 then entFlits e.2 else 8 * circWin (t.circuit (entOwner e.2)), slot := e.1, owner := entOwner e.2 })

/-- Two runs of cycles share a cycle of the stroke. -/
def cyclesMeet (a la b lb : Nat) : Bool := decide ((b + 4096 - a) % 2048 < la) || decide ((a + 4096 - b) % 2048 < lb)

/-- The first of a list that meets one before it. -/
def firstMeet : List Resv → List Resv → Option Resv
  | _, [] => none
  | before, x :: rest =>
    if before.any (fun y => cyclesMeet y.start y.len x.start x.len) then some x else firstMeet (x :: before) rest

/-- Hops to each member of a group from a router, along its row or column. -/
def memberHops (t : Tables) (g src : Nat) : List (Nat × Nat) :=
  ((List.range 48).filter (fun n => bitAt (sget 0 t.groups g) n ∧ n ≠ src)).map (fun n =>
    (n, (max (xOf n) (xOf src) - min (xOf n) (xOf src)) + (max (yOf n) (yOf src) - min (yOf n) (yOf src))))

/-- Link outputs on the way to the members of a ROW or COLUMN group: router, port, hop number from 1 (R250). -/
def groupOuts (t : Tables) (g src : Nat) : List (Nat × Nat × Nat) :=
  let w := sget 0 t.groups g
  let leg (p : Nat) : List (Nat × Nat × Nat) :=
    let far := ((memberHops t g src).filter (fun m => decide (xyOut src m.1 = p))).foldl (fun a m => max a m.2) 0
    (List.range far).map (fun k =>
      ((match p with
        | 1 => src + k | 3 => src - k | 2 => src + 8 * k | _ => src - 8 * k), p, k + 1))
  (if field w 63 62 = 2 then [1, 3] else if field w 63 62 = 3 then [0, 2] else []).flatMap leg

/-- Link outputs of a flow or circuit: router, port, hop number. -/
def Tables.outsOf (t : Tables) (mcast : Bool) (src dst hops path : Nat) : List (Nat × Nat × Nat) :=
  if mcast then groupOuts t dst src
  else ((List.range hops).zip (pathHops src path hops)).map (fun e => (e.2.1, e.2.2, e.1 + 1))
def Tables.flowOuts (t : Tables) (v : Nat) : List (Nat × Nat × Nat) :=
  t.outsOf (flowMcast v) (flowSrc v) (flowDst v) (min (flowHops v) 12) (flowPath v)
def Tables.circOuts (t : Tables) (v : Nat) : List (Nat × Nat × Nat) :=
  t.outsOf (circMcast v) (circSrc v) (circDst v) (min (circHops v) 12) (circPath v)

/-- Destinations with their hop counts. -/
def Tables.ends (t : Tables) (mcast : Bool) (src dst hops : Nat) : List (Nat × Nat) :=
  if mcast then memberHops t dst src else [(dst, hops)]
def Tables.flowEnds (t : Tables) (v : Nat) : List (Nat × Nat) := t.ends (flowMcast v) (flowSrc v) (flowDst v) (flowHops v)
def Tables.circEnds (t : Tables) (v : Nat) : List (Nat × Nat) := t.ends (circMcast v) (circSrc v) (circDst v) (circHops v)

/-- First cycle at the k-th link output (R242, R252). -/
def flowAt (v k : Nat) : Nat := flowT0 v + 8 + 5 * (k - 1)
def circAt (v k : Nat) : Nat := 8 * circFirst v + 5 * (k - 1)

/-- Deliveries of SC0 flows at a local output. -/
def Tables.deliveries (t : Tables) (n : Nat) : List Resv :=
  t.flowsUsed.flatMap (fun f => ((t.flowEnds f.2).filter (fun e => e.1 = n)).map (fun e =>
    { r := n, p := 4, kind := 1, start := flowT0 f.2 + 8 + 5 * e.2, len := flowFlits f.2, slot := (flowT0 f.2 + 8 + 5 * e.2) / 8, owner := f.1 }))

/-- 0x01 OVERLAP. -/
def Tables.overlap (t : Tables) : Option Spot :=
  match strokePoints.findSome? (fun q => firstMeet [] (t.resvs q.1 q.2)) with
  | some x => some x.spot
  | none => ((List.range 48).findSome? (fun n => firstMeet [] (t.deliveries n))).map Resv.spot

/-- 0x02 GUARD. Under a guard, an SC0 reservation that covers the first cycle of the L7 slot fails (DEDUCED, log 18). -/
def Tables.guardBad (t : Tables) : Option Spot :=
  strokePoints.findSome? (fun q =>
    let sc0 := (t.resvs q.1 q.2).filter (fun x => x.kind = 1)
    (sc0.find? (fun x =>
      let gap (b : Nat) : Nat := (b + 4096 - (x.start + x.len)) % 2048
      (decide (0 < t.guard) && cyclesMeet x.start x.len (8 * t.l7slot) 1) || decide (gap (8 * t.l7slot) < t.guard)
        || sc0.any (fun y => decide (y ≠ x) && decide (gap y.start < t.guard)))).map Resv.spot)

/-- The entry that a place of a flow or circuit asks for; `none` where the output is absent. -/
def entryFor (kind r p start flits owner : Nat) : Option (Nat × Nat × Nat × Nat) :=
  if hasPort r p then some (r, p, start % 2048 / 8, kind <<< 30 ||| (start % 8) <<< 27 ||| flits <<< 23 ||| owner) else none

/-- Every entry that the flows and circuits ask for. -/
def Tables.wanted (t : Tables) : List (Nat × Nat × Nat × Nat) :=
  t.flowsUsed.flatMap (fun f => (t.flowOuts f.2).filterMap (fun o => entryFor 1 o.1 o.2.1 (flowAt f.2 o.2.2) (flowFlits f.2) f.1))
    ++ t.circuitsUsed.flatMap (fun c => (t.circOuts c.2).filterMap (fun o => entryFor 2 o.1 o.2.1 (circAt c.2 o.2.2) 0 c.1))

/-- 0x03 CHAIN. -/
def Tables.chainBad (t : Tables) : Option Spot :=
  let w := t.wanted
  match w.find? (fun x => sget 0 t.linkTab ((4 * x.1 + x.2.1) * 256 + x.2.2.1) ≠ x.2.2.2) with
  | some x => some (x.1, x.2.1, x.2.2.1, entOwner x.2.2.2)
  | none =>
    match t.linkTab.find? (fun e =>
        (decide (entKind e.2 = 1 ∨ entKind e.2 = 2) || ! hasPort (e.1 / 1024) (e.1 / 256 % 4))
          && ! w.any (fun x => decide ((4 * x.1 + x.2.1) * 256 + x.2.2.1 = e.1))) with
    | some e => some (e.1 / 1024, e.1 / 256 % 4, e.1 % 256, entOwner e.2)
    | none =>
      (t.clusTab.find? (fun e =>
        let there (l : List (Nat × Nat)) : Bool := l.any (fun d => decide (d.1 = niOfBm (e.1 / 256)))
        (decide (entKind e.2 = 1) && ! (decide (flowType (t.flow (entOwner e.2)) ≠ 0) && there (t.flowEnds (t.flow (entOwner e.2)))))
          || (decide (entKind e.2 = 2) && ! (circDefined (t.circuit (entOwner e.2)) && there (t.circEnds (t.circuit (entOwner e.2))))))).map
        (fun e => (48 + e.1 / 256, 0, e.1 % 256, entOwner e.2))

/-- Whether a path of R241 is not minimal, leaves the mesh, or names a bad end (R23, R27). -/
def pathBad (mcast : Bool) (src dst hops path lo : Nat) : Bool :=
  let okEnd (n : Nat) : Bool := validNi n && decide (n ≠ 43)
  let hs := pathHops src path (min hops 12)
  ! okEnd src || (! mcast &&
    (! okEnd dst || decide (hops < lo ∨ 12 < hops)
      || decide (hops ≠ (max (xOf dst) (xOf src) - min (xOf dst) (xOf src)) + (max (yOf dst) (yOf src) - min (yOf dst) (yOf src)))
      || hs.any (fun h => ! hasPort h.1 h.2)
      || decide ((match hs.getLast? with
          | some h => neighbour h.1 h.2
          | none => src) ≠ dst)))

/-- 0x04 PATH. -/
def Tables.paths (t : Tables) : Option Spot :=
  match t.flowsUsed.find? (fun f => pathBad (flowMcast f.2) (flowSrc f.2) (flowDst f.2) (flowHops f.2) (flowPath f.2) 0) with
  | some f => some (flowSrc f.2, 0, flowT0 f.2 / 8, f.1)
  | none =>
    (t.circuitsUsed.find? (fun c => pathBad (circMcast c.2) (circSrc c.2) (circDst c.2) (circHops c.2) (circPath c.2) 1)).map
      (fun c => (circSrc c.2, 0, circFirst c.2, c.1))

/-- 0x05 STROKE_EDGE. -/
def Tables.edges (t : Tables) : Option Spot :=
  let f := t.flowsUsed.findSome? (fun f =>
    match (t.flowOuts f.2).find? (fun o => 2047 < flowAt f.2 o.2.2 + flowFlits f.2 - 1) with
    | some o => some (o.1, o.2.1, flowAt f.2 o.2.2 / 8, f.1)
    | none => ((t.flowEnds f.2).find? (fun e => 2047 < flowT0 f.2 + 8 + 5 * e.2 + flowFlits f.2 - 1)).map (fun e => (e.1, 4, flowT0 f.2 / 8, f.1)))
  let c := t.circuitsUsed.findSome? (fun c =>
    ((t.circOuts c.2).find? (fun o => 2047 < circAt c.2 o.2.2 + 8 * circWin c.2 - 1)).map (fun o => (o.1, o.2.1, circFirst c.2, c.1)))
  let k := (List.range 24).findSome? (fun k => ((t.resvs (48 + k) 0).find? (fun x => 2047 < x.start + x.len - 1)).map Resv.spot)
  match f, c, k with
  | some x, _, _ => some x
  | none, some x, _ => some x
  | none, none, x => x

/-- 0x06 LANE: entries whose owner is not of their class, and pairs that break R249. A request or response flow names
no group, since only posted writes do (R215). -/
def Tables.lanes (t : Tables) : Option Spot :=
  let entry (r p : Nat) (e : Nat × Nat) : Option Spot :=
    if (entKind e.2 = 1 ∧ flowType (t.flow (entOwner e.2)) = 0) ∨ (entKind e.2 = 2 ∧ ! circDefined (t.circuit (entOwner e.2))) then
      some (r, p, e.1, entOwner e.2) else none
  match strokePoints.findSome? (fun q => (t.entries q.1 q.2).findSome? (entry q.1 q.2)) with
  | some x => some x
  | none =>
    (t.flowsUsed.find? (fun f =>
      let q := t.flow (flowPair f.2)
      decide (flowType f.2 ≠ 1) && (flowMcast f.2 || flowMcast q || decide (flowType q ≠ 5 - flowType f.2) || decide (flowPair q ≠ f.1)
        || decide (flowSrc q ≠ flowDst f.2 ∨ flowDst q ≠ flowSrc f.2)))).map (fun f => (flowSrc f.2, 0, flowT0 f.2 / 8, f.1))

/-- 0x07 L7_SLOT. -/
def Tables.l7Bad (t : Tables) : Option Spot :=
  strokePoints.findSome? (fun q =>
    let l := ((t.entries q.1 q.2).filter (fun e => entKind e.2 = 3)).map (·.1)
    if l = [t.l7slot] then none else some (q.1, q.2, (match l.find? (fun j => j ≠ t.l7slot) with
      | some j => j
      | none => t.l7slot), 0))

/-- 0x08 MAINT (R176). A flow or circuit keeps out of the maintenance strokes of its path by R247 and R255, so nothing
further is refused (DEDUCED, log 18). -/
def Tables.maintBad (t : Tables) : Option Spot :=
  let off (r p : Nat) : Nat := sget 0xFFFFFFFF t.maintOffset (4 * r + p)
  if t.maintPeriod ≠ 0 ∧ (t.maintPeriod < 1500 ∨ 1500000 % t.maintPeriod ≠ 0) then some (0, 0, 0, 0)
  else
    (allDirs.find? (fun q => decide (off q.1 q.2 ≠ off (neighbour q.1 q.2) (opposite q.2)))).map (fun q => (q.1, q.2, 0, 0))

/-- 0x09 CLUSTER: the cycle at which the last flit of a flow (R242), or of a circuit's window (R252), is held. -/
def Tables.clusterBad (t : Tables) : Option Spot :=
  let bad (kind owner n hold : Nat) : Option Spot :=
    match endpointOf n with
    | .bm k =>
      let js := ((t.entries (48 + k) 0).filter (fun e => decide (entKind e.2 = kind ∧ entOwner e.2 = owner))).map (·.1)
      (match js with
       | [] => some (48 + k, 0, 0, owner)
       | _ => (js.find? (fun j => 8 * j < hold)).map (fun j => (48 + k, 0, j, owner)))
    | _ => none
  match t.flowsUsed.findSome? (fun f => (t.flowEnds f.2).findSome? (fun e => bad 1 f.1 e.1 (flowT0 f.2 + 8 + 5 * e.2 + flowFlits f.2 - 1 + 6))) with
  | some x => some x
  | none => t.circuitsUsed.findSome? (fun c => (t.circEnds c.2).findSome? (fun e => bad 2 c.1 e.1 (8 * (circFirst c.2 + circWin c.2) - 1 + 5 * e.2 + 6)))

/-- 0x0A CIRCUIT. -/
def Tables.circuitBad (t : Tables) : Option Spot :=
  match t.circuitsUsed.find? (fun c => circWin c.2 < 2) with
  | some c => some (circSrc c.2, 0, circFirst c.2, c.1)
  | none => (strokePoints.findSome? (fun q => firstMeet [] ((t.resvs q.1 q.2).filter (fun x => x.kind = 2)))).map Resv.spot

/-- 0x0B GROUP. -/
def Tables.groupBad (t : Tables) : Option Spot :=
  let bad (mcast : Bool) (src g : Nat) : Bool :=
    let w := sget 0 t.groups g
    mcast && ! (decide (field w 63 62 = 2 ∧ field w 61 59 = yOf src) || decide (field w 63 62 = 3 ∧ field w 61 59 = xOf src))
  match t.flowsUsed.find? (fun f => bad (flowMcast f.2) (flowSrc f.2) (flowDst f.2)) with
  | some f => some (flowSrc f.2, 0, flowT0 f.2 / 8, f.1)
  | none => (t.circuitsUsed.find? (fun c => bad (circMcast c.2) (circSrc c.2) (circDst c.2))).map (fun c => (circSrc c.2, 0, circFirst c.2, c.1))

/-- 0x0C LIMIT. A flow whose FLITS is outside 1 to 9 (R241) fails here (DEDUCED, log 18). -/
def Tables.limitBad (t : Tables) : Option Spot :=
  if t.guard ∈ [0, 48, 96, 144, 192] then
    (t.flowsUsed.find? (fun f => flowFlits f.2 = 0 ∨ 9 < flowFlits f.2)).map (fun f => (flowSrc f.2, 0, flowT0 f.2 / 8, f.1))
  else some (0, 0, 0, 0)

/-- The first check that fails, with its code and place; PASS is 0 (R262). -/
def Tables.check (t : Tables) : Nat × Spot :=
  let all : List (Nat × (Tables → Option Spot)) :=
    [(1, Tables.overlap), (2, Tables.guardBad), (3, Tables.chainBad), (4, Tables.paths), (5, Tables.edges), (6, Tables.lanes),
     (7, Tables.l7Bad), (8, Tables.maintBad), (9, Tables.clusterBad), (10, Tables.circuitBad), (11, Tables.groupBad), (12, Tables.limitBad)]
  match all.findSome? (fun c => (c.2 t).map (fun p => (c.1, p))) with
  | some x => x
  | none => (0, 0, 0, 0, 0)

end Sys2Proof.Machine
end

