-- ==== Sys2Proof/Machine/Boathouse.lean ====
section
/-! DEFINITION. The Boathouse: grants of the management matrix, Springhead's commands and scripts, the end of image
validation and of the loader, the SPI flash (chapter 12). -/

namespace Sys2Proof.Machine

/-! ### The management matrix -/

/-- Master that a target granted last: to begin with, the one it parks on (R482, R486). -/
def Boat.lastGrant (b : Boat) (target : Nat) : Nat := (sfind b.granted target).getD (if target = 0 then 0 else 1)

/-- The transaction that a master has outstanding (R484). -/
def Boat.outstanding (b : Boat) (master : Nat) : Option MatReq := (sget [] b.asks master).head?

/-- The transaction that a target grants next, with its master: round-robin, starting after the master granted last (R486). -/
def Boat.next (b : Boat) (target : Nat) : Option (Nat × MatReq) :=
  (List.range 5).findSome? (fun j =>
    let m := (b.lastGrant target + 1 + j) % 5
    ((b.outstanding m).filter (fun q => decide (q.target = target))).map (fun q => (m, q)))

/-- A target has granted a master's transaction and completed its last beat. -/
def Boat.grant (b : Boat) (target master : Nat) : Boat :=
  { b with asks := sput [] b.asks master (sget [] b.asks master).tail, granted := sins b.granted target master }

/-- JTAG reads the answer to its transaction: none is an error response. -/
def State.jtagAnswer (s : State) (bs : Option Bytes) : State := { s with boat := { s.boat with jtagOut := some bs } }

/-- JTAG accesses a path that does not exist: an error response, counted and recorded (R483, R524). The other masters' accesses
have their paths. -/
def State.matrixError (s : State) (write : Bool) (addr : Nat) : State :=
  ((s.bump 0x2600 3).obSet 0x2600 4 (4 * 2 ^ 29 + b2n write * 2 ^ 28 + addr % 2 ^ 28)).jtagAnswer none

/-- Whether JTAG reaches a target (R482, R489); the flash controller's window is for reads. -/
def State.jtagReaches (s : State) (target : Nat) (write : Bool) (addr : Nat) : Bool :=
  matrixPath s.boat.debug 4 target write && ! (write && decide (flashWindow ≤ addr ∧ addr < flashWindow + flashWindowSize))

/-- JTAG presents a transaction, unless one of its own is outstanding (R483, R484). -/
def State.jtagPresent (s : State) (a : JtagAccess) : State :=
  if (s.boat.outstanding 4).isSome then s
  else match matrixDecode s.boat.remap a.addr (a.size * a.beats) with
    | none => s.matrixError a.write a.addr
    | some t =>
      if ! s.jtagReaches t a.write a.addr then s.matrixError a.write a.addr
      else
        let q : MatReq := { target := t, write := a.write, addr := a.addr, size := a.size, beats := a.beats, data := a.data, obj := a.obj }
        { s with boat := { s.boat with asks := sput [] s.boat.asks 4 [q] } }

/-- What a target holds at its bytes from an offset on, where it holds bytes: the staging SRAM and the flash; a byte that the manual
does not give is open. -/
def State.matrixBytes (s : State) (target off n : Nat) : Bytes :=
  (List.range n).map (fun j =>
    match target with
    | 1 => (sfind s.img.staging (off + j)).getD (Config.matrixByte 1 (off + j))
    | 7 => if s.boat.flash.fitted then (sfind s.boat.flash.mem (off + j)).getD 0xFF else Config.matrixByte 7 (off + j)
    | _ => Config.matrixByte target (off + j))

/-- What JTAG's granted transaction does (R482, R488, R489): it reads or writes the bytes of a memory, or an object with Springhead's
rights; REMAP is written by it alone. The path may have gone with debug mode since the ask. The object that an address names
is not in the manual (DESIGN CHOICE, log 129). -/
def State.jtagAccess (s : State) (q : MatReq) : State :=
  let n := q.size * q.beats
  let window := decide (flashWindow ≤ q.addr ∧ q.addr < flashWindow + flashWindowSize)
  if ! s.jtagReaches q.target q.write q.addr then s.matrixError q.write q.addr
  else if window then s.jtagAnswer (some (s.matrixBytes 7 (q.addr - flashWindow) n))
  else
    let off := q.addr - matrixBase s.boat.remap q.target
    match q.obj.filter (fun o => decide (1 < q.target ∧ matrixTarget o.1 = q.target)) with
    | none =>
      if ! q.write then s.jtagAnswer (some (s.matrixBytes q.target off n))
      else (if q.target = 1 then s.stageBytes off q.data else s).jtagAnswer (some [])
    | some (i, sub) =>
      if ! q.write then
        (if (s.readRefused .springhead i sub).isSome then s.jtagAnswer none
         else
           let (bs, s) := s.readBytes .springhead i sub
           s.jtagAnswer (some (padTo n (bs.take n))))
      else if i = 0x2600 ∧ sub = 2 then
        ({ s with boat := { s.boat with remap := bitAt (fromLe q.data) 0 } }).jtagAnswer (some [])
      else
        let (s, r) := s.write { who := .springhead, index := i, sub := sub, data := q.data }
        s.jtagAnswer (if r.isNone then some [] else none)

/-- MATRIX_GRANT (R484 to R486): a target grants the next master and holds the path to the last beat. `jtag` is what the JTAG
master presents by then. -/
def execMatrixGrant (turn : MatrixTurn) (s : State) : Host.Outcome State Fault Refusal :=
  let target := turn.target.val
  done s (
    let s := turn.jtag.elim s s.jtagPresent
    match s.boat.next target with
    | none => s
    | some (m, q) =>
      let s := { s with boat := s.boat.grant target m }
      if m = 4 then s.jtagAccess q else s)

/-! ### Springhead: scripts -/

/-- A script ends with a result (R495). -/
def State.springDone (s : State) (result : Nat) : State :=
  ({ s with boat := { s.boat with spring := .idle, stack := [] } }).obSet 0x2610 7 result

/-- A script stops early: a class F fault for the boot script, class U for a trap script (R495). -/
def State.springStop (s : State) (result : Nat) : State :=
  let pc := s.boat.pc % 65536
  match s.boat.spring with
  | .idle => s
  | .boot => (s.springDone result).raise 0x0C01 3 0x41 0 (result * 65536 + pc)
  | .trap => ((s.springDone result).bump 0x2610 6).raise 0x0C02 2 0x41 0 (s.boat.trapKind * 65536 + pc)

/-- Continues at a command. -/
def State.springTo (s : State) (pc : Nat) : State := { s with boat := { s.boat with pc := pc } }

/-- Whether a command is the one that Springhead has fetched for a row of opcode `op`: in a trap script the command at
the counter; where the manual prints no command (the boot ROM, and the trap store past the last command), any. An
opcode that R492 does not list belongs to every row. -/
def State.fetched (s : State) (op : Nat) (c : SpringCmd) : Bool :=
  (decide (c.op = op) || decide (7 < c.op)) &&
  (match s.boat.spring with
   | .idle => false
   | .boot => true
   | .trap => match s.boat.cmds[s.boat.pc]? with
     | some d => decide (c = d)
     | none => true)

/-- Commands of the script that runs, where that is known. -/
def State.scriptLen (s : State) : Option Nat :=
  match s.boat.spring with
  | .trap => some s.boat.cmds.length
  | _ => none

/-- Runs a fetched command; a bad one stops the script (R492, R495). -/
def State.spring (s : State) (op : Nat) (c : SpringCmd) (run : State → State) : State :=
  if ! s.fetched op c then s else if cmdBad s.scriptLen c then s.springStop 1 else run s

/-- Objects that Springhead is refused outright (R494). -/
def springBarred (i sub : Nat) : Bool :=
  decide (i = 0x2010) || (decide (0x2080 ≤ i) && decide (i ≤ 0x209F)) || (decide (0x2600 ≤ i) && decide (i ≤ 0x26FF))
    || (match objInfo i sub with
        | some o => decide (tySize o.ty = 0)
        | none => true)

/-- A read by Springhead; none where it is refused (R494). -/
def State.springRead (s : State) (c : SpringCmd) : Option Nat × State :=
  if springBarred c.index c.sub || (s.readRefused .springhead c.index c.sub).isSome then (none, s)
  else
    let (v, s) := (s.matrixAsk 0 (matrixTarget c.index) false 0 (2 ^ c.size)).readNum .springhead c.index c.sub
    (some v, s)

/-- Refusals of a write that stop a script: those under R16, R55 and the access type. Other refusals leave the object
as it is and the script goes on (DEDUCED, log 89). -/
def springFatal (code : Nat) : Bool :=
  decide (code = 0x06090030 ∨ code = 0x08000021 ∨ code = 0x06010001 ∨ code = 0x06010002)

/-- (object & MASK) COND VALUE (R492, R493). -/
def condHolds (c : SpringCmd) (v : Nat) : Bool :=
  let m := v &&& c.mask
  match c.cond with
  | 0 => true
  | 1 => decide (m = c.value)
  | 2 => decide (m ≠ c.value)
  | 3 => decide (m < c.value)
  | _ => decide (c.value ≤ m)

/-- The value that a WRITE stores, with the read that a partial mask takes (R492). -/
def State.springValue (s : State) (c : SpringCmd) : Option Nat × State :=
  let w := 2 ^ (8 * 2 ^ c.size)
  if c.mask % w = w - 1 then (some (c.value % w), s)
  else match s.springRead c with
    | (none, s) => (none, s)
    | (some v, s) => (some (((c.value &&& c.mask) ||| (v - (v &&& c.mask))) % w), s)

/-- WRITE of a script (R492, R494). -/
def State.springWrite (s : State) (c : SpringCmd) : State :=
  if springBarred c.index c.sub then s.springStop 3
  else match s.springValue c with
    | (none, s) => s.springStop 3
    | (some v, s) =>
      let (s, r) := s.writeAsking (fun s => s.matrixAsk 0 (matrixTarget c.index) true 0 (2 ^ c.size))
        { who := .springhead, index := c.index, sub := c.sub, data := leBytes v (2 ^ c.size) }
      match r with
      | some code => if springFatal code then s.springStop 3 else s.springTo (s.boat.pc + 1)
      | none => s.springTo (s.boat.pc + 1)

/-! ### Flash -/

/-- A run of the flash's bytes; an erased byte is 0xFF. -/
def flashFrom : Nat → Nat → SMap Byte → Bytes
  | _, 0, _ => []
  | _, n + 1, [] => List.replicate (n + 1) 0xFF
  | i, n + 1, (j, v) :: rest => if j = i then v :: flashFrom (i + 1) n rest else 0xFF :: flashFrom (i + 1) n ((j, v) :: rest)

/-- Bytes of the flash from an address. -/
def Flash.bytes (f : Flash) (addr len : Nat) : Bytes := flashFrom addr len (f.mem.filter (fun e => decide (addr ≤ e.1)))

/-- Addresses of a slot's record and image (R519). -/
def slotRecord (slotB : Bool) : Nat := if slotB then 0x400000 else 0x100000
def slotImage (slotB : Bool) : Nat := slotRecord slotB + 0x1000

/-- A slot's record, when step 2 of R520 keeps it. -/
def Flash.record (f : Flash) (slotB : Bool) : Option Bytes :=
  let r := f.bytes (slotRecord slotB) 64
  if leAt r 0 4 = 0x4C53575A ∧ crc32c (r.take 60) = leAt r 60 4 ∧ leAt r 4 4 ≠ 0 ∧ leAt r 4 4 ≠ 0xFFFFFFFF ∧ leAt r 8 4 ≤ 2097152 then some r
  else none

/-- GENERATION of a slot; 0 without a valid record. -/
def Flash.slotGen (f : Flash) (slotB : Bool) : Nat :=
  match f.record slotB with
  | some r => leAt r 4 4
  | none => 0

/-- Kept slots in descending GENERATION order, 1 A and 2 B. -/
def Flash.order (f : Flash) : List Nat :=
  let a := f.slotGen false
  let b := f.slotGen true
  if a = 0 ∧ b = 0 then [] else if b = 0 then [1] else if a = 0 then [2] else if a < b then [2, 1] else [1, 2]

/-- The next kept slot is loaded, into staging that a transfer may still hold open: that one ends BUSY (R508; DESIGN CHOICE, log 130). With none left the image state is EMPTY, the flash-boot fault is raised and the boot
script ends (R520). -/
def State.slotNext (s : State) (slots : List Nat) : State :=
  match slots with
  | [] => (({ s with img := { s.img with slots := [], state := .empty } }).raise 0x0B02 1 0x43 0 0).springDone 0
  | _ =>
    let s := s.xferAbort 2
    { s with img := { s.img with slots := slots, state := .loadingFlash } }

/-- Flash boot starts: the identifier and both records (R520). -/
def State.flashBoot (s : State) : State :=
  if ¬ s.otp.flashBoot then s.springDone 0
  else
    let f := s.boat.flash
    if ¬ f.fitted then s.slotNext []
    else
      let s := { s with boat := { s.boat with flash := { f with state := .ready } } }
      (((s.obSet 0x2620 2 f.ident).obSet 0x2620 5 (f.slotGen false)).obSet 0x2620 6 (f.slotGen true)).slotNext f.order

/-- The image of the slot under test has been read: its CRC is checked, and it goes to validation (R520). -/
def State.slotLoaded (s : State) : State :=
  match s.img.slots with
  | [] => s
  | k :: rest =>
    let b : Bool := decide (k = 2)
    match s.boat.flash.record b with
    | none => s.slotNext rest
    | some r =>
      let img := s.boat.flash.bytes (slotImage b) (leAt r 8 4)
      if crc32c img ≠ leAt r 12 4 then s.slotNext rest
      else
        let flags := leAt r 16 4
        let s := ({ s with img := { s.img with staging := [] } }).stageBytes 0 img
        ({ s with img := { s.img with state := .validating, seen := s.dev, autoLaunch := bitAt flags 0, autoStart := bitAt flags 0 && bitAt flags 1 } }).obSet 0x2602 5 (2 + k)

/-! ### The boot script -/

/-- Whether the B18 pins are driven: without VIO18, which pin position 13 reports, they stay high-impedance, and the flash is neither
read nor written (R643). -/
def State.b18 (s : State) : Bool := ! s.flt.pinRaw.contains 13

/-- PD03 reaches ON: every link initialises (R181). -/
def State.linksInit (s : State) : State :=
  (allDirs.filter (fun q => decide (q.2 = 1 ∨ q.2 = 2))).foldl (fun s q => s.linkTo q.1 q.2 .init) (s.setDomain 3 .on)

/-- The next step of the boot script (R577), once its work is done; none begins while a chip reset lasts (R581). Steps 2, 3 and 5 find no failure: the latches of
pins 24 to 27 are commands of their own. -/
def State.bootStep (s : State) : State :=
  let k := s.ob 0x2610 0xA + 1
  let at_ (s : State) : State := s.obSet 0x2610 0xA k
  if s.aon.resetting.isSome ∨ (k ≤ 8 ∧ s.dev ≠ .muster) then s
  else match k with
    | 4 => if s.cox.pll then at_ s else s
    | 6 => at_ s.linksInit
    | 7 => at_ ((s.wake 48).wake 49)
    | 8 => if s.domain 48 = .waking ∨ s.domain 49 = .waking then s else (at_ s).enterMoored
    | 9 => if s.dev = .moored then (at_ s).flashBoot else s.springDone 0
    | _ => if k < 9 then at_ s else if s.img.state = .loadingFlash ∧ s.b18 then s.slotLoaded else s

/-! ### Springhead: the rows -/

/-- END (R492). -/
def execSpringEnd (c : SpringCmd) (s : State) : Host.Outcome State Fault Refusal :=
  done s (s.spring 0 c (fun s => s.springDone 0))

/-- SPRINGHEAD_WRITE (R492), or a step of the boot script in the ROM. -/
def execSpringheadWrite (a : SpringAct) (s : State) : Host.Outcome State Fault Refusal :=
  done s (
    match a with
    | .script c => s.spring 1 c (fun s => s.springWrite c)
    | .boot => if s.boat.spring = .boot then s.bootStep else s)

/-- WAIT (R492): one read of the object; `timeUp` tells that TIME µs have passed. -/
def execSpringWait (c : SpringCmd) (timeUp : Bool) (s : State) : Host.Outcome State Fault Refusal :=
  done s (s.spring 2 c (fun s =>
    match s.springRead c with
    | (none, s) => s.springStop 3
    | (some v, s) => if condHolds c v then s.springTo (s.boat.pc + 1) else if timeUp then s.springTo c.target else s))

/-- CALL (R492): the stack holds 4 entries. -/
def execSpringCall (c : SpringCmd) (s : State) : Host.Outcome State Fault Refusal :=
  done s (s.spring 3 c (fun s =>
    if s.boat.stack.length ≥ 4 then s.springStop 2
    else ({ s with boat := { s.boat with stack := (s.boat.pc + 1) :: s.boat.stack } }).springTo c.target))

/-- RETURN (R492): with an empty stack it acts as END. -/
def execSpringReturn (c : SpringCmd) (s : State) : Host.Outcome State Fault Refusal :=
  done s (s.spring 4 c (fun s =>
    match s.boat.stack with
    | [] => s.springDone 0
    | pc :: rest => ({ s with boat := { s.boat with stack := rest } }).springTo pc))

/-- CMP_BR (R492). -/
def execSpringCmpBr (c : SpringCmd) (s : State) : Host.Outcome State Fault Refusal :=
  done s (s.spring 5 c (fun s =>
    match s.springRead c with
    | (none, s) => s.springStop 3
    | (some v, s) => s.springTo (if condHolds c v then c.target else s.boat.pc + 1)))

/-- DELAY (R492): the command is its end. -/
def execSpringDelay (c : SpringCmd) (s : State) : Host.Outcome State Fault Refusal :=
  done s (s.spring 6 c (fun s => s.springTo (s.boat.pc + 1)))

/-- RAISE (R492). -/
def execSpringRaise (c : SpringCmd) (s : State) : Host.Outcome State Fault Refusal :=
  done s (s.spring 7 c (fun s => (s.raise 0x0C03 c.cond 0x41 0 c.code).springTo (s.boat.pc + 1)))

/-- TRAP_REQUEST (R497, R498): the first queued request starts its script, or the ROM default trap, once Springhead is
idle. -/
def execTrapRequest (s : State) : Host.Outcome State Fault Refusal :=
  done s (
    match s.boat.spring, s.boat.trapQ with
    | .idle, k :: rest =>
      let s := ({ s with boat := { s.boat with trapQ := rest, trapKind := k, stack := [] } }).bump 0x2610 4
      match s.boat.vector.find? (fun e => decide (e.1 = k)) with
      | some e => { s with boat := { s.boat with spring := .trap, pc := e.2 } }
      | none => (s.obSet 0x2610 8 k).springDone 0
    | _, _ => s)

/-- TRAP_BUDGET_EXPIRY (R499). -/
def execTrapBudgetExpiry (s : State) : Host.Outcome State Fault Refusal :=
  done s (if s.boat.spring = .trap then s.springStop 4 else s)

/-! ### Validation, loading, staging -/

/-- The schedule checker's report (R261, R264); its duration is a free value within R261's bound. -/
def State.checked (s : State) (r : Nat × Nat × Nat × Nat × Nat) : State :=
  let (t, s) := s.drawNat
  let s := (((s.obSet 0x3301 1 r.1).obSet 0x3301 2 r.2.1).obSet 0x3301 3 r.2.2.1).obSet 0x3301 4 r.2.2.2.1
  (s.obSet 0x3301 5 r.2.2.2.2).obSet 0x3301 6 (t % 20001)

/-- Steps 1 to 15 of R509 and INTERRUPTED: code and detail of the first that refuses. -/
def State.validate (s : State) (img : Bytes) : Option (Nat × Nat) × State :=
  match s.stepsOne img s.img.seen with
  | some e => (some e, s)
  | none => match s.stepsTwo img with
    | some e => (some e, s)
    | none =>
      let r := (imgTables img).check
      let s := s.checked r
      if r.1 ≠ 0 then (some (0xE, 0), s)
      else match trapsBad img with
        | some k => (some (0xF, k), s)
        | none => if s.dev ≠ s.img.seen then (some (0x10, devNum s.dev), s) else (none, s)

/-- A refused image (R510); the boot script tries the next slot (R520). -/
def State.imageBad (s : State) (code detail : Nat) : State :=
  let s := ((s.obSet 0x2603 1 code).obSet 0x2603 2 detail).bump 0x2603 5
  let s := ({ s with img := { s.img with state := .empty, xfer := .idle, staging := [], autoLaunch := false, autoStart := false } }).obSet 0x2602 5 0
  let s := s.raise 0x0B01 1 0x42 0 (code * 2 ^ 32 + detail)
  match s.img.slots with
  | [] => s
  | _ :: rest => s.slotNext rest

/-- An accepted image (R510, R521). -/
def State.imageGood (s : State) (img : Bytes) : State :=
  let s := ((s.obSet 0x2603 1 0).obSet 0x2603 2 0).bump 0x2603 4
  let s := ((s.obSet 0x2602 3 (imgKind img)).obSet 0x2602 4 (imgGeneration img)).obSet 0x2602 8 s.stamp
  let s := s.obSet 0x2604 2 (if imgSigned img then (keySlot s.otp img).getD 0 else 0)
  let s := { s with img := { s.img with state := .validated, buildId := imgBuild img } }
  match s.img.slots with
  | [] => s
  | k :: _ =>
    let launch : Bool := s.img.autoLaunch && ! s.imageRefused 1
    let s := ({ s with img := { s.img with slots := [], autoLaunch := false } }).obSet 0x2620 7 k
    (if launch then s.imageCommand 1 else { s with img := { s.img with autoStart := false } }).springDone 0

/-- IMAGE_VALIDATION_COMPLETE (R509, R510). VALID_TIME is a free value within R509's bound. -/
def execImageValidationComplete (s : State) : Host.Outcome State Fault Refusal :=
  done s (
    if s.img.state ≠ .validating then s
    else
      let img := s.staged
      let (r, s) := s.validate img
      let (t, s) := s.drawNat
      let s := s.obSet 0x2603 3 (t % 250001)
      match r with
      | some e => s.imageBad e.1 e.2
      | none => s.imageGood img)

/-- LOADER_COMPLETE (R512): objects, trap store and tables are in place; LAUNCH follows at the next stroke boundary. -/
def execLoaderComplete (s : State) : Host.Outcome State Fault Refusal :=
  done s (
    if s.img.state ≠ .loading ∨ s.img.loaderDone then s
    else
      let img := s.staged
      let s := (objRecords img.length (imgBytes img 1)).foldl State.loadRecord s
      let b := imgBytes img 4
      let s := { s with boat := { s.boat with vector := if b.isEmpty then [] else trapVector b, cmds := trapCmds b } }
      { s with img := { s.img with shadow := some (imgTables img), loaderDone := true } })

/-- HEAT_IMAGE_STAGED (R514). -/
def execHeatImageStaged (s : State) : Host.Outcome State Fault Refusal :=
  done s (
    if s.img.state = .validated ∧ s.ob 0x2602 3 = 2 then
      { s with img := { s.img with shadow := some (imgTables s.staged), state := .staged } }
    else s)

/-! ### Flash operations -/

/-- Bytes of a run of addresses are stored; an erased byte is not listed. -/
def flashPut (m : SMap Byte) (addr : Nat) (data : Bytes) : SMap Byte :=
  ((List.range data.length).zip data).foldl (fun m e => sput 0xFF m (addr + e.1) e.2) m

/-- A 4 KiB sector is erased. -/
def flashErase (m : SMap Byte) (addr : Nat) : SMap Byte := m.filter (fun e => decide (e.1 < addr ∨ addr + 4096 ≤ e.1))

/-- A slot record with flags 0 (R519, R522). -/
def slotBytes (generation : Nat) (image : Bytes) : Bytes :=
  let b := leBytes 0x4C53575A 4 ++ leBytes generation 4 ++ leBytes image.length 4 ++ leBytes (crc32c image) 4 ++ List.replicate 44 0
  b ++ leBytes (crc32c b) 4

def State.setFlash (s : State) (f : Flash) : State := { s with boat := { s.boat with flash := f } }

/-- The staged bytes that an operation copies (R522, R526). -/
def State.flashImage (s : State) (o : FlashOp) : Bytes := denseFrom 0 o.len s.img.staging

/-- An operation has read its last staged byte, or stopped: a START change that waits for that empties staging (R526). -/
def State.flashRead (s : State) : State := if s.img.emptying then s.discardImage else s

/-- The operation ends with a result. -/
def State.flashEnd (s : State) (result : Nat) : State :=
  (s.setFlash { s.boat.flash with state := .ready, op := none }).obSet 0x2620 8 result

/-- Sub-index of a slot's generation. -/
def genSub (slotB : Bool) : Nat := if slotB then 6 else 5

/-- An erase or program of the operation has completed, and the next begins (R522). -/
def State.flashNext (s : State) (o : FlashOp) : State :=
  let f := s.boat.flash
  let next (o : FlashOp) (m : SMap Byte) : State := s.setFlash { f with mem := m, op := some o }
  let base := slotImage o.slotB
  match o.phase with
  | 0 =>
    let m := flashErase f.mem (slotRecord o.slotB)
    let t := (next { o with phase := 1, pos := 0 } m).obSet 0x2620 (genSub o.slotB) 0
    if o.erase then t.flashEnd 0 else t
  | 1 =>
    let m := flashErase f.mem (base + o.pos)
    let p := o.pos + 4096
    next (if p < o.len then { o with pos := p } else { o with phase := 2, pos := 0 }) m
  | 2 =>
    let m := flashPut f.mem (base + o.pos) (slice (s.flashImage o) o.pos 256)
    let p := min (o.pos + 256) o.len
    (next (if p < o.len then { o with pos := p } else { o with phase := 3, pos := 0 }) m).obSet 0x2620 9 p
  | 3 =>
    (if f.bytes base o.len = s.flashImage o then next { o with phase := 4, record := slotBytes o.generation (s.flashImage o) } f.mem
     else s.flashEnd 2).flashRead
  | _ => ((next o (flashPut f.mem (slotRecord o.slotB) o.record)).obSet 0x2620 (genSub o.slotB) o.generation).flashEnd 0

/-- FLASH_OPERATION_COMPLETE (R523). Without a device, or without VIO18 (R643), nothing completes. -/
def execFlashOperationComplete (s : State) : Host.Outcome State Fault Refusal :=
  done s (
    match s.boat.flash.op with
    | some o => if s.boat.flash.fitted ∧ s.b18 then s.flashNext o else s
    | none => s)

/-- FLASH_TIMEOUT (R523). -/
def execFlashTimeout (s : State) : Host.Outcome State Fault Refusal :=
  done s (
    match s.boat.flash.op with
    | some o =>
      let addr := if o.phase = 0 ∨ 4 ≤ o.phase then slotRecord o.slotB else slotImage o.slotB + o.pos
      ((s.setFlash { s.boat.flash with state := .error, op := none }).obSet 0x2620 8 1).flashRead.raise 0x0B03 2 0x43 0 addr
    | none => s)

end Sys2Proof.Machine
end

