-- ==== Sys2Proof/Machine/Can.lean ====
section
/-! DEFINITION. The management bus: NMT, the SDO server, PDOs with SYNC and the output hold, heartbeats, EMCY and the
states of the CAN controller (chapter 02). -/

namespace Sys2Proof.Machine

/-! ### NMT -/

/-- Device states in which the CiA 301 services run (R63). -/
def State.onBus (s : State) : Bool := decide (s.dev ≠ .standby ∧ s.dev ≠ .muster)

/-- Whether an NMT command names the hub: its own node-ID or 0 (R61). NMT is ignored in MUSTER (R63). -/
def State.named (s : State) (node : Nat) : Bool := s.onBus && decide (node = 0 ∨ node = s.nodeId)

/-- Level of CAN_STBY: high in STANDBY and low in every other state (R56). -/
def State.canStby (s : State) : Bool := decide (s.dev = .standby) && s.aon.vaux

def State.setNmt (s : State) (n : NmtState) : State := { s with can := { s.can with nmt := n } }

/-- NMT Start remote node (R64, R65). -/
def execNmtStartRemoteNode (node : Nat) (s : State) : Host.Outcome State Fault Refusal :=
  done s (
    if ! s.named node then s
    else match s.dev with
      | .moored => s.obSet 0x2000 3 1
      | .launch => s.obSet 0x2000 3 1
      | .afloat => s.setNmt .operational
      | .easy => s
      | .halted => s
      | .standby => s
      | .muster => s)

/-- NMT Enter pre-operational (R65). -/
def execNmtEnterPreOperational (node : Nat) (s : State) : Host.Outcome State Fault Refusal :=
  done s (if s.named node then s.setNmt .preOperational else s)

/-- NMT Stop remote node (R65). -/
def execNmtStopRemoteNode (node : Nat) (s : State) : Host.Outcome State Fault Refusal :=
  done s (if s.named node then s.setNmt .stopped else s)

/-- NMT Reset communication (R66, R68, R103). The PDOs, the monitored stations and the SYNC watch, whose objects it
restores, start afresh (DEDUCED, log 61). -/
def State.resetCommunication (s : State) : State :=
  let s := s.forget (fun k => decide (0x1000 ≤ keyIdx k) && decide (keyIdx k ≤ 0x1FFF))
  let s := (s.obSet 0x2022 3 0).obSet 0x2010 4 0
  let s := { s with can := { s.can with nmt := .preOperational, watched := [], timedOut := [], syncLost := false, rpdo := [], rpdoAge := [], tpdoAge := [] } }
  let s := s.releaseClaim.xferAbort 7
  let s := { s with can := { s.can with nominal := s.ob 0x2004 1, data := s.ob 0x2004 2 } }
  s.bootUpMessage.emcyCleared

def execNmtResetCommunication (node : Nat) (s : State) : Host.Outcome State Fault Refusal :=
  done s (if s.named node then s.resetCommunication else s)

/-- NMT Reset node (R67, R94). -/
def execNmtResetNode (node : Nat) (s : State) : Host.Outcome State Fault Refusal :=
  done s (
    if ! s.named node then s
    else if s.ob 0x2000 5 = 1 then s.beginReset 2
    else s.bump 0x2011 4)

/-! ### The SDO server -/

/-- SDO service: every device state but STANDBY (R63); in NMT state Stopped only in HALTED (CiA 301). -/
def State.sdoServed (s : State) : Bool :=
  decide (s.dev ≠ .standby) && (decide (s.can.nmt ≠ .stopped) || decide (s.dev = .halted))

/-- An SDO answer of eight bytes (CiA 301). -/
def State.sdoSend (s : State) (data : Bytes) : State := s.sendFrame { id := 0x580 + s.nodeId, data := padTo 8 data }

/-- Index and sub-index as an SDO carries them. -/
def sdoMux (index sub : Nat) : Bytes := leBytes index 2 ++ leBytes sub 1

/-- The transfer in progress ends. -/
def State.sdoEnd (s : State) : State := { s with dict := { s.dict with sdo := none } }

/-- The transfer in progress is aborted with a code. -/
def State.sdoAbortNow (s : State) (code : Nat) : State :=
  match s.dict.sdo with
  | some x => s.sdoEnd.sdoAbort x.index x.sub code
  | none => s

/-- A request enters the queue of 16, or is refused (R98): a refused segment ends its transfer. -/
def State.enqueue (s : State) (r : SdoReq) : State :=
  let s := s.makeRoom (.sdo r)
  if s.dict.queue.length ≥ 16 then
    let s := s.bump 0x2011 3
    let (i, j) := s.sdoNames r
    match r with
    | .segDownload _ _ _ => s.sdoAbortNow 0x08000020
    | .segUpload _ => s.sdoAbortNow 0x08000020
    | _ => s.sdoAbort i j 0x08000020
  else s.queueRequest (.sdo r)

/-- A request that is no segment aborts a transfer in progress (R69) and is not served itself. -/
def State.sdoInitiate (s : State) (r : SdoReq) : State :=
  if ! s.sdoServed then s
  else if s.dict.sdo.isSome then s.sdoAbortNow 0x05040001
  else s.enqueue r

/-- The toggle bit of the transfer's next segment: it alternates over the segments that wait for service too (R71). -/
def State.nextToggle (s : State) (x : SdoXfer) : Bool :=
  x.toggle ^^ decide ((s.dict.queue.filter DictReq.segment).length % 2 = 1)

/-- A segment: none is expected without a transfer of its direction, and its toggle bit alternates (R71). -/
def State.sdoSegment (s : State) (download toggle : Bool) (r : SdoReq) : State :=
  if ! s.sdoServed then s
  else match s.dict.sdo with
    | none => s.sdoAbort 0 0 0x05040001
    | some x =>
      if x.download ≠ download then s.sdoAbortNow 0x05040001
      else if s.nextToggle x ≠ toggle then s.sdoAbortNow 0x05030000
      else s.enqueue r

def execSdoInitiateDownload (index sub : Nat) (expedited : Bool) (data : Bytes) (s : State) : Host.Outcome State Fault Refusal :=
  done s (s.sdoInitiate (.initDownload index sub expedited data))
def execSdoInitiateUpload (index sub : Nat) (s : State) : Host.Outcome State Fault Refusal := done s (s.sdoInitiate (.initUpload index sub))
def execSdoDownloadSegment (toggle last : Bool) (data : Bytes) (s : State) : Host.Outcome State Fault Refusal :=
  done s (s.sdoSegment true toggle (.segDownload toggle last data))
def execSdoUploadSegment (toggle : Bool) (s : State) : Host.Outcome State Fault Refusal := done s (s.sdoSegment false toggle (.segUpload toggle))

/-- SDO_ABORT_TRANSFER: the client ends the transfer (R69). -/
def execSdoAbortTransfer (s : State) : Host.Outcome State Fault Refusal := done s (if s.sdoServed then s.sdoEnd else s)

/-- SDO_UNSUPPORTED_COMMAND (R61, R69). -/
def execSdoUnsupportedCommand (index sub : Nat) (s : State) : Host.Outcome State Fault Refusal :=
  done s (
    if ! s.sdoServed then s
    else if s.dict.sdo.isSome then s.sdoAbortNow 0x05040001
    else s.sdoAbort index sub 0x05040001)

/-- SDO_SEGMENT_TIMEOUT (R70). -/
def execSdoSegmentTimeout (s : State) : Host.Outcome State Fault Refusal := done s (s.sdoAbortNow 0x05040000)

/-- Abort codes that an initiate download of several segments can meet before its data are there (R645, orders 2 to 5). -/
def earlyCode (code : Nat) : Bool :=
  decide (code = 0x06020000 ∨ code = 0x06090011 ∨ code = 0x06010002 ∨ code = 0x08000022 ∨ code = 0x08000021)

/-- An SDO write of the whole object. -/
def State.sdoWrite (s : State) (index sub : Nat) (data good : Bytes) : State :=
  let (s, r) := s.writeAsking (fun s => s.matrixAsk 1 (matrixTarget index) true 0 data.length) { who := .path .can, index := index, sub := sub, data := data }
  match r with
  | some c => s.sdoAbort index sub c
  | none => s.sdoSend good

/-- Serves an SDO request (R69, R98). -/
def State.serveSdo (s : State) (r : SdoReq) : State :=
  match r with
  | .initDownload i j expedited data =>
    if s.dict.sdo.isSome then s.sdoAbortNow 0x05040001
    else if expedited then s.sdoWrite i j data ([0x60] ++ sdoMux i j)
    else match s.writeRefused { who := .path .can, index := i, sub := j, data := [] } with
      | some c =>
        if earlyCode c then s.sdoAbort i j c
        else ({ s with dict := { s.dict with sdo := some { download := true, index := i, sub := j } } }).sdoSend ([0x60] ++ sdoMux i j)
      | none => ({ s with dict := { s.dict with sdo := some { download := true, index := i, sub := j } } }).sdoSend ([0x60] ++ sdoMux i j)
  | .segDownload toggle last data =>
    (match s.dict.sdo with
     | some x =>
       if ! x.download then s
       else
         let ok : Bytes := [BitVec.ofNat 8 (0x20 + 16 * b2n toggle)]
         if last then s.sdoEnd.sdoWrite x.index x.sub (x.buf ++ data) ok
         else ({ s with dict := { s.dict with sdo := some { x with toggle := ! x.toggle, buf := x.buf ++ data } } }).sdoSend ok
     | none => s.sdoAbort 0 0 0x05040001)
  | .initUpload i j =>
    if s.dict.sdo.isSome then s.sdoAbortNow 0x05040001
    else match s.readRefused (.path .can) i j with
      | some c => s.sdoAbort i j c
      | none =>
        let (bs, s) := s.readBytes (.path .can) i j
        let s := s.matrixAsk 1 (matrixTarget i) false 0 bs.length
        if 1 ≤ bs.length ∧ bs.length ≤ 4 then s.sdoSend ([BitVec.ofNat 8 (0x43 + 4 * (4 - bs.length))] ++ sdoMux i j ++ bs)
        else
          ({ s with dict := { s.dict with sdo := some { download := false, index := i, sub := j, buf := bs } } }).sdoSend
            ([0x41] ++ sdoMux i j ++ leBytes bs.length 4)
  | .segUpload toggle =>
    match s.dict.sdo with
    | some x =>
      if x.download then s
      else
        let part := x.buf.take 7
        let rest := x.buf.drop 7
        let s := s.sdoSend ([BitVec.ofNat 8 (16 * b2n toggle + 2 * (7 - part.length) + b2n rest.isEmpty)] ++ part)
        if rest.isEmpty then s.sdoEnd else { s with dict := { s.dict with sdo := some { x with toggle := ! x.toggle, buf := rest } } }
    | none => s.sdoAbort 0 0 0x05040001

/-! ### PDOs -/

/-- Whether PDO communication runs (R63). -/
def State.pdoRuns (s : State) : Bool := decide (s.can.nmt = .operational)

/-- Objects that a PDO maps: index, sub-index and bytes of each (R72). -/
def State.mapping (s : State) (i : Nat) : List (Nat × Nat × Nat) :=
  (List.range (s.ob i 0)).map (fun j =>
    let e := s.ob i (j + 1)
    (e / 65536, e / 256 % 256, e % 256 / 8))

/-- Whether PDO k of a communication index is valid: bit 31 of its COB-ID is 0. -/
def State.pdoValid (s : State) (i : Nat) : Bool := ! bitAt (s.ob i 1) 31

/-- Sends TPDO k. -/
def State.sendTpdo (s : State) (k : Nat) : State :=
  let data := (s.mapping (0x1A00 + k)).flatMap (fun e => leBytes (s.peek .rpdo e.1 e.2.1) e.2.2)
  s.sendFrame { id := s.ob (0x1800 + k) 1 % 2048, data := data }

/-- TPDO k at a SYNC: due at every n-th (R61, R73). -/
def State.sampleTpdo (s : State) (k : Nat) : State :=
  let n := s.ob (0x1800 + k) 2
  if ! s.pdoValid (0x1800 + k) ∨ n = 0 ∨ 240 < n then s
  else
    let age := sget 0 s.can.tpdoAge k + 1
    if n ≤ age then ({ s with can := { s.can with tpdoAge := sput 0 s.can.tpdoAge k 0 } }).sendTpdo k
    else { s with can := { s.can with tpdoAge := sput 0 s.can.tpdoAge k age } }

/-- Writes the objects of a mapping from the front of a run of bytes. -/
def State.applyBytes (s : State) : List (Nat × Nat × Nat) → Bytes → State
  | [], _ => s
  | e :: rest, bs =>
    ((s.write { who := .rpdo, index := e.1, sub := e.2.1, data := bs.take e.2.2 }).1).applyBytes rest (bs.drop e.2.2)

/-- Whether pending RPDO k is applied at this SYNC: at most once every n (R74). -/
def State.rpdoDue (s : State) (k : Nat) : Bool :=
  s.pdoValid (0x1400 + k) && (sfind s.can.rpdo k).isSome &&
  (match sfind s.can.rpdoAge k with
   | some age => decide (s.ob (0x1400 + k) 2 ≤ age + 1)
   | none => true)

/-- Whether the cause of the output hold stands (R76, R78). -/
def State.holdCause (s : State) : Bool :=
  match s.can.hold with
  | some 1 => s.can.syncLost
  | some _ => if s.ob 0x2022 3 = 0 then ! s.can.timedOut.isEmpty else s.can.timedOut.contains (s.ob 0x2022 3)
  | none => false

/-- Outputs return to live operation (R78). -/
def State.goLive (s : State) : State :=
  if s.can.outState = .live then s else ({ s with can := { s.can with outState := .live, hold := none } }).emcyCleared

/-- RPDOs at a SYNC (R73, R74, R78). While the cause of a hold stands nothing is applied, so every output keeps its value
and the RPDOs stay pending (DEDUCED, log 58). -/
def State.applyRpdos (s : State) : State :=
  let due := if s.holdCause then [] else (List.range 4).filter s.rpdoDue
  let got := due.map (fun k => (k, (sfind s.can.rpdo k).getD []))
  let ages := (List.range 4).foldl (fun m k =>
    if due.contains k then sins m k 0
    else match sfind m k with
      | some a => sins m k (min 255 (a + 1))
      | none => m) s.can.rpdoAge
  let s := { s with can := { s.can with rpdoAge := ages, rpdo := s.can.rpdo.filter (fun e => ! due.contains e.1) } }
  let s := got.foldl (fun s e => s.applyBytes (s.mapping (0x1600 + e.1)) e.2) s
  if due.isEmpty then s else s.goLive

/-- SYNC (R73, R75). HALTED's row of R63 does not list SYNC. In NMT state Stopped a SYNC is ignored, as CiA 301 has it
(PRESUMED, log 62). -/
def execSync (s : State) : Host.Outcome State Fault Refusal :=
  done s (
    if ! s.onBus || decide (s.dev = .halted ∨ s.can.nmt = .stopped) then s
    else
      let s := (({ s with can := { s.can with syncLost := false } }).obSet 0x2003 1 s.stamp).emcyCleared
      if s.pdoRuns then ((List.range 4).foldl State.sampleTpdo s).applyRpdos else s)

/-- RPDO_RECEIVE (R74): the last copy stays pending. -/
def execRpdoReceive (k : Fin 4) (data : Bytes) (s : State) : Host.Outcome State Fault Refusal :=
  done s (
    if ! s.pdoRuns || ! s.pdoValid (0x1400 + k.val) then s
    else if data.length ≠ ((s.mapping (0x1600 + k.val)).map (fun e => e.2.2)).sum then s.emcy 0x8210 [BitVec.ofNat 8 (k.val + 1)]
    else { s with can := { s.can with rpdo := sins s.can.rpdo k.val data } })

/-- TPDO_EVENT_TIMER of a TPDO of type 254 (R61). -/
def execTpdoEventTimer (k : Fin 4) (s : State) : Host.Outcome State Fault Refusal :=
  done s (
    if s.pdoRuns && s.pdoValid (0x1800 + k.val) && decide (s.ob (0x1800 + k.val) 2 = 254) && decide (s.ob (0x1800 + k.val) 5 ≠ 0) then s.sendTpdo k.val
    else s)

/-- The output hold starts (R76). -/
def State.startHold (s : State) (cause : Nat) : State :=
  if s.can.outState = .live then { s with can := { s.can with outState := .holding, hold := some cause } } else s

/-- SYNC_LOSS (R75, R76). -/
def execSyncLoss (s : State) : Host.Outcome State Fault Refusal :=
  done s (
    if ! s.onBus || decide (s.ob 0x1006 0 = 0) || s.can.syncLost then s
    else
      let n := s.can.rpdo.length
      let s := ({ s with can := { s.can with syncLost := true, rpdo := [] } }).bumpBy 0x2003 2 n
      (s.emcy 0xFF01 (leBytes (s.ob 0x2003 2) 5)).startHold 1)

/-- The fallback of entry j of RPDO k (R77). -/
def State.fallBack (s : State) (k : Nat) (j : Nat) (e : Nat × Nat × Nat) : State :=
  let place := 8 * k + j + 1
  match s.ob 0x2020 place with
  | 1 => (s.write { who := .rpdo, index := e.1, sub := e.2.1, data := leBytes (objDefault s.otp s.pins e.1 e.2.1) e.2.2 }).1
  | 2 => (s.write { who := .rpdo, index := e.1, sub := e.2.1, data := leBytes (s.ob 0x2021 place) e.2.2 }).1
  | _ => s

/-- OUTPUT_HOLD_EXPIRY (R77). -/
def execOutputHoldExpiry (s : State) : Host.Outcome State Fault Refusal :=
  done s (
    if s.can.outState ≠ .holding then s
    else
      let s := (List.range 4).foldl (fun s k =>
        if ! s.pdoValid (0x1400 + k) then s
        else
          let es := s.mapping (0x1600 + k)
          ((List.range es.length).zip es).foldl (fun s e => s.fallBack k e.1 e.2) s) s
      let s := { s with can := { s.can with outState := .fallenBack } }
      s.emcy 0xFF02 [BitVec.ofNat 8 (s.can.hold.getD 0)])

/-! ### Heartbeats -/

/-- HEARTBEAT_PRODUCE (R63, R68, R79). -/
def execHeartbeatProduce (s : State) : Host.Outcome State Fault Refusal :=
  done s (
    if s.onBus && s.can.bootUp && decide (s.ob 0x1017 0 ≠ 0) then
      s.sendFrame { id := 0x700 + s.nodeId, data := [BitVec.ofNat 8 (nmtNum s.can.nmt)] }
    else s)

/-- HEARTBEAT_RECEIVE (R79, R95): monitoring starts, and starts again, at a heartbeat. -/
def execHeartbeatReceive (node : Nat) (s : State) : Host.Outcome State Fault Refusal :=
  done s (
    if s.onBus && s.stations.contains node then
      ({ s with can := { s.can with watched := addOnce s.can.watched node, timedOut := without s.can.timedOut node } }).emcyCleared
    else s)

/-- HEARTBEAT_TIMEOUT (R76, R79, R94, R95). -/
def execHeartbeatTimeout (node : Nat) (s : State) : Host.Outcome State Fault Refusal :=
  done s (
    if ! s.can.watched.contains node then s
    else
      let s := { s with can := { s.can with watched := without s.can.watched node, timedOut := addOnce s.can.timedOut node } }
      let s := s.emcy 0x8130 [BitVec.ofNat 8 node]
      let s := if s.ob 0x2022 3 = node ∨ s.ob 0x2022 3 = 0 then s.startHold 2 else s
      if s.dict.owner = some .can ∧ s.ob 0x2010 4 = node ∧ node ≠ 0 then s.releaseClaim else s)

/-! ### EMCY and the states of the controller -/

/-- Sends waiting EMCYs while neither the inhibit time nor bus-off holds them back (R80). -/
def State.emcyFlush : Nat → State → State
  | 0, s => s
  | n + 1, s =>
    if s.can.inhibit ∨ s.can.busOff then s
    else match s.can.emcyQ with
      | [] => s
      | e :: rest =>
        let s := ({ s with can := { s.can with emcyQ := rest, inhibit := decide (s.ob 0x1015 0 ≠ 0) } })
        emcyFlush n (s.sendFrame (s.emcyFrame e))

/-- EMCY_INHIBIT_EXPIRY (R80). -/
def execEmcyInhibitExpiry (s : State) : Host.Outcome State Fault Refusal :=
  done s (({ s with can := { s.can with inhibit := false } }).emcyFlush s.can.emcyQ.length)

/-- The error counters and the bus state as 0x2005 shows them. -/
def State.canStatus (s : State) (tec rec bus : Nat) : State := ((s.obSet 0x2005 1 (tec % 2 ^ 32)).obSet 0x2005 2 (rec % 2 ^ 32)).obSet 0x2005 3 bus

/-- BUS_OFF (R60). The counters it leaves are free values. -/
def execBusOff (s : State) : Host.Outcome State Fault Refusal :=
  done s (
    if s.dev = .standby ∨ s.can.busOff then s
    else
      let (t, s) := s.drawNat
      let (r, s) := s.drawNat
      ({ s with can := { s.can with busOff := true, errPassive := false } }).canStatus t r 2)

/-- BUS_OFF_RECOVERY (R60): the hub rejoins error active with its counters at 0 (ISO 11898-1: PRESUMED, log 60). -/
def execBusOffRecovery (s : State) : Host.Outcome State Fault Refusal :=
  done s (
    if ! s.can.busOff then s
    else
      let s := ((s.canStatus 0 0 0).bump 0x2005 4)
      let c := s.ob 0x2005 4
      let s := s.emcy 0x8140 (leBytes c 5)
      let s := { s with can := { s.can with busOff := false } }
      (s.emcyFlush s.can.emcyQ.length).emcyCleared)

/-- CAN_ERROR_PASSIVE (R80, R81). -/
def execCanErrorPassive (tec rec : Nat) (s : State) : Host.Outcome State Fault Refusal :=
  done s (
    if s.dev = .standby ∨ s.can.busOff ∨ s.can.errPassive then s
    else (({ s with can := { s.can with errPassive := true } }).canStatus tec rec 1).emcy 0x8120 [BitVec.ofNat 8 tec, BitVec.ofNat 8 rec])

/-- CAN_ERROR_ACTIVE (R81). The counters, below the passive limit of 128, are free values. -/
def execCanErrorActive (s : State) : Host.Outcome State Fault Refusal :=
  done s (
    if ! s.can.errPassive then s
    else
      let (t, s) := s.drawNat
      let (r, s) := s.drawNat
      (({ s with can := { s.can with errPassive := false } }).canStatus (t % 128) (r % 128) 0).emcyCleared)

/-- CAN_RECEIVE_OVERRUN (R80). -/
def execCanReceiveOverrun (s : State) : Host.Outcome State Fault Refusal :=
  done s (
    if s.dev = .standby then s
    else
      let s := s.bump 0x2005 5
      s.emcy 0x8110 (leBytes (s.ob 0x2005 5) 5))

end Sys2Proof.Machine
end

