-- ==== Sys2Proof/Machine/Hosts.lean ====
section
/-! DEFINITION. The host window in BAR2 and the service of the request queue (R88 to R92, R98, R100, R447). -/

namespace Sys2Proof.Machine

/-- Host status of an abort code (R71). -/
def hostStatus (code : Nat) : Nat :=
  if code = 0x06020000 ∨ code = 0x06090011 then 2
  else if code = 0x08000020 then 0xA
  else if code = 0x08000021 then 5
  else 3

/-- Whether a host access has a width and alignment of R89. -/
def widthOk (off n : Nat) : Bool :=
  if n ≤ 8 then decide (n = 1 ∨ n = 2 ∨ n = 4 ∨ n = 8) && decide (off % n = 0) else decide (off % 8 = 0) && decide (n % 8 = 0)

/-! ### Windows -/

/-- Bytes of an object that the window shows, with zeros beyond its end (R91). -/
def windowBytes (bs : Bytes) (off n : Nat) : Bytes := padTo n (slice bs off n)

/-- The byte of the 4 KiB window that a BAR2 offset names, for the bridge whose window it is (R91). -/
def bar2Window (p : Path) (off : Nat) : Option Nat :=
  let base := if p = .hb0 then 0x1048800 else 0x1049800
  if p ≠ .can ∧ base ≤ off ∧ off < base + 0x1000 then some (off - base) else none

/-- Object and byte offset that a window access names: index, sub-index, offset. -/
def State.windowTarget (s : State) (p : Path) (pos : Nat) : Nat × Nat × Nat :=
  let k := if p = .hb0 then 0 else 0x10
  let t := s.ob 0x2090 (1 + k)
  (field t 23 8, field t 7 0, s.ob 0x2090 (2 + k) + pos)

/-- The transactions of a host's access to an object: the host window moves the bytes of a domain window and of 0x2081, after the
dictionary engine has checked the request, and that engine the others (R482). -/
def State.hostAsk (s : State) (i : Nat) (write window : Bool) (off n : Nat) : State :=
  if i = 0x2081 then s.matrixAsk 2 1 write off n
  else if window then (s.matrixAsk 1 (matrixTarget i) write 0 n).matrixAsk 2 2 write 0 n
  else s.matrixAsk 1 (matrixTarget i) write 0 n

/-! ### Slot requests -/

/-- A host's read of an object's bytes from an offset on. A read of a half of EQ_HEAD follows R430. -/
def State.hostBytes (s : State) (p : Path) (i sub off n : Nat) : Bytes × State :=
  if i / 256 = 0x4E ∧ sub = 2 ∧ n ≤ 4 ∧ off < 8 ∧ s.objAnswers i sub then
    let (v, s) := s.eqRead (i % 256) (if off < 4 then .dictLow else .dictHigh)
    (windowBytes (leBytes v 4) (off % 4) n, s)
  else
    let (bs, s) := s.readBytes (.path p) i sub
    (windowBytes bs off n, s)

/-- A read of a slot: status, data, and the state after it. -/
def State.slotRead (s : State) (p : Path) (off n : Nat) : Nat × Bytes × State :=
  let i := off / 2048
  let sub := off / 8 % 256
  match s.readRefused (.path p) i sub, objInfo i sub with
  | some c, _ => (hostStatus c, [], s)
  | none, none => (2, [], s)
  | none, some o =>
    if ! widthOk off n then (3, [], s)
    else
      let s := s.hostAsk i false false (off % 8) n
      if s.lengthSlot i o then (0, windowBytes (leBytes (s.contentsLen i sub) 8) (off % 8) n, s)
      else (0, s.hostBytes p i sub (off % 8) n)

/-- A read through a window. -/
def State.windowRead (s : State) (p : Path) (off pos n : Nat) : Nat × Bytes × State :=
  let (i, sub, b) := s.windowTarget p pos
  match s.readRefused (.path p) i sub with
  | some c => (hostStatus c, [], s)
  | none =>
    if ! widthOk off n then (3, [], s)
    else
      (0, (s.hostAsk i false true b n).hostBytes p i sub b n)

/-- A write of a slot. Data of a broken width or alignment are judged as data that cover nothing (order 6 of R645). -/
def State.slotWrite (s : State) (p : Path) (off : Nat) (data : Bytes) : State × Option Nat :=
  let i := off / 2048
  s.writeAsking (fun s => s.hostAsk i true false (off % 8) data.length)
    { who := .path p, index := i, sub := off / 8 % 256, data := if widthOk off data.length then data else [], off := off % 8, slot := true }

/-- A write through a window. -/
def State.windowWrite (s : State) (p : Path) (off pos : Nat) (data : Bytes) : State × Option Nat :=
  let (i, sub, b) := s.windowTarget p pos
  if ! widthOk off data.length then
    let w : WriteReq := { who := .path p, index := i, sub := sub, data := [], off := b }
    let c := match s.writeRefused w with
      | some c => if earlyCode c then c else 0x06070010
      | none => 0x06070010
    (s.noteRefusal w c, some c)
  else s.writeAsking (fun s => s.hostAsk i true true b data.length) { who := .path p, index := i, sub := sub, data := data, off := b }

/-- Serves a host's request: what it does to the object, and its answer (R71, R92, R447). -/
def State.serveHost (s : State) (p : Path) (q : Packet) : State :=
  let off := faOffset q.hdr.fa
  let win := bar2Window p off
  if q.hdr.opcode = 0x0A then
    let (st, data, s) := match win with
      | some pos => s.windowRead p off pos q.hdr.len
      | none => s.slotRead p off q.hdr.len
    s.queueAnswer 43 q (answerTo 43 q 0x8A st data)
  else
    let data := padTo q.hdr.len (payloadOf q)
    let (s, r) := match win with
      | some pos => s.windowWrite p off pos data
      | none => s.slotWrite p off data
    s.queueAnswer 43 q (answerTo 43 q 0x8A (r.elim 0 hostStatus))

/-- DICTIONARY_REQUEST_SERVE (R98, R100): one request at a time, in order of arrival. -/
def execDictionaryRequestServe (s : State) : Host.Outcome State Fault Refusal :=
  done s (
    match s.dict.queue with
    | [] => s
    | r :: rest =>
      let s := { s with dict := { s.dict with queue := rest } }
      match r with
      | .sdo q => s.serveSdo q
      | .host p q => s.serveHost p q)

/-! ### BAR2 -/

/-- The requests of an access, in ascending order: offset within the access and bytes of each. One of more than 8 bytes is
split into its slots (R89). One whose width or alignment R89 does not allow is one request, which the dictionary engine judges
by R645 as any other and refuses whole; of one too long for a packet the first bytes stand for it (DESIGN CHOICE, log 66). -/
def slotsOf (off n : Nat) : List (Nat × Nat) :=
  if n ≤ 8 then [(0, n)]
  else if widthOk off n then (List.range (n / 8)).map (fun j => (8 * j, 8))
  else [(0, if n ≤ 512 then n else 496 + n % 8)]

/-- HOST_BAR2_ACCESS (R89, R447, R449). -/
def execHostBar2Access (hb : Fin 2) (acc : BarAccess) (s : State) : Host.Outcome State Fault Refusal :=
  let b := hb.val
  let n := if acc.write then acc.data.length else acc.len
  done s (
    if ! s.linkCarries b then s
    else if acc.form ≠ .memory then s.unsupported b acc
    else if (s.br b).d3 ∨ 2 ^ 26 ≤ acc.offset then s.answerLocal b acc 2
    else if n = 0 then s.answerLocal b acc 0
    else
      let s := s.orderInbound b acc none false
      let one (id : Nat) (e : Nat × Nat) : Access :=
        { kind := if acc.write then .mgmtWrite else .mgmtRead, np := true, addr := acc.offset + e.1, len := e.2, data := slice acc.data e.1 e.2
          direct := some (mkFa 0 43 (acc.offset + e.1), 0), origin := .bridge b id e.1 e.2 }
      s.openInbound b acc true (fun id => (slotsOf acc.offset n).map (one id)) true)

end Sys2Proof.Machine
end

