-- ==== Sys2Proof/Machine/Dispatch.lean ====
section
/-! DEFINITION. The dispatch: one arm per command, each one call of its meaning. -/

namespace Sys2Proof.Machine

def exec (i : Instr) (s : State) : Host.Outcome State Fault Refusal :=
  match i with
  | .standbyWake wakeIn => Sys2Proof.Machine.execStandbyWake wakeIn s
  | .pwrGoodRise straps => Sys2Proof.Machine.execPwrGoodRise straps s
  | .rstNRelease straps => Sys2Proof.Machine.execRstNRelease straps s
  | .chipResetEnd straps => Sys2Proof.Machine.execChipResetEnd straps s
  | .rstMaskUnlockArm p => Sys2Proof.Machine.execRstMaskUnlockArm p s
  | .rstMaskUnlockComplete p straps => Sys2Proof.Machine.execRstMaskUnlockComplete p straps s
  | .rstUnmask p => Sys2Proof.Machine.execRstUnmask p s
  | .nmtStartRemoteNode node => Sys2Proof.Machine.execNmtStartRemoteNode node s
  | .nmtEnterPreOperational node => Sys2Proof.Machine.execNmtEnterPreOperational node s
  | .nmtStopRemoteNode node => Sys2Proof.Machine.execNmtStopRemoteNode node s
  | .nmtResetCommunication node => Sys2Proof.Machine.execNmtResetCommunication node s
  | .nmtResetNode node => Sys2Proof.Machine.execNmtResetNode node s
  | .sdoInitiateDownload index sub expedited data => Sys2Proof.Machine.execSdoInitiateDownload index sub expedited data s
  | .sdoDownloadSegment toggle last data => Sys2Proof.Machine.execSdoDownloadSegment toggle last data s
  | .sdoInitiateUpload index sub => Sys2Proof.Machine.execSdoInitiateUpload index sub s
  | .sdoUploadSegment toggle => Sys2Proof.Machine.execSdoUploadSegment toggle s
  | .sdoUnsupportedCommand index sub => Sys2Proof.Machine.execSdoUnsupportedCommand index sub s
  | .hostBar2Access hb acc => Sys2Proof.Machine.execHostBar2Access hb acc s
  | .claim p => Sys2Proof.Machine.execClaim p s
  | .release p => Sys2Proof.Machine.execRelease p s
  | .objectWrite w => Sys2Proof.Machine.execObjectWrite w s
  | .counterClear w => Sys2Proof.Machine.execCounterClear w s
  | .rpdoReceive k data => Sys2Proof.Machine.execRpdoReceive k data s
  | .tpdoEventTimer k => Sys2Proof.Machine.execTpdoEventTimer k s
  | .heartbeatReceive node => Sys2Proof.Machine.execHeartbeatReceive node s
  | .heartbeatTimeout node => Sys2Proof.Machine.execHeartbeatTimeout node s
  | .canErrorPassive tec rec => Sys2Proof.Machine.execCanErrorPassive tec rec s
  | .xopen length => Sys2Proof.Machine.execXopen length s
  | .xdata offset len payload => Sys2Proof.Machine.execXdata offset len payload s
  | .xclose crc => Sys2Proof.Machine.execXclose crc s
  | .xabort reason => Sys2Proof.Machine.execXabort reason s
  | .xferControlOpen p => Sys2Proof.Machine.execXferControlOpen p s
  | .xferControlClose p => Sys2Proof.Machine.execXferControlClose p s
  | .xferControlAbort p => Sys2Proof.Machine.execXferControlAbort p s
  | .imageStageWrite p offset data => Sys2Proof.Machine.execImageStageWrite p offset data s
  | .ppsEdge rising => Sys2Proof.Machine.execPpsEdge rising s
  | .todFrame bytes => Sys2Proof.Machine.execTodFrame bytes s
  | .ppsEnableWrite p value => Sys2Proof.Machine.execPpsEnableWrite p value s
  | .reanchor p => Sys2Proof.Machine.execReanchor p s
  | .timeSecondsRead p => Sys2Proof.Machine.execTimeSecondsRead p s
  | .heatArm p => Sys2Proof.Machine.execHeatArm p s
  | .heatDisarm p => Sys2Proof.Machine.execHeatDisarm p s
  | .commit p => Sys2Proof.Machine.execCommit p s
  | .linkOutputCycle r o => Sys2Proof.Machine.execLinkOutputCycle r o s
  | .flitReceive w n => Sys2Proof.Machine.execFlitReceive w n s
  | .replayTimerExpiry r p => Sys2Proof.Machine.execReplayTimerExpiry r p s
  | .maintWindowStart r p => Sys2Proof.Machine.execMaintWindowStart r p s
  | .retrainComplete r v => Sys2Proof.Machine.execRetrainComplete r v s
  | .retrainTimeout r p => Sys2Proof.Machine.execRetrainTimeout r p s
  | .linkPlannedRetrain path r p => Sys2Proof.Machine.execLinkPlannedRetrain path r p s
  | .linkImmediateRetrain path r p => Sys2Proof.Machine.execLinkImmediateRetrain path r p s
  | .linkTakeDown path r p => Sys2Proof.Machine.execLinkTakeDown path r p s
  | .packetHeadRoute r inp lane => Sys2Proof.Machine.execPacketHeadRoute r inp lane s
  | .mcastBranchForward r inp o => Sys2Proof.Machine.execMcastBranchForward r inp o s
  | .qdepthUpdate r => Sys2Proof.Machine.execQdepthUpdate r s
  | .sc0Inject n flow => Sys2Proof.Machine.execSc0Inject n flow s
  | .circuitWindowOpen c => Sys2Proof.Machine.execCircuitWindowOpen c s
  | .circuitWindowClose c => Sys2Proof.Machine.execCircuitWindowClose c s
  | .clusterPortAdmit k => Sys2Proof.Machine.execClusterPortAdmit k s
  | .bankAccess k bank => Sys2Proof.Machine.execBankAccess k bank s
  | .accessAccept n => Sys2Proof.Machine.execAccessAccept n s
  | .shaperRelease n sh => Sys2Proof.Machine.execShaperRelease n sh s
  | .shaperTokenTick n => Sys2Proof.Machine.execShaperTokenTick n s
  | .calendarSlot n => Sys2Proof.Machine.execCalendarSlot n s
  | .gateRelease n => Sys2Proof.Machine.execGateRelease n s
  | .gateEntryChange n => Sys2Proof.Machine.execGateEntryChange n s
  | .packetSend n => Sys2Proof.Machine.execPacketSend n s
  | .wbIdleExpiry n k => Sys2Proof.Machine.execWbIdleExpiry n k s
  | .wbEntryDepart n => Sys2Proof.Machine.execWbEntryDepart n s
  | .barW n => Sys2Proof.Machine.execBarW n s
  | .barFull n => Sys2Proof.Machine.execBarFull n s
  | .barrierSatisfied n => Sys2Proof.Machine.execBarrierSatisfied n s
  | .read n => Sys2Proof.Machine.execRead n s
  | .write n => Sys2Proof.Machine.execWrite n s
  | .writeNp n => Sys2Proof.Machine.execWriteNp n s
  | .ldres ph => Sys2Proof.Machine.execLdres ph s
  | .stcond ph => Sys2Proof.Machine.execStcond ph s
  | .atomic ph => Sys2Proof.Machine.execAtomic ph s
  | .send n => Sys2Proof.Machine.execSend n s
  | .sendNp n => Sys2Proof.Machine.execSendNp n s
  | .badOpcode n => Sys2Proof.Machine.execBadOpcode n s
  | .readResp n => Sys2Proof.Machine.execReadResp n s
  | .statusResp n => Sys2Proof.Machine.execStatusResp n s
  | .ack n => Sys2Proof.Machine.execAck n s
  | .resyncReq n => Sys2Proof.Machine.execResyncReq n s
  | .mgmtResp hb => Sys2Proof.Machine.execMgmtResp hb s
  | .resendTimerExpiry n target sc3 pseq => Sys2Proof.Machine.execResendTimerExpiry n target sc3 pseq s
  | .replyStoreExpiry n k => Sys2Proof.Machine.execReplyStoreExpiry n k s
  | .trackerProtectionExpiry k src => Sys2Proof.Machine.execTrackerProtectionExpiry k src s
  | .winInvalidate p n => Sys2Proof.Machine.execWinInvalidate p n s
  | .windowCacheExpiry n w => Sys2Proof.Machine.execWindowCacheExpiry n w s
  | .shaperEntryWrite p n value => Sys2Proof.Machine.execShaperEntryWrite p n value s
  | .gateApply p n => Sys2Proof.Machine.execGateApply p n s
  | .gateCancel p n => Sys2Proof.Machine.execGateCancel p n s
  | .gateListStart n => Sys2Proof.Machine.execGateListStart n s
  | .scrubDue k => Sys2Proof.Machine.execScrubDue k s
  | .scrubLine k => Sys2Proof.Machine.execScrubLine k s
  | .scrubOwed k => Sys2Proof.Machine.execScrubOwed k s
  | .poolPop k => Sys2Proof.Machine.execPoolPop k s
  | .poolPush k => Sys2Proof.Machine.execPoolPush k s
  | .poolCountRead k => Sys2Proof.Machine.execPoolCountRead k s
  | .poolEnable p k pool config => Sys2Proof.Machine.execPoolEnable p k pool config s
  | .poolDisable p k pool => Sys2Proof.Machine.execPoolDisable p k pool s
  | .blockLog2Write p k value => Sys2Proof.Machine.execBlockLog2Write p k value s
  | .qDoorbell e q value => Sys2Proof.Machine.execQDoorbell e q value s
  | .qAbort e q => Sys2Proof.Machine.execQAbort e q s
  | .qRestart e q => Sys2Proof.Machine.execQRestart e q s
  | .mbProducer e r value => Sys2Proof.Machine.execMbProducer e r value s
  | .doorbellItem e => Sys2Proof.Machine.execDoorbellItem e s
  | .abortItem e => Sys2Proof.Machine.execAbortItem e s
  | .restartItem e => Sys2Proof.Machine.execRestartItem e s
  | .mbPostItem e => Sys2Proof.Machine.execMbPostItem e s
  | .doorbellScan e => Sys2Proof.Machine.execDoorbellScan e s
  | .descriptorRead e q => Sys2Proof.Machine.execDescriptorRead e q s
  | .nop e q => Sys2Proof.Machine.execNop e q s
  | .copy e q => Sys2Proof.Machine.execCopy e q s
  | .put e q => Sys2Proof.Machine.execPut e q s
  | .get e q => Sys2Proof.Machine.execGet e q s
  | .sendDescriptor e q => Sys2Proof.Machine.execSendDescriptor e q s
  | .mcastPut e q => Sys2Proof.Machine.execMcastPut e q s
  | .atomicDescriptor e q => Sys2Proof.Machine.execAtomicDescriptor e q s
  | .chunkIssue e q => Sys2Proof.Machine.execChunkIssue e q s
  | .recordWrite e q => Sys2Proof.Machine.execRecordWrite e q s
  | .recordAcknowledged e q => Sys2Proof.Machine.execRecordAcknowledged e q s
  | .abortComplete e q => Sys2Proof.Machine.execAbortComplete e q s
  | .queueEnable p e config => Sys2Proof.Machine.execQueueEnable p e config s
  | .queueDisable p e => Sys2Proof.Machine.execQueueDisable p e s
  | .mbReset p e => Sys2Proof.Machine.execMbReset p e s
  | .holdTimeExpiry e r => Sys2Proof.Machine.execHoldTimeExpiry e r s
  | .sendNpHoldBound e r => Sys2Proof.Machine.execSendNpHoldBound e r s
  | .eqWrite k kind data => Sys2Proof.Machine.execEqWrite k kind data s
  | .eqHeadRead k how => Sys2Proof.Machine.execEqHeadRead k how s
  | .eqFlush p k => Sys2Proof.Machine.execEqFlush p k s
  | .bankHandover k => Sys2Proof.Machine.execBankHandover k s
  | .telemetrySample k busy sensors => Sys2Proof.Machine.execTelemetrySample k busy sensors s
  | .hbPerstAssert hb => Sys2Proof.Machine.execHbPerstAssert hb s
  | .hbPerstDeassert hb => Sys2Proof.Machine.execHbPerstDeassert hb s
  | .pcieLinkUp b speed width flit => Sys2Proof.Machine.execPcieLinkUp b speed width flit s
  | .pcieLinkDown b cause => Sys2Proof.Machine.execPcieLinkDown b cause s
  | .flr b => Sys2Proof.Machine.execFlr b s
  | .hotResetReceived b => Sys2Proof.Machine.execHotResetReceived b s
  | .dpcTrigger b => Sys2Proof.Machine.execDpcTrigger b s
  | .downstreamErrorMessage b m requester => Sys2Proof.Machine.execDownstreamErrorMessage b m requester s
  | .configRequest b wr reg value tag => Sys2Proof.Machine.execConfigRequest b wr reg value tag s
  | .bar0Access b acc => Sys2Proof.Machine.execBar0Access b acc s
  | .bar4Access b acc => Sys2Proof.Machine.execBar4Access b acc s
  | .flush b tag => Sys2Proof.Machine.execFlush b tag s
  | .exLoad b slot len tag => Sys2Proof.Machine.execExLoad b slot len tag s
  | .exStore b slot data => Sys2Proof.Machine.execExStore b slot data s
  | .intTrigger b value fromPcie => Sys2Proof.Machine.execIntTrigger b value fromPcie s
  | .msixSend b => Sys2Proof.Machine.execMsixSend b s
  | .bridgeOutboundRequest b => Sys2Proof.Machine.execBridgeOutboundRequest b s
  | .pcieCompletion b tag status ep data => Sys2Proof.Machine.execPcieCompletion b tag status ep data s
  | .cplTimeoutExpiry b slot => Sys2Proof.Machine.execCplTimeoutExpiry b slot s
  | .postedCreditReturn b => Sys2Proof.Machine.execPostedCreditReturn b s
  | .cfgDataRead b outcome data => Sys2Proof.Machine.execCfgDataRead b outcome data s
  | .cfgDataWrite b value outcome => Sys2Proof.Machine.execCfgDataWrite b value outcome s
  | .portWaveStart wave => Sys2Proof.Machine.execPortWaveStart wave s
  | .perstDelayExpiry pb => Sys2Proof.Machine.execPerstDelayExpiry pb s
  | .pbPerstDeassert pb => Sys2Proof.Machine.execPbPerstDeassert pb s
  | .linkCommandRetrain p b => Sys2Proof.Machine.execLinkCommandRetrain p b s
  | .linkCommandDisable p b => Sys2Proof.Machine.execLinkCommandDisable p b s
  | .linkCommandEnable p b => Sys2Proof.Machine.execLinkCommandEnable p b s
  | .linkCommandHotReset p b => Sys2Proof.Machine.execLinkCommandHotReset p b s
  | .matrixGrant turn => Sys2Proof.Machine.execMatrixGrant turn s
  | .jtagChallenge p => Sys2Proof.Machine.execJtagChallenge p s
  | .jtagLock p => Sys2Proof.Machine.execJtagLock p s
  | .jtagResponse p sig => Sys2Proof.Machine.execJtagResponse p sig s
  | .springEnd c => Sys2Proof.Machine.execSpringEnd c s
  | .springheadWrite a => Sys2Proof.Machine.execSpringheadWrite a s
  | .springWait c timeUp => Sys2Proof.Machine.execSpringWait c timeUp s
  | .springCall c => Sys2Proof.Machine.execSpringCall c s
  | .springReturn c => Sys2Proof.Machine.execSpringReturn c s
  | .springCmpBr c => Sys2Proof.Machine.execSpringCmpBr c s
  | .springDelay c => Sys2Proof.Machine.execSpringDelay c s
  | .springRaise c => Sys2Proof.Machine.execSpringRaise c s
  | .imageCommit p => Sys2Proof.Machine.execImageCommit p s
  | .imageDiscard p => Sys2Proof.Machine.execImageDiscard p s
  | .flashWriteSlot p slotB => Sys2Proof.Machine.execFlashWriteSlot p slotB s
  | .flashEraseSlot p slotB => Sys2Proof.Machine.execFlashEraseSlot p slotB s
  | .pinLatch b => Sys2Proof.Machine.execPinLatch b s
  | .graceExpiry f => Sys2Proof.Machine.execGraceExpiry f s
  | .entryAcknowledge p => Sys2Proof.Machine.execEntryAcknowledge p s
  | .entryClear p => Sys2Proof.Machine.execEntryClear p s
  | .entryAcknowledgeAll p => Sys2Proof.Machine.execEntryAcknowledgeAll p s
  | .entryClearEnded p => Sys2Proof.Machine.execEntryClearEnded p s
  | .pinAck p mask => Sys2Proof.Machine.execPinAck p mask s
  | .pinClear p mask => Sys2Proof.Machine.execPinClear p mask s
  | .retainedRelease p => Sys2Proof.Machine.execRetainedRelease p s
  | .policyTableWrite p offset data => Sys2Proof.Machine.execPolicyTableWrite p offset data s
  | .injectArm p => Sys2Proof.Machine.execInjectArm p s
  | .injectCancel p => Sys2Proof.Machine.execInjectCancel p s
  | .testMessageSubmit p => Sys2Proof.Machine.execTestMessageSubmit p s
  | .powerTargetOff by_ d => Sys2Proof.Machine.execPowerTargetOff by_ d s
  | .powerTargetOn by_ d => Sys2Proof.Machine.execPowerTargetOn by_ d s
  | .powerTargetRetain by_ d => Sys2Proof.Machine.execPowerTargetRetain by_ d s
  | .fenceComplete d => Sys2Proof.Machine.execFenceComplete d s
  | .drainComplete d => Sys2Proof.Machine.execDrainComplete d s
  | .drainTimeoutExpiry d => Sys2Proof.Machine.execDrainTimeoutExpiry d s
  | .wakeStart d => Sys2Proof.Machine.execWakeStart d s
  | .wakeComplete d => Sys2Proof.Machine.execWakeComplete d s
  | .wakeTimeout d => Sys2Proof.Machine.execWakeTimeout d s
  | .domainCommand p d => Sys2Proof.Machine.execDomainCommand p d s
  | .proxyReceive n => Sys2Proof.Machine.execProxyReceive n s
  | .easyCommandOrderly p => Sys2Proof.Machine.execEasyCommandOrderly p s
  | .easyCommandForced p => Sys2Proof.Machine.execEasyCommandForced p s
  | .pcieRecoveryEntry b => Sys2Proof.Machine.execPcieRecoveryEntry b s
  | .dataLinkLayerAccept b => Sys2Proof.Machine.execDataLinkLayerAccept b s
  | .errorPinDeassert b => Sys2Proof.Machine.execErrorPinDeassert b s
  | .vauxPowerOn => Sys2Proof.Machine.execVauxPowerOn s
  | .vauxLoss => Sys2Proof.Machine.execVauxLoss s
  | .pwrGoodTimeout => Sys2Proof.Machine.execPwrGoodTimeout s
  | .pwrReqRetry => Sys2Proof.Machine.execPwrReqRetry s
  | .pwrGoodLoss => Sys2Proof.Machine.execPwrGoodLoss s
  | .rstNAssert => Sys2Proof.Machine.execRstNAssert s
  | .resetHeldTimer => Sys2Proof.Machine.execResetHeldTimer s
  | .pllLock => Sys2Proof.Machine.execPllLock s
  | .pllLockTimeout => Sys2Proof.Machine.execPllLockTimeout s
  | .sdoAbortTransfer => Sys2Proof.Machine.execSdoAbortTransfer s
  | .sdoSegmentTimeout => Sys2Proof.Machine.execSdoSegmentTimeout s
  | .dictionaryRequestServe => Sys2Proof.Machine.execDictionaryRequestServe s
  | .sync => Sys2Proof.Machine.execSync s
  | .syncLoss => Sys2Proof.Machine.execSyncLoss s
  | .outputHoldExpiry => Sys2Proof.Machine.execOutputHoldExpiry s
  | .heartbeatProduce => Sys2Proof.Machine.execHeartbeatProduce s
  | .emcyInhibitExpiry => Sys2Proof.Machine.execEmcyInhibitExpiry s
  | .busOff => Sys2Proof.Machine.execBusOff s
  | .busOffRecovery => Sys2Proof.Machine.execBusOffRecovery s
  | .canReceiveOverrun => Sys2Proof.Machine.execCanReceiveOverrun s
  | .xstatus => Sys2Proof.Machine.execXstatus s
  | .badCommand => Sys2Proof.Machine.execBadCommand s
  | .dataAckTimer => Sys2Proof.Machine.execDataAckTimer s
  | .transferTimeout => Sys2Proof.Machine.execTransferTimeout s
  | .stepStroke => Sys2Proof.Machine.execStepStroke s
  | .ppsMissing => Sys2Proof.Machine.execPpsMissing s
  | .holdoverLimitExpiry => Sys2Proof.Machine.execHoldoverLimitExpiry s
  | .todByteTimeout => Sys2Proof.Machine.execTodByteTimeout s
  | .heatChangeStart => Sys2Proof.Machine.execHeatChangeStart s
  | .heatChangeEnd => Sys2Proof.Machine.execHeatChangeEnd s
  | .strokeBoundary => Sys2Proof.Machine.execStrokeBoundary s
  | .commitApply => Sys2Proof.Machine.execCommitApply s
  | .unreachableMark => Sys2Proof.Machine.execUnreachableMark s
  | .excludeRecompute => Sys2Proof.Machine.execExcludeRecompute s
  | .mgmtRead => Sys2Proof.Machine.execMgmtRead s
  | .mgmtWrite => Sys2Proof.Machine.execMgmtWrite s
  | .faultMsg => Sys2Proof.Machine.execFaultMsg s
  | .jtagChallengeTimeout => Sys2Proof.Machine.execJtagChallengeTimeout s
  | .trapRequest => Sys2Proof.Machine.execTrapRequest s
  | .trapBudgetExpiry => Sys2Proof.Machine.execTrapBudgetExpiry s
  | .imageValidationComplete => Sys2Proof.Machine.execImageValidationComplete s
  | .loaderComplete => Sys2Proof.Machine.execLoaderComplete s
  | .heatImageStaged => Sys2Proof.Machine.execHeatImageStaged s
  | .flashOperationComplete => Sys2Proof.Machine.execFlashOperationComplete s
  | .flashTimeout => Sys2Proof.Machine.execFlashTimeout s
  | .faultMessageTake => Sys2Proof.Machine.execFaultMessageTake s
  | .injectionApply => Sys2Proof.Machine.execInjectionApply s
  | .ejectOpen => Sys2Proof.Machine.execEjectOpen s
  | .easyDrained => Sys2Proof.Machine.execEasyDrained s
  | .easyLimitExpiry => Sys2Proof.Machine.execEasyLimitExpiry s
  | .warmupEnd => Sys2Proof.Machine.execWarmupEnd s
  | .adaptSample => Sys2Proof.Machine.execAdaptSample s
  | .linkSample => Sys2Proof.Machine.execLinkSample s
  | .thermalSample => Sys2Proof.Machine.execThermalSample s
  | .scrubSample => Sys2Proof.Machine.execScrubSample s
  | .idleSample => Sys2Proof.Machine.execIdleSample s
  | .canErrorActive => Sys2Proof.Machine.execCanErrorActive s
  | .xtal32OscillatorStart => Sys2Proof.Machine.execXtal32OscillatorStart s

end Sys2Proof.Machine
end

