-- ==== Sys2Proof/WellFormed.lean ====
section
/-! DEFINITION. Well-formed commands: every operand fits the field that carries it (R12, R88, R269, R491 and the rules of the
rows). The meanings do not rely on it: a command is judged by the rules of its row. -/

namespace Sys2Proof

/-- A memory access of a PCIe partner: it lies in its BAR, carries its data, and fits one TLP. -/
def BarAccess.wf (a : BarAccess) (size : Nat) : Bool :=
  decide (a.offset + a.len ≤ size ∧ a.len ≤ 4096 ∧ a.tag < 1024 ∧ a.data.length = if a.write then a.len else 0)

/-- A write of an object. -/
def ObjWrite.wf (w : ObjWrite) : Bool := decide (w.index < 65536 ∧ w.sub < 256 ∧ w.data.length ≤ 2097152)

/-- A transaction of the matrix: one beat of 1, 2, 4 or 8 bytes, or 2 to 16 beats of 8 within 128 bytes (R485). -/
def JtagAccess.wf (a : JtagAccess) : Bool :=
  decide ((a.beats = 1 ∧ a.size ∈ [1, 2, 4, 8]) ∨ (a.size = 8 ∧ 2 ≤ a.beats ∧ a.beats ≤ 16 ∧ a.addr % 128 + 8 * a.beats ≤ 128))
    && decide (a.addr < 2 ^ 28 ∧ a.data.length = (if a.write then a.size * a.beats else 0))
    && a.obj.all (fun o => decide (o.1 < 65536 ∧ o.2 < 256))

/-- The fields of a Springhead command (R491). -/
def SpringCmd.wf (c : SpringCmd) : Bool :=
  decide (c.op < 256 ∧ c.cond < 16 ∧ c.size < 16 ∧ c.index < 65536 ∧ c.sub < 256 ∧ c.rsvd < 2 ^ 24 ∧ c.value < 2 ^ 64 ∧ c.mask < 2 ^ 64
    ∧ c.target < 65536 ∧ c.code < 65536 ∧ c.time < 2 ^ 32)

/-- The fields of a header (R269). -/
def Header.wf (h : Header) : Bool :=
  decide (h.opcode < 256 ∧ h.src < 64 ∧ h.status < 16 ∧ h.fa < 2 ^ 48 ∧ h.pkey < 65536 ∧ h.dflits < 16 ∧ h.len < 1024 ∧ h.tag < 4096 ∧ h.pseq < 65536
    ∧ h.flow < 1024 ∧ h.mask < 2 ^ 48 ∧ h.aop < 16 ∧ h.crc < 2 ^ 32 ∧ h.inl.length ≤ 32)

/-- The fields of a flit (R152, R153): a header in HEAD and SINGLE, data in BODY and TAIL. -/
def Flit.wf (f : Flit) : Bool :=
  decide (f.seq < 256 ∧ f.ack < 256 ∧ f.lane < 8 ∧ f.crlane < 8 ∧ f.crcnt < 4 ∧ f.data.length ≤ 64)
    && (match f.hdr with
        | some h => h.wf && decide (f.ft = .head ∨ f.ft = .single)
        | none => decide (f.ft ≠ .head ∧ f.ft ≠ .single))

/-- A flit that passes with errors beyond the code is still some flit. -/
def Noise.wf (n : Noise) : Bool :=
  match n with
  | .bits _ _ _ _ => true
  | .beyond none => true
  | .beyond (some f) => f.wf

/-- A well-formed command. -/
def Instr.wf (i : Instr) : Bool :=
  match i with
  | .standbyWake _ => true
  | .pwrGoodRise _ => true
  | .rstNRelease _ => true
  | .chipResetEnd _ => true
  | .rstMaskUnlockArm _ => true
  | .rstMaskUnlockComplete _ _ => true
  | .rstUnmask _ => true
  | .nmtStartRemoteNode node => decide (node < 128)
  | .nmtEnterPreOperational node => decide (node < 128)
  | .nmtStopRemoteNode node => decide (node < 128)
  | .nmtResetCommunication node => decide (node < 128)
  | .nmtResetNode node => decide (node < 128)
  | .sdoInitiateDownload index sub expedited data => decide (index < 65536 ∧ sub < 256 ∧ data.length ≤ 4 ∧ (expedited = true → 1 ≤ data.length))
  | .sdoDownloadSegment _ _ data => decide (data.length ≤ 7)
  | .sdoInitiateUpload index sub => decide (index < 65536 ∧ sub < 256)
  | .sdoUploadSegment _ => true
  | .sdoUnsupportedCommand index sub => decide (index < 65536 ∧ sub < 256)
  | .hostBar2Access _ acc => acc.wf (2 ^ 26)
  | .claim _ => true
  | .release _ => true
  | .objectWrite w => w.wf
  | .counterClear w => w.wf
  | .rpdoReceive _ data => decide (data.length ≤ 8)
  | .tpdoEventTimer _ => true
  | .heartbeatReceive node => decide (node < 128)
  | .heartbeatTimeout node => decide (node < 128)
  | .canErrorPassive tec rec => decide (tec < 2 ^ 32 ∧ rec < 2 ^ 32)
  | .xopen length => decide (length < 2 ^ 32)
  | .xdata offset len payload => decide (offset < 2 ^ 32 ∧ len < 256 ∧ payload.length ≤ 56)
  | .xclose crc => decide (crc < 2 ^ 32)
  | .xabort reason => decide (reason < 256)
  | .xferControlOpen _ => true
  | .xferControlClose _ => true
  | .xferControlAbort _ => true
  | .imageStageWrite _ offset data => decide (offset < 2 ^ 21 ∧ 1 ≤ data.length ∧ data.length ≤ 4096)
  | .ppsEdge _ => true
  | .todFrame bytes => decide (1 ≤ bytes.length ∧ bytes.length ≤ 16)
  | .ppsEnableWrite _ _ => true
  | .reanchor _ => true
  | .timeSecondsRead _ => true
  | .heatArm _ => true
  | .heatDisarm _ => true
  | .commit _ => true
  | .linkOutputCycle _ _ => true
  | .flitReceive _ n => n.wf
  | .replayTimerExpiry _ _ => true
  | .maintWindowStart _ _ => true
  | .retrainComplete _ _ => true
  | .retrainTimeout _ _ => true
  | .linkPlannedRetrain _ _ _ => true
  | .linkImmediateRetrain _ _ _ => true
  | .linkTakeDown _ _ _ => true
  | .packetHeadRoute _ _ _ => true
  | .mcastBranchForward _ _ _ => true
  | .qdepthUpdate _ => true
  | .sc0Inject _ _ => true
  | .circuitWindowOpen _ => true
  | .circuitWindowClose _ => true
  | .clusterPortAdmit _ => true
  | .bankAccess _ _ => true
  | .accessAccept _ => true
  | .shaperRelease _ _ => true
  | .shaperTokenTick _ => true
  | .calendarSlot _ => true
  | .gateRelease _ => true
  | .gateEntryChange _ => true
  | .packetSend _ => true
  | .wbIdleExpiry _ _ => true
  | .wbEntryDepart _ => true
  | .barW _ => true
  | .barFull _ => true
  | .barrierSatisfied _ => true
  | .read _ => true
  | .write _ => true
  | .writeNp _ => true
  | .ldres _ => true
  | .stcond _ => true
  | .atomic _ => true
  | .send _ => true
  | .sendNp _ => true
  | .badOpcode _ => true
  | .readResp _ => true
  | .statusResp _ => true
  | .ack _ => true
  | .resyncReq _ => true
  | .mgmtResp _ => true
  | .resendTimerExpiry _ target _ pseq => decide (target < 48 ∧ pseq < 65536)
  | .replyStoreExpiry _ _ => true
  | .trackerProtectionExpiry _ _ => true
  | .winInvalidate _ _ => true
  | .windowCacheExpiry _ _ => true
  | .shaperEntryWrite _ _ value => decide (value < 2 ^ 64)
  | .gateApply _ _ => true
  | .gateCancel _ _ => true
  | .gateListStart _ => true
  | .scrubDue _ => true
  | .scrubLine _ => true
  | .scrubOwed _ => true
  | .poolPop _ => true
  | .poolPush _ => true
  | .poolCountRead _ => true
  | .poolEnable _ _ _ config => decide (config < 2 ^ 64)
  | .poolDisable _ _ _ => true
  | .blockLog2Write _ _ value => decide (value < 256)
  | .qDoorbell _ _ value => decide (value < 2 ^ 64)
  | .qAbort _ _ => true
  | .qRestart _ _ => true
  | .mbProducer _ _ value => decide (value < 2 ^ 64)
  | .doorbellItem _ => true
  | .abortItem _ => true
  | .restartItem _ => true
  | .mbPostItem _ => true
  | .doorbellScan _ => true
  | .descriptorRead _ _ => true
  | .nop _ _ => true
  | .copy _ _ => true
  | .put _ _ => true
  | .get _ _ => true
  | .sendDescriptor _ _ => true
  | .mcastPut _ _ => true
  | .atomicDescriptor _ _ => true
  | .chunkIssue _ _ => true
  | .recordWrite _ _ => true
  | .recordAcknowledged _ _ => true
  | .abortComplete _ _ => true
  | .queueEnable _ _ config => decide (config < 2 ^ 32)
  | .queueDisable _ _ => true
  | .mbReset _ _ => true
  | .holdTimeExpiry _ _ => true
  | .sendNpHoldBound _ _ => true
  | .eqWrite _ kind data => decide (kind < 128 ∧ data < 2 ^ 56)
  | .eqHeadRead _ _ => true
  | .eqFlush _ _ => true
  | .bankHandover _ => true
  | .telemetrySample _ _ sensors => sensors.all (fun x => decide (-32768 ≤ x ∧ x ≤ 32767))
  | .hbPerstAssert _ => true
  | .hbPerstDeassert _ => true
  | .pcieLinkUp _ speed width _ => decide (speed ≤ 6 ∧ width ≤ 16)
  | .pcieLinkDown _ _ => true
  | .flr _ => true
  | .hotResetReceived _ => true
  | .dpcTrigger _ => true
  | .downstreamErrorMessage _ _ requester => decide (requester < 65536)
  | .configRequest _ _ reg value tag => decide (reg < 1024 ∧ value < 2 ^ 32 ∧ tag < 1024)
  | .bar0Access _ acc => acc.wf (2 ^ 24)
  | .bar4Access _ acc => acc.wf (2 ^ 64)
  | .flush _ tag => decide (tag < 1024)
  | .exLoad _ _ len tag => decide (len ≤ 16 ∧ tag < 1024)
  | .exStore _ _ data => decide (data.length ≤ 16)
  | .intTrigger _ value _ => decide (value < 2 ^ 64)
  | .msixSend _ => true
  | .bridgeOutboundRequest _ => true
  | .pcieCompletion _ tag _ _ data => decide (tag < 1024 ∧ data.length ≤ 512)
  | .cplTimeoutExpiry _ _ => true
  | .postedCreditReturn _ => true
  | .cfgDataRead _ _ data => decide (data < 2 ^ 32)
  | .cfgDataWrite _ value _ => decide (value < 2 ^ 32)
  | .portWaveStart _ => true
  | .perstDelayExpiry _ => true
  | .pbPerstDeassert _ => true
  | .linkCommandRetrain _ _ => true
  | .linkCommandDisable _ _ => true
  | .linkCommandEnable _ _ => true
  | .linkCommandHotReset _ _ => true
  | .matrixGrant turn => turn.jtag.all JtagAccess.wf
  | .jtagChallenge _ => true
  | .jtagLock _ => true
  | .jtagResponse _ sig => decide (sig.length = 96)
  | .springEnd c => c.wf
  | .springheadWrite a => (match a with
    | .script c => c.wf
    | .boot => true)
  | .springWait c _ => c.wf
  | .springCall c => c.wf
  | .springReturn c => c.wf
  | .springCmpBr c => c.wf
  | .springDelay c => c.wf
  | .springRaise c => c.wf
  | .imageCommit _ => true
  | .imageDiscard _ => true
  | .flashWriteSlot _ _ => true
  | .flashEraseSlot _ _ => true
  | .pinLatch _ => true
  | .graceExpiry _ => true
  | .entryAcknowledge _ => true
  | .entryClear _ => true
  | .entryAcknowledgeAll _ => true
  | .entryClearEnded _ => true
  | .pinAck _ mask => decide (mask < 2 ^ 64)
  | .pinClear _ mask => decide (mask < 2 ^ 64)
  | .retainedRelease _ => true
  | .policyTableWrite _ offset data => decide (offset < 2 ^ 21 ∧ 1 ≤ data.length ∧ data.length ≤ 4096)
  | .injectArm _ => true
  | .injectCancel _ => true
  | .testMessageSubmit _ => true
  | .powerTargetOff _ _ => true
  | .powerTargetOn _ _ => true
  | .powerTargetRetain _ _ => true
  | .fenceComplete _ => true
  | .drainComplete _ => true
  | .drainTimeoutExpiry _ => true
  | .wakeStart _ => true
  | .wakeComplete _ => true
  | .wakeTimeout _ => true
  | .domainCommand _ _ => true
  | .proxyReceive _ => true
  | .easyCommandOrderly _ => true
  | .easyCommandForced _ => true
  | .pcieRecoveryEntry _ => true
  | .dataLinkLayerAccept _ => true
  | .errorPinDeassert _ => true
  | .vauxPowerOn => true
  | .vauxLoss => true
  | .pwrGoodTimeout => true
  | .pwrReqRetry => true
  | .pwrGoodLoss => true
  | .rstNAssert => true
  | .resetHeldTimer => true
  | .pllLock => true
  | .pllLockTimeout => true
  | .sdoAbortTransfer => true
  | .sdoSegmentTimeout => true
  | .dictionaryRequestServe => true
  | .sync => true
  | .syncLoss => true
  | .outputHoldExpiry => true
  | .heartbeatProduce => true
  | .emcyInhibitExpiry => true
  | .busOff => true
  | .busOffRecovery => true
  | .canReceiveOverrun => true
  | .xstatus => true
  | .badCommand => true
  | .dataAckTimer => true
  | .transferTimeout => true
  | .stepStroke => true
  | .ppsMissing => true
  | .holdoverLimitExpiry => true
  | .todByteTimeout => true
  | .heatChangeStart => true
  | .heatChangeEnd => true
  | .strokeBoundary => true
  | .commitApply => true
  | .unreachableMark => true
  | .excludeRecompute => true
  | .mgmtRead => true
  | .mgmtWrite => true
  | .faultMsg => true
  | .jtagChallengeTimeout => true
  | .trapRequest => true
  | .trapBudgetExpiry => true
  | .imageValidationComplete => true
  | .loaderComplete => true
  | .heatImageStaged => true
  | .flashOperationComplete => true
  | .flashTimeout => true
  | .faultMessageTake => true
  | .injectionApply => true
  | .ejectOpen => true
  | .easyDrained => true
  | .easyLimitExpiry => true
  | .warmupEnd => true
  | .adaptSample => true
  | .linkSample => true
  | .thermalSample => true
  | .scrubSample => true
  | .idleSample => true
  | .canErrorActive => true
  | .xtal32OscillatorStart => true

end Sys2Proof
end

