-- ==== Sys2Proof/Safety.lean ====
section
/-! DEFINITION. What counts as a safe run, in the terms that claims use. -/

namespace Sys2Proof.Safety

open Sys2Proof.Machine

/-- A step went on: it answered a next state, no fault and no refusal. -/
def goesOn (o : Host.Outcome State Fault Refusal) : Bool :=
  match o with
  | .next _ => true
  | _ => false

/-- Whether n steps from a state all go on. -/
def safeRun : Nat → State → Bool
  | 0, _ => true
  | n + 1, s => match step s with
    | .next t => safeRun n t
    | _ => false

/-- A command completes: it answers a next state, and that state has a property. -/
def Completes (c : Instr) (s : State) (P : State → Prop) : Prop := ∃ t, exec c s = .next t ∧ P t

/-- A fault message has come to the end of the collector's input. -/
def Reports (s t : State) (kind cls source unit addr : Nat) : Prop :=
  t.flt.input = s.flt.input ++ [({ time := s.stamp, kind := kind, source := source, unit := unit, cls := cls, addr := addr }, false)]

/-- One emergency message more has left on the bus: its code and its five information bytes. -/
def SendsEmcy (s t : State) (code info : Bytes) : Prop :=
  ∃ f : CanFrame, t.can.out = s.can.out ++ [f] ∧ f.id = s.ob 0x1014 0 % 2048 ∧ f.data.take 2 = code ∧ f.data.drop 3 = info

/-- An object counts one event more; it saturates. -/
def Counts (s t : State) (i sub : Nat) : Prop := t.ob i sub = satAdd (counterWidth i sub) (s.ob i sub) 1

/-- The checks of R645 pass a path's write of a number to an object. -/
def Accepted (s : State) (p : Path) (i sub v : Nat) : Prop :=
  s.writeRefused { who := .path p, index := i, sub := sub, data := leBytes v (((objInfo i sub).map (fun o => tySize o.ty)).getD 0) } = none

/-- One frame more has left on the management bus. -/
def SendsFrame (s t : State) (f : CanFrame) : Prop := t.can.out = s.can.out ++ [f]

/-- The SDO frame that aborts a transfer of an object with a code. -/
def abortFrame (s : State) (index sub code : Nat) : CanFrame :=
  { id := 0x580 + s.nodeId, data := [0x80] ++ leBytes index 2 ++ leBytes sub 1 ++ leBytes code 4 }

/-- An image-transfer frame of a command, a RESULT and a value has left. -/
def SendsXfer (s t : State) (cmd result value : Nat) : Prop :=
  ∃ f : CanFrame, t.can.out = s.can.out ++ [f] ∧ f.id = 0x1F4A0080 + s.nodeId ∧ f.data.length = 64
    ∧ f.data.take 8 = leBytes cmd 1 ++ leBytes result 1 ++ [0, 0] ++ leBytes value 4

/-- No stored value of the dictionary but those of one index has changed. -/
def OnlyIndex (s t : State) (i : Nat) : Prop := ∀ k, keyIdx k ≠ i → t.kv k = s.kv k

/-- At the front of what NI n has received stands a request of SC2 or SC3 that is next in its sequence, whole and unpoisoned, and
that the access table of n admits (R301, R303, R306, R336) and the endpoint serves (R294, R299, R300, R395); no fence and no full reply store turns it away. -/
def Welcome (s : State) (n : Nat) (p : Packet) (rest : List Packet) : Prop :=
  (s.ni n).rx = p :: rest ∧ pairLane p = true ∧ (opLanes p.hdr.opcode).contains p.lane = true ∧ p.hdr.crc = packetCrc p ∧ p.hdr.poison = false ∧ malformed p = false
    ∧ p.hdr.wsync = false ∧ (sfind (s.ni n).wins (2 * p.hdr.src + b2n (decide (p.lane = 4)))).map (·.exp) = some p.hdr.pseq
    ∧ s.domain (niDom n) ≠ .fencing ∧ s.domain (niDom n) ≠ .draining ∧ (s.ni n).replies.length + (s.ni n).promised < 128
    ∧ decodes n p = true ∧ s.denied n p = none ∧ served n p = true

/-- A response or an ACK that passes its checks stands at the front of what NI n has received (R301, R303). -/
def Answered (s : State) (n op : Nat) (p : Packet) (rest : List Packet) : Prop :=
  (s.ni n).rx = p :: rest ∧ p.hdr.opcode = op ∧ (opLanes op).contains p.lane = true ∧ ((p.lane = 3 ∨ p.lane = 5) → p.hdr.crc = packetCrc p)
    ∧ p.hdr.poison = false ∧ malformed p = false

/-- Engine e has written the receive descriptor of a frame's last buffer back, with DONE, EOF and TRUNC (R413, R418). -/
def ClosesTruncated (s t : State) (e : Nat) (f : Frame) (b : RxBuf) : Prop :=
  ∃ a, (t.ni (niOfDm e)).inbox = (s.ni (niOfDm e)).inbox ++ [a] ∧ a.kind = .write ∧ a.addr = mbRing s e f.ring + b.index % 2 ^ mbLog s e f.ring * 32 + 12
    ∧ bitAt (leAt a.data 0 4) 31 = true ∧ bitAt (leAt a.data 0 4) 29 = true ∧ bitAt (leAt a.data 0 4) 28 = true

/-- What an answer told to its issuers leaves as it was, whatever access they made: every cluster, every flit that an NI sent, every
NI's received packets, TAGs, retransmit stores, windows and unreachable pairs, and the counters of the transaction layer (0x38xx to 0x41xx). -/
def StoresKept (s t : State) : Prop :=
  t.clusters = s.clusters ∧ t.fabric.fromNi = s.fabric.fromNi ∧ t.otp = s.otp ∧ t.pins = s.pins
    ∧ (∀ m, (t.ni m).rx = (s.ni m).rx ∧ (t.ni m).tags = (s.ni m).tags ∧ (t.ni m).gens = (s.ni m).gens ∧ (t.ni m).pairs = (s.ni m).pairs
        ∧ (t.ni m).wins = (s.ni m).wins ∧ (t.ni m).unreach = (s.ni m).unreach)
    ∧ (∀ k, 0x380000 ≤ k → k < 0x420000 → t.kv k = s.kv k)

/-- Every NI but n is unchanged. -/
def OnlyNi (s t : State) (n : Nat) : Prop := ∀ m, m ≠ n → t.ni m = s.ni m

/-- The bytes of cluster k's memory are those of before, but for a run from an offset, which holds new bytes. -/
def Stored (s t : State) (k off : Nat) (data : Bytes) : Prop :=
  ∀ a, sget (0 : Byte) (t.clu k).mem a = if off ≤ a ∧ a < off + data.length then data.getD (a - off) 0 else sget (0 : Byte) (s.clu k).mem a

/-- Every memory of the hub is in its canonical form: the clusters', where an unlisted byte reads 0, and the flash's, where
it reads 0xFF. -/
def MemoryCanonical (s : State) : Prop :=
  (∀ k, Memory.wf 0 (s.clu k).mem = true) ∧ Memory.wf 0xFF s.boat.flash.mem = true

/-- Every command that waits is well formed. -/
def QueueOk (s : State) : Prop := ∀ c ∈ s.pending, c.wf = true

end Sys2Proof.Safety
end

