-- ==== Sys2Proof/Certificates/Slice0/Obligations.lean ====
section
/-! DEFINITION. The statements for the provers. Each names the rules it formalises; "completes" is
Sys2Proof.Safety.Completes: the command answers a next state, and that state has the property named. -/

open Sys2Proof Sys2Proof.Machine Sys2Proof.Safety

/-- A step runs the command at the front of the queue on the state with the queue's rest; on an empty queue one FAB cycle passes (the
model's choice, log 1), which changes the clocks alone. -/
def Obligations.StepRunsFront : Prop :=
  ∀ s : State,
  (∀ c rest, step { s with pending := c :: rest } = exec c { s with pending := rest })
  ∧ (s.pending = [] → ∃ t, step s = .next t ∧ t = { s with clk := t.clk, cox := { s.cox with cycle := t.cox.cycle } } ∧ t.clk.now = s.clk.now + 1)

/-- R44, R577, R581, R554: the state after reset, and that the invariants of MemoryStaysCanonical and QueueStaysWellFormed hold there.
Readings of the model that it rests on: log 4. -/
def Obligations.ResetState : Prop :=
  State.reset.dev = .muster ∧ State.reset.can.nmt = .initialisation ∧ State.reset.boat.spring = .boot ∧ State.reset.cox.pll = false ∧ State.reset.cox.running = false
  ∧ State.reset.dict.owner = none ∧ State.reset.dict.queue = [] ∧ State.reset.img.state = .empty ∧ State.reset.flt.list = [] ∧ State.reset.pending = []
  ∧ (∀ d, State.reset.domain d = if d < 3 then .on else .off) ∧ MemoryCanonical State.reset ∧ QueueOk State.reset

/-- Every step takes exactly the command at the front of the queue and leaves the others as they wait; the queue stays well formed, and the OTP
never changes (R617). -/
def Obligations.QueueStaysWellFormed : Prop :=
  ∀ s t : State, QueueOk s → step s = .next t → QueueOk t ∧ t.pending = s.pending.tail ∧ t.otp = s.otp

/-- No run of any length from any state stops. It rests on R529: every fault of the hub is a message to its own collector, and on the table, whose commands all have an effect in the spec. -/
def Obligations.NeverStops : Prop :=
  ∀ (n : Nat) (s : State), safeRun n s = true

/-- Every step keeps the canonical form of every memory of the hub, from every state.
Readings of the model that it rests on: log 91. -/
def Obligations.MemoryStaysCanonical : Prop :=
  ∀ s t : State, MemoryCanonical s → step s = .next t → MemoryCanonical t

/-- R357, R359: a store to a cluster's memory keeps its canonical form, and afterwards every byte reads as stored inside the run and as before outside it.
Readings of the model that it rests on: log 91. -/
def Obligations.ClusterMemory : Prop :=
  ∀ (c : Cluster) (off : Nat) (data : Bytes),
  (Memory.wf 0 c.mem = true → Memory.wf 0 (c.store off data).mem = true)
  ∧ (∀ a, sget (0 : Byte) (c.store off data).mem a = if off ≤ a ∧ a < off + data.length then data.getD (a - off) 0 else sget (0 : Byte) c.mem a)
  ∧ (∀ m n : Cluster, Memory.wf 0 m.mem = true → Memory.wf 0 n.mem = true → (∀ a, sget (0 : Byte) m.mem a = sget (0 : Byte) n.mem a) → m.mem = n.mem)

/-- R618, R574, R575, R577: power and the standby island. VAUX_POWER_ON, VAUX_LOSS, STANDBY_WAKE, PWR_GOOD_RISE, PWR_GOOD_TIMEOUT,
PWR_REQ_RETRY, PWR_GOOD_LOSS, XTAL32_OSCILLATOR_START.
Readings of the model that it rests on: log 4, 70, 124. -/
def Obligations.PowerUpPath : Prop :=
  ∀ s : State,
  (s.aon.vaux = false → Completes .vauxPowerOn s (fun t =>
    t.dev = .standby ∧ t.aon.vaux = true ∧ t.aon.pwrReq = false ∧ t.domain 0 = .on ∧ (∀ d, d ≠ 0 → t.domain d = .off)
      ∧ t.ob 0x2301 1 = 0 ∧ t.ob 0x2301 4 = 0))
  ∧ Completes .vauxLoss s (fun t => t.aon.vaux = false ∧ t.aon.pwrReq = false ∧ (∀ d, t.domain d = .off))
  ∧ (∀ wakeIn, s.dev = .standby → s.aon.vaux = true → s.aon.pwrReq = false → s.aon.fails < 3 → (s.ob 0x2300 1 = 0 ∨ wakeIn = true) →
      Completes (.standbyWake wakeIn) s (fun t => t.dev = .standby ∧ t.aon.pwrReq = true ∧ t.ob 0x2300 7 = if s.ob 0x2300 1 = 0 then 1 else 2))
  ∧ (∀ straps, s.dev = .standby → s.aon.pwrReq = true → s.pins.rstLow = false →
      Completes (.pwrGoodRise straps) s (fun t => t.dev = .muster ∧ t.aon.pwrGood = true ∧ t.aon.fails = 0 ∧ t.pins.ga = straps.ga.val
        ∧ t.can.nmt = .initialisation ∧ t.boat.spring = .boot ∧ t.domain 0 = .on ∧ t.domain 1 = .on ∧ t.domain 2 = .on))
  ∧ (s.dev = .standby → s.aon.pwrReq = true → s.aon.pwrGood = false →
      Completes .pwrGoodTimeout s (fun t => t.dev = .standby ∧ t.aon.pwrReq = false ∧ t.aon.fails = s.aon.fails + 1
        ∧ t.aon.retryDue = decide (s.aon.fails + 1 < 3) ∧ Counts s t 0x2300 6))
  ∧ (s.dev = .standby → s.aon.retryDue = true → s.pins.ejectOpen = false →
      Completes .pwrReqRetry s (fun t => t = { s with aon := { s.aon with pwrReq := true, retryDue := false } }))
  ∧ (s.pins.ejectOpen = true → Completes .pwrReqRetry s (fun t => t = s))
  ∧ (∀ wakeIn, s.dev ≠ .standby → Completes (.standbyWake wakeIn) s (fun t => t = { s with pins := { s.pins with ejectOpen := false, wakeIn := wakeIn } }))
  ∧ (s.dev ≠ .standby → s.aon.pwrReq = true →
      Completes .pwrGoodLoss s (fun t => t.dev = .standby ∧ t.aon.pwrReq = false ∧ t.domain 0 = .on ∧ (∀ d, d ≠ 0 → t.domain d = .off)
        ∧ t.ob 0x2301 1 = 4))
  ∧ (s.aon.vaux = true → Completes .xtal32OscillatorStart s (fun t => t = { s with aon := { s.aon with xtal := true } }))

/-- R58, R94, R105, R581, R582, R584: chip resets by RST_N and their end. RST_N_ASSERT, RST_N_RELEASE, CHIP_RESET_END, RESET_HELD_TIMER.
Readings of the model that it rests on: log 5, 67, 68, 69, 106. -/
def Obligations.ChipReset : Prop :=
  ∀ s : State,
  (s.aon.rstMasked = false → s.aon.resetting = none → s.dev ≠ .standby →
      Completes .rstNAssert s (fun t => t.dev = .muster ∧ t.pins.rstLow = true ∧ t.aon.resetting = some 1 ∧ t.dict.queue = [] ∧ t.dict.owner = none
        ∧ t.domain 0 = .on ∧ t.domain 1 = .on ∧ (∀ d, 2 ≤ d → t.domain d = .off) ∧ t.ob 0x2301 1 = 1
        ∧ t.can.nominal = s.otp.nominalRate ∧ t.can.data = s.otp.dataRate))
  ∧ (s.aon.rstMasked = true → Completes .rstNAssert s (fun t => t = { s with pins := { s.pins with rstLow := true } }))
  ∧ (∀ straps, s.aon.resetting = some 1 →
      Completes (.rstNRelease straps) s (fun t => t.dev = .muster ∧ t.pins.rstLow = false ∧ t.aon.resetting = none ∧ t.pins.ga = straps.ga.val
        ∧ t.boat.spring = .boot ∧ t.domain 2 = .on))
  ∧ (∀ straps c, s.aon.resetting = some c → c ≠ 1 → s.pins.rstLow = false →
      Completes (.chipResetEnd straps) s (fun t => t.dev = .muster ∧ t.aon.resetting = none ∧ t.pins.ga = straps.ga.val
        ∧ t.boat.spring = .boot ∧ t.domain 2 = .on))
  ∧ (∀ straps c, s.aon.resetting = some c → c ≠ 1 → s.pins.rstLow = true → s.aon.rstMasked = false →
      Completes (.chipResetEnd straps) s (fun t => t.dev = .muster ∧ t.aon.resetting = some 1 ∧ t.dict.owner = none ∧ t.dict.queue = []
        ∧ t.ob 0x2301 1 = 1 ∧ t.ob 0x2301 4 = s.ob 0x2301 4))
  ∧ (s.pins.rstLow = true → s.aon.rstMasked = false → s.dev ≠ .standby → s.ob 0x2301 2 = 0 → s.can.inhibit = false → s.can.busOff = false →
      Completes .resetHeldTimer s (fun t => t.ob 0x2301 2 = 1 ∧ SendsEmcy s t [0x20, 0xFF] [0, 0, 0, 0, 0]))

/-- R587, R588, R589, R143, R579: the ejector and EASY; on entry to MOORED, the last step of the boot script before the flash, an open ejector
moves the hub to EASY at once. EJECT_OPEN, EASY_DRAINED, EASY_LIMIT_EXPIRY, SPRINGHEAD_WRITE.
Readings of the model that it rests on: log 71. -/
def Obligations.EasyPath : Prop :=
  (∀ s : State,
  ((s.dev = .moored ∨ s.dev = .launch ∨ s.dev = .afloat) → s.cox.running = true →
      Completes .ejectOpen s (fun t => t.pins.ejectOpen = true ∧ t.dev = .easy ∧ t.can.nmt = .preOperational ∧ t.pwr.stage = .stopping ∧ t.pwr.easyCause = 1))
  ∧ (s.dev = .easy → s.pwr.stage = .draining → (∀ d, 4 ≤ d → d < 50 → s.domain d = .off) →
      Completes .easyDrained s (fun t => t.dev = .standby ∧ t.domain 0 = .on ∧ (∀ d, d ≠ 0 → t.domain d = .off) ∧ t.ob 0x2301 1 = 5))
  ∧ (s.dev = .easy → s.pwr.stage = .stopping → s.cox.running = true →
      Completes .easyLimitExpiry s (fun t => t.dev = .easy ∧ t.pwr.limitHit = true ∧ t.cox.stopDue = true ∧ t.cox.armed = none)))
  ∧ (∀ s : State, s.boat.spring = .boot → s.aon.resetting = none → s.dev = .muster → s.ob 0x2610 0xA = 7 → s.domain 48 ≠ .waking → s.domain 49 ≠ .waking →
  Completes (.springheadWrite .boot) s (fun t => t.dev = (if s.pins.ejectOpen = true then .easy else .moored) ∧ t.can.nmt = .preOperational ∧ t.ob 0x2610 0xA = 8))

/-- R557, R560 to R565: a domain's transitions. FENCE_COMPLETE, DRAIN_COMPLETE, DRAIN_TIMEOUT_EXPIRY, WAKE_START, WAKE_COMPLETE, WAKE_TIMEOUT.
Readings of the model that it rests on: log 72, 73. -/
def Obligations.DomainTransitions : Prop :=
  ∀ (s : State) (d : DomainId),
  (s.domain d.val = .fencing → s.dev ≠ .easy →
      Completes (.fenceComplete d) s (fun t => t.domain d.val = .draining ∧ (∀ e, e ≠ d.val → t.domain e = s.domain e) ∧ t.ob (domIdx d.val) 9 = s.stamp))
  ∧ (16 ≤ d.val → d.val < 40 → s.domain d.val = .draining → s.drained d.val = true → s.dev ≠ .easy → sget (.off, false) s.pwr.goal d.val = (.retain, false) →
      Completes (.drainComplete d) s (fun t => t.domain d.val = .retain ∧ (∀ e, e ≠ d.val → t.domain e = s.domain e)
        ∧ (t.clu (d.val - 16)).mem = (s.clu (d.val - 16)).mem))
  ∧ (16 ≤ d.val → d.val < 40 → s.domain d.val = .draining → s.drained d.val = true → s.dev ≠ .easy → sget (.off, false) s.pwr.goal d.val = (.off, false) →
      Completes (.drainComplete d) s (fun t => t.domain d.val = .off ∧ (∀ e, e ≠ d.val → t.domain e = s.domain e) ∧ (t.clu (d.val - 16)).mem = []))
  ∧ (16 ≤ d.val → d.val < 40 → s.domain d.val = .draining → s.dev ≠ .easy → sget (.off, false) s.pwr.goal d.val = (.off, false) →
      Completes (.drainTimeoutExpiry d) s (fun t => t.domain d.val = .off ∧ t.pwr.forcedOff = s.pwr.forcedOff + 1))
  ∧ (d.val ∈ s.pwr.waitWake → (∀ x ∈ s.pwr.waitWake, d.val ≤ x) → s.wakingCount < s.ob 0x2200 2 →
      Completes (.wakeStart d) s (fun t => t.domain d.val = .waking ∧ d.val ∉ t.pwr.waitWake ∧ (∀ e, e ≠ d.val → t.domain e = s.domain e)))
  ∧ (40 ≤ d.val → d.val < 48 → s.domain d.val = .waking → s.dev ≠ .easy →
      Completes (.wakeComplete d) s (fun t => t.domain d.val = .on ∧ (∀ e, e ≠ d.val → t.domain e = s.domain e)
        ∧ (t.ni (niOfDom d.val)).cache = []))
  ∧ (40 ≤ d.val → d.val < 48 → s.domain d.val = .waking → s.dev ≠ .easy →
      Completes (.wakeTimeout d) s (fun t => t.domain d.val = .off ∧ d.val ∈ t.pwr.failed))

/-- R13, R113 to R116, R135: time-of-day frames. TOD_FRAME, TOD_BYTE_TIMEOUT.
Readings of the model that it rests on: log 3. -/
def Obligations.TodFrames : Prop :=
  ∀ (s : State) (f : Bytes),
  Completes .todByteTimeout s (fun t => t = { s with cox := { s.cox with todPartial := [], todAt := none } })
  ∧ (s.cox.pll = true → s.domain 2 = .on → s.ob 0x2110 7 = 1 → s.cox.todPartial = [] → s.todIdle f.length = true → f.head? = some 0xC5 →
    (f.length < 16 → Completes (.todFrame f) s (fun t => t = { s with cox := { s.cox with todPartial := f, todAt := some s.clk.now } }))
  ∧ (f.length = 16 → crc8 (f.take 15) ≠ leAt f 15 1 →
      Completes (.todFrame f) s (fun t => Counts s t 0x2111 5 ∧ t.cox.todPartial = [] ∧ t.cox.edge = s.cox.edge))
  ∧ (∀ e, f.length = 16 → crc8 (f.take 15) = leAt f 15 1 → s.cox.state = .unanchored → s.cox.edge = some e → leAt f 1 1 = 1 → leAt f 14 1 = 0 →
      leAt f 8 4 < 1000000000 → leAt f 8 4 % 2000 = 0 → 3072000 ≤ s.clk.fab - e.fab → s.clk.fab - e.fab ≤ 2764800000 →
      Completes (.todFrame f) s (fun t => t.ob 0x2130 1 = leAt f 2 6 ∧ t.ob 0x2130 2 = leAt f 8 4 ∧ t.cox.state = .unanchored
        ∧ t.ob 0x2130 4 = leAt f 13 1 % 4 ∧ t.cox.edge = some { e with label := some (leAt f 2 6 * 3072000000 + leAt f 8 4 / 2000 * 6144) })))
  ∧ (s.cox.pll = true → s.domain 2 = .on → s.ob 0x2110 7 = 1 → s.cox.todPartial = [] → s.todIdle f.length = false → f ≠ [] →
      Completes (.todFrame f) s (fun t => t = { s with cox := { s.cox with todAt := some s.clk.now } }))

/-- R93, R94, R187, R15: ownership and plain object writes. CLAIM, RELEASE, OBJECT_WRITE, COUNTER_CLEAR. -/
def Obligations.OwnershipAndWrites : Prop :=
  ∀ (s : State) (p : Path),
  (Accepted s p 0x2010 2 1 → s.dict.owner = none → s.can.inhibit = false → s.can.busOff = false → s.dev ≠ .standby →
      Completes (.claim p) s (fun t => t.dict.owner = some p ∧ Counts s t 0x2010 3 ∧ SendsEmcy s t [0x30, 0xFF] [BitVec.ofNat 8 (pathNum p), 0, 0, 0, 0]))
  ∧ (Accepted s p 0x2010 2 0 → s.dict.owner = some p → Completes (.release p) s (fun t => t.dict.owner = none))
  ∧ (∀ v, v < 65536 → Accepted s p 0x1017 0 v →
      Completes (.objectWrite { path := p, index := 0x1017, sub := 0, data := leBytes v 2 }) s (fun t => t.ob 0x1017 0 = v
        ∧ (∀ k, k ≠ okey 0x1017 0 → t.kv k = s.kv k) ∧ t.clusters = s.clusters ∧ t.nis = s.nis ∧ t.cox = s.cox))
  ∧ (∀ w : ObjWrite, w.index = 0x2400 → w.sub = 0xF → s.writeRefused { who := .path w.path, index := 0x2400, sub := 0xF, data := w.data } = none →
      Completes (.counterClear w) s (fun t => (∀ j, 7 ≤ j → j ≤ 0xC → t.ob 0x2400 j = objDefault s.otp s.pins 0x2400 j)
        ∧ (∀ k, keyIdx k ≠ 0x2400 → t.kv k = s.kv k)))

/-- R126, R134, R137, R138, R139, R258, R123: the Cox's commands. PPS_ENABLE_WRITE, REANCHOR, HEAT_ARM, HEAT_DISARM, COMMIT, TIME_SECONDS_READ.
Readings of the model that it rests on: log 86. -/
def Obligations.CoxCommands : Prop :=
  ∀ (s : State) (p : Path),
  (Accepted s p 0x2110 1 0 → Completes (.ppsEnableWrite p false) s (fun t => t.ob 0x2110 1 = 0 ∧ t.cox.state = .unanchored ∧ t.cox.captured = none))
  ∧ (Accepted s p 0x2110 1 1 → Completes (.ppsEnableWrite p true) s (fun t => t.ob 0x2110 1 = 1 ∧ t.cox = s.cox))
  ∧ (Accepted s p 0x2110 9 1 → Completes (.reanchor p) s (fun t => t.cox = { s.cox with reanchor := true }))
  ∧ (Accepted s p 0x2120 4 1 → s.armRefused = false →
      Completes (.heatArm p) s (fun t => t.cox = { s.cox with armed := some { seconds := s.ob 0x2120 1, stroke := s.ob 0x2120 2, start := decide (s.ob 0x2120 3 = 1) } }))
  ∧ (Accepted s p 0x2120 4 0 → s.cox.armed.isSome = true → Completes (.heatDisarm p) s (fun t => t.cox = { s.cox with armed := none }))
  ∧ (Accepted s p 0x34F0 1 1 → Completes (.commit p) s (fun t => t.ob 0x34F0 2 = 1 ∧ (∀ k, k ≠ okey 0x34F0 2 → t.kv k = s.kv k)))
  ∧ (s.readRefused (.path p) 0x2101 1 = none → s.objAnswers 0x2101 1 = true →
      Completes (.timeSecondsRead p) s (fun t => sfind t.dict.latch (pathNum p) = some (s.nanos, s.cox.stroke) ∧ t.dict.objs = s.dict.objs ∧ t.cox = s.cox))

/-- R585, R586: the reset mask. RST_MASK_UNLOCK_ARM, RST_MASK_UNLOCK_COMPLETE, RST_UNMASK.
Readings of the model that it rests on: log 69. -/
def Obligations.ResetMask : Prop :=
  ∀ (s : State) (p : Path),
  (Accepted s p 0x2302 1 0x5A5A → Completes (.rstMaskUnlockArm p) s (fun t => t.aon = { s.aon with unlockAt := some s.clk.now }))
  ∧ (∀ straps at_, Accepted s p 0x2302 1 0xA5A5 → s.aon.unlockAt = some at_ → s.clk.now ≤ at_ + 3072000000 → s.aon.resetting = none →
      Completes (.rstMaskUnlockComplete p straps) s (fun t => t.aon = { s.aon with unlockAt := none, rstMasked := true }))
  ∧ (∀ straps at_, Accepted s p 0x2302 1 0xA5A5 → s.aon.unlockAt = some at_ → at_ + 3072000000 < s.clk.now →
      Completes (.rstMaskUnlockComplete p straps) s (fun t => t.aon = { s.aon with unlockAt := none }))
  ∧ (Accepted s p 0x2302 3 1 → s.pins.rstLow = false → Completes (.rstUnmask p) s (fun t => t.aon.rstMasked = false ∧ t.dev = s.dev))

/-- R557, R559, R566, R587: power requests. POWER_TARGET_OFF, POWER_TARGET_ON, POWER_TARGET_RETAIN, DOMAIN_COMMAND, EASY_COMMAND_ORDERLY,
EASY_COMMAND_FORCED. -/
def Obligations.PowerRequests : Prop :=
  ∀ (s : State) (p : Path) (d : DomainId),
  (Accepted s p (domIdx d.val) 2 0 → s.domain d.val = .on → Completes (.powerTargetOff (.path p) d) s (fun t => t.ob (domIdx d.val) 2 = 0
      ∧ t.domain d.val = .fencing ∧ sget (.off, false) t.pwr.goal d.val = (.off, false) ∧ (∀ e, e ≠ d.val → t.domain e = s.domain e)))
  ∧ (Accepted s p (domIdx d.val) 2 1 → s.domain d.val = .off → d.val ∉ s.pwr.failed → s.pwr.waitWake = [] → s.wakingCount < s.ob 0x2200 2 →
      Completes (.powerTargetOn (.path p) d) s (fun t => t.ob (domIdx d.val) 2 = 1 ∧ t.domain d.val = .waking ∧ (∀ e, e ≠ d.val → t.domain e = s.domain e)))
  ∧ (Accepted s p (domIdx d.val) 2 2 → s.domain d.val = .on → Completes (.powerTargetRetain (.path p) d) s (fun t => t.ob (domIdx d.val) 2 = 2
      ∧ t.domain d.val = .fencing ∧ sget (.off, false) t.pwr.goal d.val = (.retain, false) ∧ (∀ e, e ≠ d.val → t.domain e = s.domain e)))
  ∧ (Accepted s p (domIdx d.val) 4 1 → s.domain d.val = .on → Completes (.domainCommand p d) s (fun t => t.domain d.val = .fencing
      ∧ sget (.off, false) t.pwr.goal d.val = (if 16 ≤ d.val ∧ d.val < 40 then .retain else .off, true)))
  ∧ (Accepted s p 0x2303 1 1 → s.cox.running = true → Completes (.easyCommandOrderly p) s (fun t => t.dev = .easy ∧ t.pwr.stage = .stopping
      ∧ t.pwr.easyCause = 2 ∧ t.pwr.easyForced = false))
  ∧ (Accepted s p 0x2303 1 2 → s.cox.running = true → Completes (.easyCommandForced p) s (fun t => t.dev = .easy ∧ t.pwr.stage = .stopping
      ∧ t.pwr.easyCause = 2 ∧ t.pwr.easyForced = true ∧ t.cox.armed = none ∧ t.cox.stopDue = true))
  ∧ Completes (.powerTargetOn .steward d) s (fun t => t = s)
  ∧ ((s.stw.running = false ∨ d.val < 16 ∨ 48 ≤ d.val) → Completes (.powerTargetOff .steward d) s (fun t => t = s) ∧ Completes (.powerTargetRetain .steward d) s (fun t => t = s))

/-- R547 to R553, R555: the fault collector's commands. ENTRY_ACKNOWLEDGE, ENTRY_CLEAR, ENTRY_ACKNOWLEDGE_ALL, ENTRY_CLEAR_ENDED, PIN_ACK, PIN_CLEAR,
RETAINED_RELEASE, POLICY_TABLE_WRITE, INJECT_ARM, INJECT_CANCEL, TEST_MESSAGE_SUBMIT.
Readings of the model that it rests on: log 80. -/
def Obligations.CollectorCommands : Prop :=
  ∀ (s : State) (p : Path),
  (∀ x, Accepted s p 0x2420 5 1 → sfind s.flt.list (s.ob 0x2420 1) = some x → x.state = .raised →
      Completes (.entryAcknowledge p) s (fun t => (sfind t.flt.list (s.ob 0x2420 1)).map (·.state) = some .acknowledged
        ∧ (∀ e, e ≠ s.ob 0x2420 1 → sfind t.flt.list e = sfind s.flt.list e)))
  ∧ (∀ x, Accepted s p 0x2420 5 2 → sfind s.flt.list (s.ob 0x2420 1) = some x →
      Completes (.entryClear p) s (fun t => sfind t.flt.list (s.ob 0x2420 1) = none ∧ (x.msg.kind, x.msg.source, x.msg.unit) ∉ t.flt.held
        ∧ (∀ e, e ≠ s.ob 0x2420 1 → sfind t.flt.list e = sfind s.flt.list e)))
  ∧ (Accepted s p 0x2420 5 3 → Completes (.entryAcknowledgeAll p) s (fun t => (∀ x ∈ t.flt.list, x.2.state ≠ .raised) ∧ t.flt.list.length = s.flt.list.length))
  ∧ (Accepted s p 0x2420 5 4 → Completes (.entryClearEnded p) s (fun t => (∀ y ∈ t.flt.list, y ∈ s.flt.list ∧ s.causeActive y.2 = true)
      ∧ (srising s.flt.list = true → ∀ y ∈ s.flt.list, s.causeActive y.2 = true → y ∈ t.flt.list)))
  ∧ (∀ m, m < 2 ^ 32 → Accepted s p 0x2428 4 m → Completes (.pinAck p m) s (fun t =>
      t.flt = { s.flt with pins := s.flt.pins.map (fun y => (y.1, if bitAt m y.1 ∧ y.2.state = .raised then { y.2 with state := .acknowledged, timer := none } else y.2)) }))
  ∧ (∀ m, m < 2 ^ 32 → Accepted s p 0x2428 5 m → Completes (.pinClear p m) s (fun t =>
      t.flt = { s.flt with pins := s.flt.pins.filter (fun y => ! bitAt m y.1 || s.flt.pinRaw.contains y.1) }))
  ∧ (Accepted s p 0x2430 3 1 → Completes (.retainedRelease p) s (fun t => t.aon.retainedHold = false ∧ t.aon.retained = s.aon.retained))
  ∧ (∀ data, data.length = 8 → s.writeRefused { who := .path p, index := 0x2411, sub := 0, data := data, off := 0 } = none →
      Completes (.policyTableWrite p 0 data) s (fun t => t.policy 0x0101
        = { reaction := field (leAt data 0 8) 47 45, next := field (leAt data 0 8) 44 42, pin := bitAt (leAt data 0 8) 41, grace := field (leAt data 0 8) 31 0 }))
  ∧ (Accepted s p 0x2440 3 1 → Completes (.injectArm p) s (fun t => t.flt = { s.flt with inject := .armed, injTarget := s.ob 0x2440 1, injOffset := s.ob 0x2440 2 }))
  ∧ (Accepted s p 0x2440 3 2 → s.flt.inject = .armed → Completes (.injectCancel p) s (fun t => t.flt = { s.flt with inject := .idle }))
  ∧ (Accepted s p 0x2441 3 1 → s.flt.input.length < 64 →
      Completes (.testMessageSubmit p) s (fun t => t.flt.input = s.flt.input ++ [(unpackFault (s.ob 0x2441 1) (s.ob 0x2441 2), true)]))

/-- R376, R381, R373, R410, R433, R431, R333, R344, R349: commands of NIs, clusters and engines. WIN_INVALIDATE, SHAPER_ENTRY_WRITE, GATE_APPLY, GATE_CANCEL,
POOL_ENABLE, POOL_DISABLE, BLOCK_LOG2_WRITE, QUEUE_ENABLE, QUEUE_DISABLE, MB_RESET, EQ_FLUSH. -/
def Obligations.BlockCommands : Prop :=
  ∀ (s : State) (p : Path),
  (∀ n : RouterId, Accepted s p (0x4000 + n.val) 0x81 1 → Completes (.winInvalidate p n) s (fun t => (t.ni n.val).cache = []
      ∧ (∀ m, m ≠ n.val → t.ni m = s.ni m) ∧ t.dict.objs = s.dict.objs))
  ∧ (∀ (n : RouterId) v, v < 2 ^ 64 → v &&& 0xC3FFFF00001FFFFF = v → Accepted s p (0x4200 + n.val) 3 v → (s.ni n.val).shape = [] →
      Completes (.shaperEntryWrite p n v) s (fun t => t.shaperEntry n.val (s.ob (0x4200 + n.val) 2) = v))
  ∧ (∀ n : RouterId, Accepted s p (0x4300 + n.val) 5 1 → Completes (.gateApply p n) s (fun t => (t.ni n.val).pendGates.map (·.1) = some (s.adminGates n.val)
      ∧ (∀ m, m ≠ n.val → t.ni m = s.ni m)))
  ∧ (∀ n : RouterId, Accepted s p (0x4300 + n.val) 5 2 → (s.ni n.val).pendGates.isSome = true →
      Completes (.gateCancel p n) s (fun t => (t.ni n.val).pendGates = none ∧ t.ob (0x4300 + n.val) 8 = 2))
  ∧ (∀ (k : ClusterId) (pool : Fin 8) config, config < 2 ^ 63 → Accepted s p (0x4800 + k.val) (0x30 + pool.val) (config ||| 2 ^ 63) →
      poolEnabled (s.poolCfg k.val pool.val) = false →
      Completes (.poolEnable p k pool config) s (fun t => poolEnabled (t.poolCfg k.val pool.val) = true
        ∧ sget [] (t.clu k.val).free pool.val = List.range (poolCount (t.poolCfg k.val pool.val)) ∧ (t.clu k.val).mem = (s.clu k.val).mem))
  ∧ (∀ (k : ClusterId) (pool : Fin 8), Accepted s p (0x4800 + k.val) (0x30 + pool.val) (s.poolCfg k.val pool.val % 2 ^ 63) →
      poolEnabled (s.poolCfg k.val pool.val) = true →
      Completes (.poolDisable p k pool) s (fun t => poolEnabled (t.poolCfg k.val pool.val) = false ∧ sget [] (t.clu k.val).free pool.val = []
        ∧ (t.clu k.val).mem = (s.clu k.val).mem))
  ∧ (∀ (k : ClusterId) v, v < 256 → Accepted s p (0x4800 + k.val) 1 v →
      Completes (.blockLog2Write p k v) s (fun t => t.ob (0x4800 + k.val) 1 = v ∧ (t.clu k.val).trackers = [] ∧ (t.clu k.val).mem = (s.clu k.val).mem))
  ∧ (∀ (e : EngineId) config, config < 2 ^ 31 → Accepted s p (0x4C00 + e.val) 4 (config ||| 2 ^ 31) →
      bitAt (qConfig s e.val (s.ob (0x4C00 + e.val) 1)) 31 = false →
      Completes (.queueEnable p e config) s (fun t => t.dq e.val (s.ob (0x4C00 + e.val) 1) = { state := .idle }))
  ∧ (∀ e : EngineId, Accepted s p (0x4C00 + e.val) 4 (qConfig s e.val (s.ob (0x4C00 + e.val) 1) % 2 ^ 31) →
      bitAt (qConfig s e.val (s.ob (0x4C00 + e.val) 1)) 31 = true →
      Completes (.queueDisable p e) s (fun t => t.dq e.val (s.ob (0x4C00 + e.val) 1) = {}))
  ∧ (∀ e : EngineId, Accepted s p (0x4C00 + e.val) 0x14 1 → (s.ring e.val (s.ob (0x4C00 + e.val) 0x10)).state = .error →
      Completes (.mbReset p e) s (fun t => t.ring e.val (s.ob (0x4C00 + e.val) 0x10)
        = { s.ring e.val (s.ob (0x4C00 + e.val) 0x10) with state := .running, consumer := (s.ring e.val (s.ob (0x4C00 + e.val) 0x10)).producer }))
  ∧ (∀ i : Fin 16, Accepted s p (0x4E00 + i.val) 8 1 → Completes (.eqFlush p i) s (fun t => (t.evq i.val).items = [] ∧ (t.evq i.val).bank = []))

/-- R175, R182, R188, R476, R477: link commands. LINK_PLANNED_RETRAIN, LINK_IMMEDIATE_RETRAIN, LINK_TAKE_DOWN, LINK_COMMAND_RETRAIN, LINK_COMMAND_DISABLE,
LINK_COMMAND_ENABLE, LINK_COMMAND_HOT_RESET.
Readings of the model that it rests on: log 74, 85. -/
def Obligations.LinkCommands : Prop :=
  ∀ (s : State) (p : Path),
  (∀ (r : RouterId) (q : Port), Accepted s p (0x3000 + r.val) (16 * portNum q + 15) 1 → s.linkState r.val (portNum q) = .up →
      Completes (.linkPlannedRetrain p r q) s (fun t => t.linkState r.val (portNum q) = .up ∧ (t.bond r.val (portNum q)).planned = true))
  ∧ (∀ (r : RouterId) (q : Port), Accepted s p (0x3000 + r.val) (16 * portNum q + 15) 2 → s.linkState r.val (portNum q) = .up →
      Completes (.linkImmediateRetrain p r q) s (fun t => t.linkState r.val (portNum q) = .retrain ∧ (t.bond r.val (portNum q)).urgent = true))
  ∧ (∀ (r : RouterId) (q : Port), Accepted s p (0x3000 + r.val) (16 * portNum q + 15) 3 → s.linkState r.val (portNum q) = .up →
      Completes (.linkTakeDown p r q) s (fun t => t.linkState r.val (portNum q) = .down))
  ∧ (∀ b : BridgeId, Accepted s p (brIdx b.val) 0xC 1 → (s.br b.val).state = .up → Completes (.linkCommandRetrain p b) s (fun t => (t.br b.val).state = .recovery))
  ∧ (∀ b : BridgeId, Accepted s p (brIdx b.val) 0xC 2 → Completes (.linkCommandDisable p b) s (fun t =>
      (t.br b.val).disabled = true ∧ ((s.br b.val).state = .idle → (t.br b.val).state = .disabled)))
  ∧ (∀ b : BridgeId, Accepted s p (brIdx b.val) 0xC 3 → Completes (.linkCommandEnable p b) s (fun t => (t.br b.val).disabled = false))
  ∧ (∀ b : BridgeId, Accepted s p (brIdx b.val) 0xC 4 → 2 ≤ b.val → (s.br b.val).state = .recovery → Completes (.linkCommandHotReset p b) s (fun t =>
      Tlp.hotReset ∈ (t.br b.val).out ∧ (t.br b.val).state ≠ .recovery))

/-- R489, R490, R511, R516, R522: the Boathouse's commands. JTAG_CHALLENGE, JTAG_LOCK, JTAG_RESPONSE, JTAG_CHALLENGE_TIMEOUT, IMAGE_COMMIT, IMAGE_DISCARD,
FLASH_WRITE_SLOT, FLASH_ERASE_SLOT.
Readings of the model that it rests on: log 84. -/
def Obligations.BoathouseCommands : Prop :=
  ∀ (s : State) (p : Path),
  (Accepted s p 0x2601 4 1 → s.boat.jtag ≠ .lockedOut → Completes (.jtagChallenge p) s (fun t => t.boat.jtag = .challenged
      ∧ t.boat.challenge = (List.range 48).map (fun j => Config.freeByte (s.free + j)) ∧ t.free = s.free + 48))
  ∧ (Accepted s p 0x2601 4 2 → s.boat.jtag ≠ .lockedOut → Completes (.jtagLock p) s (fun t => t.boat.jtag = .locked ∧ t.boat.debug = false ∧ t.boat.remap = false))
  ∧ (∀ sig : Bytes, sig.length = 96 → s.boat.response = [] → s.writeRefused { who := .path p, index := 0x2601, sub := 3, data := sig } = none → s.boat.jtag = .challenged →
      Completes (.jtagResponse p sig) s (fun t =>
        if Config.debugVerify s.otp.debugKeyHash (s.boat.challenge ++ leBytes s.otp.serial 4) sig = true then t.boat.jtag = .unlocked ∧ t.boat.debug = true
        else t.boat.jtag = (if s.boat.streak + 1 ≥ 3 then .lockedOut else .locked) ∧ t.boat.streak = s.boat.streak + 1))
  ∧ (s.boat.jtag = .challenged → Completes .jtagChallengeTimeout s (fun t => t = { s with boat := { s.boat with jtag := .locked, challenge := [], response := [] } }))
  ∧ (Accepted s p 0x2602 2 1 → Completes (.imageCommit p) s (fun t => t.img = { s.img with state := .loading }))
  ∧ (Accepted s p 0x2602 2 2 → Completes (.imageDiscard p) s (fun t => t.img.state = .empty ∧ t.img.staging = [] ∧ t.img.shadow = none ∧ t.ob 0x2602 4 = 0))
  ∧ (∀ slotB, Accepted s p 0x2620 4 (1 + b2n slotB) → Completes (.flashWriteSlot p slotB) s (fun t => t.boat.flash.state = .busy
      ∧ t.boat.flash.op = some { slotB := slotB, erase := false, len := s.img.staging.length, generation := imgGeneration s.staged } ∧ t.boat.flash.mem = s.boat.flash.mem))
  ∧ (∀ slotB, Accepted s p 0x2620 4 (3 + b2n slotB) → Completes (.flashEraseSlot p slotB) s (fun t => t.boat.flash.state = .busy
      ∧ t.boat.flash.op = some { slotB := slotB, erase := true } ∧ t.boat.flash.mem = s.boat.flash.mem))

/-- R61, R64 to R68, R94: NMT. NMT_START_REMOTE_NODE, NMT_ENTER_PRE_OPERATIONAL, NMT_STOP_REMOTE_NODE, NMT_RESET_COMMUNICATION, NMT_RESET_NODE.
That a Reset communication drops what was received for RPDOs is a reading of the model (log 61). -/
def Obligations.NmtCommands : Prop :=
  ∀ (s : State) (node : Nat),
  (s.named node = true →
      ((s.dev = .moored ∨ s.dev = .launch) → Completes (.nmtStartRemoteNode node) s (fun t => t.ob 0x2000 3 = 1 ∧ t.can = s.can ∧ t.dev = s.dev))
      ∧ (s.dev = .afloat → Completes (.nmtStartRemoteNode node) s (fun t => t = { s with can := { s.can with nmt := .operational } }))
      ∧ ((s.dev = .easy ∨ s.dev = .halted) → Completes (.nmtStartRemoteNode node) s (fun t => t = s))
      ∧ Completes (.nmtEnterPreOperational node) s (fun t => t = { s with can := { s.can with nmt := .preOperational } })
      ∧ Completes (.nmtStopRemoteNode node) s (fun t => t = { s with can := { s.can with nmt := .stopped } })
      ∧ (s.can.busOff = false → Completes (.nmtResetCommunication node) s (fun t => t.can.nmt = .preOperational ∧ t.dict.owner = none ∧ t.can.rpdo = []
          ∧ (∀ k, 0x1000 ≤ keyIdx k → keyIdx k ≤ 0x1FFF → t.kv k = objDefault s.otp s.pins (keyIdx k) (keySub k))
          ∧ ({ id := 0x700 + s.nodeId, data := [0] } : CanFrame) ∈ t.can.out ∧ t.dev = s.dev ∧ t.clusters = s.clusters ∧ t.nis = s.nis ∧ t.cox = s.cox))
      ∧ (s.ob 0x2000 5 = 1 → s.aon.resetting = none → Completes (.nmtResetNode node) s (fun t => t.dev = .muster ∧ t.aon.resetting = some 2 ∧ t.dict.owner = none
          ∧ t.domain 0 = .on ∧ t.domain 1 = .on ∧ (∀ d, 2 ≤ d → t.domain d = .off)))
      ∧ (s.ob 0x2000 5 ≠ 1 → Completes (.nmtResetNode node) s (fun t => Counts s t 0x2011 4 ∧ t = { s with dict := { s.dict with objs := t.dict.objs } })))
  ∧ (s.named node = false → Completes (.nmtStartRemoteNode node) s (fun t => t = s) ∧ Completes (.nmtEnterPreOperational node) s (fun t => t = s)
      ∧ Completes (.nmtStopRemoteNode node) s (fun t => t = s) ∧ Completes (.nmtResetCommunication node) s (fun t => t = s)
      ∧ Completes (.nmtResetNode node) s (fun t => t = s))

/-- R69, R70, R71, R98: SDO requests enter the queue or are aborted. SDO_INITIATE_DOWNLOAD, SDO_INITIATE_UPLOAD, SDO_DOWNLOAD_SEGMENT, SDO_UPLOAD_SEGMENT,
SDO_ABORT_TRANSFER, SDO_UNSUPPORTED_COMMAND, SDO_SEGMENT_TIMEOUT.
Readings of the model that it rests on: log 62, 113. -/
def Obligations.SdoRequests : Prop :=
  ∀ s : State, s.sdoServed = true →
  (∀ i j e data, s.dict.sdo = none → s.dict.queue.length < 16 → Completes (.sdoInitiateDownload i j e data) s (fun t =>
      t.dict.queue = s.queueWith (.sdo (.initDownload i j e data)) ∧ t.dict.sdo = none ∧ t.can = s.can ∧ OnlyIndex s t 0x2011))
  ∧ (∀ i j, s.dict.sdo = none → s.dict.queue.length < 16 → Completes (.sdoInitiateUpload i j) s (fun t =>
      t.dict.queue = s.queueWith (.sdo (.initUpload i j)) ∧ t.dict.sdo = none ∧ t.can = s.can ∧ OnlyIndex s t 0x2011))
  ∧ (∀ x toggle last data, s.dict.sdo = some x → x.download = true → s.nextToggle x = toggle → s.dict.queue.length < 16 →
      Completes (.sdoDownloadSegment toggle last data) s (fun t => t.dict.queue = s.queueWith (.sdo (.segDownload toggle last data)) ∧ t.dict.sdo = some x
        ∧ t.can = s.can ∧ OnlyIndex s t 0x2011))
  ∧ (∀ x toggle, s.dict.sdo = some x → x.download = false → s.nextToggle x = toggle → s.dict.queue.length < 16 →
      Completes (.sdoUploadSegment toggle) s (fun t => t.dict.queue = s.queueWith (.sdo (.segUpload toggle)) ∧ t.dict.sdo = some x
        ∧ t.can = s.can ∧ OnlyIndex s t 0x2011))
  ∧ (∀ x toggle, s.dict.sdo = some x → s.nextToggle x ≠ toggle → s.can.busOff = false →
      (∀ last data, x.download = true → Completes (.sdoDownloadSegment toggle last data) s (fun t => t.dict.sdo = none ∧ t.dict.queue = s.dict.queue
        ∧ SendsFrame s t (abortFrame s x.index x.sub 0x05030000)))
      ∧ (x.download = false → Completes (.sdoUploadSegment toggle) s (fun t => t.dict.sdo = none ∧ t.dict.queue = s.dict.queue
        ∧ SendsFrame s t (abortFrame s x.index x.sub 0x05030000))))
  ∧ (∀ i j, s.dict.sdo = none → 16 ≤ s.dict.queue.length → s.freshCount = 0 → s.can.busOff = false → Completes (.sdoInitiateUpload i j) s (fun t =>
      t.dict.queue = s.dict.queue ∧ Counts s t 0x2011 3 ∧ SendsFrame s t (abortFrame s i j 0x08000020)))
  ∧ Completes .sdoAbortTransfer s (fun t => t = { s with dict := { s.dict with sdo := none } })
  ∧ (∀ i j, s.dict.sdo = none → s.can.busOff = false → Completes (.sdoUnsupportedCommand i j) s (fun t =>
      SendsFrame s t (abortFrame s i j 0x05040001) ∧ t.dict = s.dict))
  ∧ (∀ x, s.dict.sdo = some x → s.can.busOff = false → Completes .sdoSegmentTimeout s (fun t =>
      t.dict.sdo = none ∧ SendsFrame s t (abortFrame s x.index x.sub 0x05040000)))

/-- R69, R92, R98, R100: the request at the front of the queue is served. DICTIONARY_REQUEST_SERVE.
Readings of the model that it rests on: log 62. -/
def Obligations.RequestService : Prop :=
  ∀ s : State, s.can.busOff = false → s.dev ≠ .standby →
  (∀ rest i j c, s.dict.queue = .sdo (.initUpload i j) :: rest → s.dict.sdo = none → s.readRefused (.path .can) i j = some c →
      Completes .dictionaryRequestServe s (fun t => t.dict = { s.dict with queue := rest } ∧ SendsFrame s t (abortFrame s i j c)))
  ∧ (∀ rest, s.dict.queue = .sdo (.initUpload 0x1017 0) :: rest → s.dict.sdo = none →
      Completes .dictionaryRequestServe s (fun t => t.dict.queue = rest ∧ t.dict.objs = s.dict.objs
        ∧ SendsFrame s t { id := 0x580 + s.nodeId, data := [0x4B, 0x17, 0x10, 0] ++ leBytes (s.ob 0x1017 0) 2 ++ [0, 0] }))
  ∧ (∀ rest v, v < 65536 → s.dict.queue = .sdo (.initDownload 0x1017 0 true (leBytes v 2)) :: rest → s.dict.sdo = none → Accepted s .can 0x1017 0 v →
      Completes .dictionaryRequestServe s (fun t => t.dict.queue = rest ∧ t.ob 0x1017 0 = v ∧ OnlyIndex s t 0x1017
        ∧ SendsFrame s t { id := 0x580 + s.nodeId, data := [0x60, 0x17, 0x10, 0, 0, 0, 0, 0] }))
  ∧ (∀ rest x last data, s.dict.queue = .sdo (.segDownload x.toggle last data) :: rest → s.dict.sdo = some x → x.download = true → last = false →
      Completes .dictionaryRequestServe s (fun t => t.dict.queue = rest ∧ t.dict.sdo = some { x with toggle := ! x.toggle, buf := x.buf ++ data }
        ∧ t.dict.objs = s.dict.objs))
  ∧ (∀ rest x, s.dict.queue = .sdo (.segUpload x.toggle) :: rest → s.dict.sdo = some x → x.download = false → 7 < x.buf.length →
      Completes .dictionaryRequestServe s (fun t => t.dict.queue = rest ∧ t.dict.sdo = some { x with toggle := ! x.toggle, buf := x.buf.drop 7 }
        ∧ SendsFrame s t { id := 0x580 + s.nodeId, data := BitVec.ofNat 8 (16 * b2n x.toggle) :: padTo 7 (x.buf.take 7) }))
  ∧ (s.dict.queue = [] → Completes .dictionaryRequestServe s (fun t => t = s))

/-- R63, R72 to R78: PDOs, SYNC and the output hold. SYNC, RPDO_RECEIVE, TPDO_EVENT_TIMER, SYNC_LOSS, OUTPUT_HOLD_EXPIRY. That a hold whose cause stands lets
pending RPDOs wait is a reading of the rules (log 58).
Readings of the model that it rests on: log 58, 59, 62. -/
def Obligations.PdosAndSync : Prop :=
  ∀ s : State, s.can.busOff = false → s.onBus = true →
  (s.dev ≠ .halted → s.can.nmt = .preOperational → s.can.reported = false → Completes .sync s (fun t => t.can = { s.can with syncLost := false } ∧ t.ob 0x2003 1 = s.stamp ∧ OnlyIndex s t 0x2003))
  ∧ ((s.dev = .halted ∨ s.can.nmt = .stopped) → Completes .sync s (fun t => t = s))
  ∧ (∀ k, k < 4 → s.dev ≠ .halted → s.can.nmt = .operational → s.can.reported = false → s.can.rpdo = [] → s.pdoValid (0x1800 + k) = true → 1 ≤ s.ob (0x1800 + k) 2 → s.ob (0x1800 + k) 2 ≤ 240 →
      s.ob (0x1800 + k) 2 ≤ sget 0 s.can.tpdoAge k + 1 → (∀ j, j < 4 → j ≠ k → s.pdoValid (0x1800 + j) = false) →
      Completes .sync s (fun t => sget 0 t.can.tpdoAge k = 0 ∧ ∃ f, SendsFrame s t f ∧ f.id = s.ob (0x1800 + k) 1 % 2048))
  ∧ (s.dev ≠ .halted → s.can.nmt = .operational → s.can.reported = false → s.can.outState = .holding → s.can.hold = some 2 → s.ob 0x2022 3 = 0 → s.can.timedOut ≠ [] →
      (∀ j, j < 4 → s.pdoValid (0x1800 + j) = false) → Completes .sync s (fun t => t.can.rpdo = s.can.rpdo ∧ t.can.outState = .holding))
  ∧ (∀ (k : Fin 4) data, s.can.nmt = .operational → s.pdoValid (0x1400 + k.val) = true → data.length = ((s.mapping (0x1600 + k.val)).map (fun e => e.2.2)).sum →
      Completes (.rpdoReceive k data) s (fun t => t = { s with can := { s.can with rpdo := t.can.rpdo } } ∧ sfind t.can.rpdo k.val = some data
        ∧ (∀ j, j ≠ k.val → sfind t.can.rpdo j = sfind s.can.rpdo j)))
  ∧ (∀ (k : Fin 4) data, s.can.nmt = .operational → s.pdoValid (0x1400 + k.val) = true → data.length ≠ ((s.mapping (0x1600 + k.val)).map (fun e => e.2.2)).sum →
      s.can.inhibit = false → Completes (.rpdoReceive k data) s (fun t => t.can.rpdo = s.can.rpdo ∧ SendsEmcy s t [0x10, 0x82] [BitVec.ofNat 8 (k.val + 1), 0, 0, 0, 0]))
  ∧ (∀ k : Fin 4, s.can.nmt = .operational → s.pdoValid (0x1800 + k.val) = true → s.ob (0x1800 + k.val) 2 = 254 → s.ob (0x1800 + k.val) 5 ≠ 0 →
      Completes (.tpdoEventTimer k) s (fun t => t = { s with can := { s.can with out := t.can.out } } ∧ ∃ f, SendsFrame s t f ∧ f.id = s.ob (0x1800 + k.val) 1 % 2048))
  ∧ (s.ob 0x1006 0 ≠ 0 → s.can.syncLost = false → s.can.outState = .live → s.can.inhibit = false →
      Completes .syncLoss s (fun t => t.can.syncLost = true ∧ t.can.rpdo = [] ∧ t.can.outState = .holding ∧ t.can.hold = some 1
        ∧ SendsEmcy s t [0x01, 0xFF] (leBytes (t.ob 0x2003 2) 5) ∧ t.ob 0x2003 2 = satAdd 32 (s.ob 0x2003 2) s.can.rpdo.length))
  ∧ (∀ c, s.can.outState = .holding → s.can.hold = some c → s.can.inhibit = false → (∀ j, j < 4 → s.pdoValid (0x1400 + j) = false) →
      Completes .outputHoldExpiry s (fun t => t.can.outState = .fallenBack ∧ t.dict = s.dict ∧ SendsEmcy s t [0x02, 0xFF] [BitVec.ofNat 8 c, 0, 0, 0, 0]))

/-- R60, R79, R80, R81, R94, R95: heartbeats, emergency messages and the CAN controller. HEARTBEAT_PRODUCE, HEARTBEAT_RECEIVE, HEARTBEAT_TIMEOUT,
EMCY_INHIBIT_EXPIRY, BUS_OFF, BUS_OFF_RECOVERY, CAN_ERROR_PASSIVE, CAN_ERROR_ACTIVE, CAN_RECEIVE_OVERRUN. The counters after BUS_OFF are free values; those
after BUS_OFF_RECOVERY are the model's choice (log 60).
Readings of the model that it rests on: log 29, 60, 63. -/
def Obligations.HeartbeatsAndErrors : Prop :=
  ∀ s : State, s.dev ≠ .standby →
  (s.dev ≠ .muster → s.can.busOff = false → s.can.bootUp = true → s.ob 0x1017 0 ≠ 0 → Completes .heartbeatProduce s (fun t =>
      t = { s with can := { s.can with out := s.can.out ++ [{ id := 0x700 + s.nodeId, data := [BitVec.ofNat 8 (nmtNum s.can.nmt)] }] } }))
  ∧ (∀ node, s.dev ≠ .muster → node ∈ s.stations → Completes (.heartbeatReceive node) s (fun t => node ∈ t.can.watched ∧ node ∉ t.can.timedOut ∧ t.dict = s.dict))
  ∧ (∀ node, node ∈ s.can.watched → s.dict.owner ≠ some .can → s.can.inhibit = false → s.can.busOff = false → Completes (.heartbeatTimeout node) s (fun t =>
      node ∉ t.can.watched ∧ node ∈ t.can.timedOut ∧ SendsEmcy s t [0x30, 0x81] [BitVec.ofNat 8 node, 0, 0, 0, 0] ∧ t.dict = s.dict
        ∧ (t.can.outState = if s.can.outState = .live ∧ (s.ob 0x2022 3 = node ∨ s.ob 0x2022 3 = 0) then .holding else s.can.outState)))
  ∧ (∀ node, node ∈ s.can.watched → s.dict.owner = some .can → s.ob 0x2010 4 = node → node ≠ 0 → Completes (.heartbeatTimeout node) s (fun t => t.dict.owner = none))
  ∧ (s.can.emcyQ = [] → Completes .emcyInhibitExpiry s (fun t => t = { s with can := { s.can with inhibit := false } }))
  ∧ (∀ e rest, s.can.emcyQ = e :: rest → s.can.busOff = false → s.ob 0x1015 0 ≠ 0 → Completes .emcyInhibitExpiry s (fun t =>
      t = { s with can := { s.can with emcyQ := rest, inhibit := true, out := s.can.out ++ [s.emcyFrame e] } }))
  ∧ (s.can.busOff = false → Completes .busOff s (fun t => t.can = { s.can with busOff := true, errPassive := false } ∧ t.ob 0x2005 3 = 2
      ∧ t.ob 0x2005 1 = Config.freeNat s.free % 2 ^ 32 ∧ t.ob 0x2005 2 = Config.freeNat (s.free + 1) % 2 ^ 32 ∧ OnlyIndex s t 0x2005))
  ∧ (s.can.busOff = true → s.can.inhibit = false → s.can.emcyQ = [] → Completes .busOffRecovery s (fun t => t.can.busOff = false ∧ t.ob 0x2005 1 = 0 ∧ t.ob 0x2005 2 = 0
      ∧ t.ob 0x2005 3 = 0 ∧ Counts s t 0x2005 4 ∧ OnlyIndex s t 0x2005))
  ∧ (∀ tec rec, s.can.busOff = false → s.can.errPassive = false → s.can.inhibit = false → Completes (.canErrorPassive tec rec) s (fun t => t.can.errPassive = true
      ∧ t.ob 0x2005 1 = tec % 2 ^ 32 ∧ t.ob 0x2005 2 = rec % 2 ^ 32 ∧ t.ob 0x2005 3 = 1 ∧ SendsEmcy s t [0x20, 0x81] [BitVec.ofNat 8 tec, BitVec.ofNat 8 rec, 0, 0, 0]
      ∧ OnlyIndex s t 0x2005))
  ∧ (s.can.errPassive = true → Completes .canErrorActive s (fun t => t.can.errPassive = false ∧ t.ob 0x2005 3 = 0 ∧ t.ob 0x2005 1 = Config.freeNat s.free % 128
      ∧ OnlyIndex s t 0x2005))
  ∧ (s.can.busOff = false → s.can.inhibit = false → Completes .canReceiveOverrun s (fun t => Counts s t 0x2005 5
      ∧ SendsEmcy s t [0x10, 0x81] (leBytes (t.ob 0x2005 5) 5) ∧ OnlyIndex s t 0x2005))

/-- R82 to R86, R102: an image transfer over CAN. XOPEN, XDATA, XCLOSE, XABORT, XSTATUS, BAD_COMMAND, DATA_ACK_TIMER, TRANSFER_TIMEOUT.
Readings of the model that it rests on: log 52. -/
def Obligations.ImageTransfer : Prop :=
  ∀ s : State, s.transferServed = true → s.can.busOff = false →
  (∀ n, 0 < n → n ≤ 2097152 → s.dict.owner = some .can → s.xferState = 0 → Completes (.xopen n) s (fun t => t.img = { s.img with xfer := .openCan, staging := [] }
      ∧ t.ob 0x2080 2 = n ∧ t.ob 0x2080 3 = 0 ∧ t.ob 0x2080 5 = 0 ∧ SendsXfer s t 0x81 0 0 ∧ OnlyIndex s t 0x2080))
  ∧ (∀ n, 0 < n → n ≤ 2097152 → s.dict.owner ≠ some .can → Completes (.xopen n) s (fun t => t.img = s.img ∧ t.ob 0x2080 5 = 1 ∧ SendsXfer s t 0x81 1 0 ∧ OnlyIndex s t 0x2080))
  ∧ (∀ off n data, s.img.xfer = .openCan → off = s.ob 0x2080 3 → 0 < n → n ≤ 56 → off + n ≤ s.ob 0x2080 2 →
      Completes (.xdata off n data) s (fun t => t.ob 0x2080 3 = off + n ∧ t.img.xfer = .openCan
        ∧ (∀ j, j < n → sfind t.img.staging (off + j) = some ((padTo n data).getD j 0)) ∧ (∀ j, (j < off ∨ off + n ≤ j) → sfind t.img.staging j = sfind s.img.staging j)
        ∧ (s.can.sinceAck + 1 < 8 → t.can.out = s.can.out) ∧ (8 ≤ s.can.sinceAck + 1 → SendsXfer s t 0x82 0 (off + n) ∧ t.can.sinceAck = 0) ∧ OnlyIndex s t 0x2080))
  ∧ (∀ off n data, s.img.xfer = .openCan → off ≠ s.ob 0x2080 3 → 0 < n → n ≤ 56 → off + n ≤ s.ob 0x2080 2 →
      Completes (.xdata off n data) s (fun t => t.img = s.img ∧ t.dict = s.dict ∧ SendsXfer s t 0x82 0 (s.ob 0x2080 3)))
  ∧ (∀ crc, s.img.xfer = .openCan → s.ob 0x2080 3 = s.ob 0x2080 2 → crc = crc32c s.staged → Completes (.xclose crc) s (fun t =>
      t.img = { s.img with xfer := .closed, state := .validating, seen := s.dev } ∧ t.ob 0x2080 4 = crc ∧ t.ob 0x2080 5 = 0 ∧ t.ob 0x2602 5 = 1 ∧ SendsXfer s t 0x83 0 crc))
  ∧ (∀ crc, s.img.xfer = .openCan → s.ob 0x2080 3 = s.ob 0x2080 2 → crc ≠ crc32c s.staged → Completes (.xclose crc) s (fun t =>
      t.img = { s.img with xfer := .idle, staging := [] } ∧ t.ob 0x2080 5 = 8 ∧ SendsXfer s t 0x83 8 (crc32c s.staged)))
  ∧ (∀ reason, s.img.xfer = .openCan → Completes (.xabort reason) s (fun t => t.img = { s.img with xfer := .idle, staging := [] } ∧ t.ob 0x2080 5 = 7 ∧ t.can.out = s.can.out))
  ∧ (∀ reason, s.img.xfer ≠ .openCan → Completes (.xabort reason) s (fun t => t = s))
  ∧ Completes .xstatus s (fun t => t.img = s.img ∧ t.dict = s.dict ∧ SendsXfer s t 0x85 0 (if s.img.xfer = .openCan then s.ob 0x2080 3 else 0))
  ∧ Completes .badCommand s (fun t => t.img = s.img ∧ t.ob 0x2080 5 = 0xA ∧ SendsXfer s t 4 0xA 0)
  ∧ (s.img.xfer = .openCan → s.can.ackTimer = true → Completes .dataAckTimer s (fun t => t.img = s.img ∧ t.dict = s.dict ∧ t.can.sinceAck = 0 ∧ t.can.ackTimer = false ∧ SendsXfer s t 0x82 0 (s.ob 0x2080 3)))
  ∧ (s.can.ackTimer = false → Completes .dataAckTimer s (fun t => t = s))
  ∧ (s.img.xfer = .openCan → Completes .transferTimeout s (fun t => t.img = { s.img with xfer := .idle, staging := [] } ∧ t.ob 0x2080 5 = 5 ∧ SendsXfer s t 4 5 0))

/-- R87, R104, R508, R516: an image through a host bridge, and the check of a staged image. XFER_CONTROL_OPEN, XFER_CONTROL_CLOSE, XFER_CONTROL_ABORT,
IMAGE_STAGE_WRITE.
Readings of the model that it rests on: log 52. -/
def Obligations.HostImageTransfer : Prop :=
  ∀ (s : State) (p : Path),
  (Accepted s p 0x2080 6 1 → Completes (.xferControlOpen p) s (fun t => t.img = { s.img with xfer := .openHost, staging := [] } ∧ t.ob 0x2080 2 = s.ob 0x2080 7
      ∧ t.ob 0x2080 3 = 0 ∧ t.ob 0x2080 5 = 0 ∧ OnlyIndex s t 0x2080))
  ∧ (∀ off data, data ≠ [] → s.writeRefused { who := .path p, index := 0x2081, sub := 0, data := data, off := off } = none →
      Completes (.imageStageWrite p off data) s (fun t => (∀ j, j < data.length → sfind t.img.staging (off + j) = some (data.getD j 0))
        ∧ (∀ j, (j < off ∨ off + data.length ≤ j) → sfind t.img.staging j = sfind s.img.staging j) ∧ t.ob 0x2080 3 = t.img.staging.length ∧ OnlyIndex s t 0x2080))
  ∧ (Accepted s p 0x2080 6 2 → s.img.staging.length = s.ob 0x2080 2 → Completes (.xferControlClose p) s (fun t =>
      t.img = { s.img with xfer := .closed, state := .validating, seen := s.dev } ∧ t.ob 0x2080 4 = crc32c s.staged ∧ t.ob 0x2080 5 = 0 ∧ t.ob 0x2602 5 = 2))
  ∧ (Accepted s p 0x2080 6 2 → s.img.staging.length ≠ s.ob 0x2080 2 → Completes (.xferControlClose p) s (fun t =>
      t.img = { s.img with xfer := .idle, staging := [] } ∧ t.ob 0x2080 5 = 6))
  ∧ (Accepted s p 0x2080 6 3 → s.img.xfer = .openHost → Completes (.xferControlAbort p) s (fun t =>
      t.img = { s.img with xfer := .idle, staging := [] } ∧ t.ob 0x2080 5 = 7))

/-- R150, R152 to R170, R232, R236: flits on a link and on the local port. FLIT_RECEIVE, LINK_OUTPUT_CYCLE, REPLAY_TIMER_EXPIRY.
Readings of the model that it rests on: log 24, 25, 93. -/
def Obligations.LinkFlits : Prop :=
  ∀ s : State,
  (∀ (r : RouterId) (p : Port) f rest, hasPort r.val (portNum p) = true → (s.dir r.val (portNum p)).wire = f :: rest → f.inj = 0 → f.rrq = false → isPacketFlit f = true →
      f.seq = (s.dir r.val (portNum p)).expected → s.linkState r.val (portNum p) ≠ .down → s.route (neighbour r.val (portNum p)) (opposite (portNum p)) f.lane = none →
      (s.dir (neighbour r.val (portNum p)) (opposite (portNum p))).fifth = none →
      Completes (.flitReceive (.link r p) (.bits 0 0 0 0)) s (fun t => (t.dir r.val (portNum p)).wire = rest ∧ (t.dir r.val (portNum p)).expected = (f.seq + 1) % 256
        ∧ ∃ g, t.buf (neighbour r.val (portNum p)) (opposite (portNum p)) f.lane = s.buf (neighbour r.val (portNum p)) (opposite (portNum p)) f.lane ++ [g]
            ∧ g.ft = f.ft ∧ g.hdr = f.hdr ∧ g.data = f.data ∧ g.arr = s.clk.fab))
  ∧ (∀ (r : RouterId) (p : Port) f rest, hasPort r.val (portNum p) = true → (s.dir r.val (portNum p)).wire = f :: rest → f.inj = 0 →
      (s.dir (neighbour r.val (portNum p)) (opposite (portNum p))).fifth = none →
      Completes (.flitReceive (.link r p) (.bits 2 0 0 0)) s (fun t => (t.dir r.val (portNum p)).wire = rest ∧ (t.dir r.val (portNum p)).rrq = true
        ∧ (t.dir r.val (portNum p)).expected = (s.dir r.val (portNum p)).expected ∧ t.fabric.bufs = s.fabric.bufs
        ∧ Counts s t (0x3000 + neighbour r.val (portNum p)) (16 * opposite (portNum p) + 3)))
  ∧ (∀ (r : RouterId) f rest, sget [] s.fabric.toNi r.val = f :: rest → f.inj = 0 → f.ft = .single → sget [] (s.ni r.val).asm f.lane = [] → s.answers (niDom r.val) = true →
      Completes (.flitReceive (.toNi r) (.bits 0 0 0 0)) s (fun t => sget [] t.fabric.toNi r.val = rest ∧ (t.ni r.val).rx = (s.ni r.val).rx ++ [packetOf f.lane [f]]
        ∧ (∀ m, m ≠ r.val → t.ni m = s.ni m)))
  ∧ (∀ (r : RouterId) f rest, sget [] s.fabric.fromNi r.val = f :: rest → f.inj = 0 → s.route r.val 4 f.lane = none →
      Completes (.flitReceive (.fromNi r) (.bits 0 0 0 0)) s (fun t => sget [] t.fabric.fromNi r.val = rest
        ∧ t.buf r.val 4 f.lane = s.buf r.val 4 f.lane ++ [{ f with arr := s.clk.fab, inj := 0 }]))
  ∧ (∀ (r : RouterId) (o : Fin 5) prec l i idx f x, o.val < 4 → s.linkState r.val o.val = .up → (s.dir r.val o.val).fifth = none → (s.dir r.val o.val).replayPos = none → (s.dir r.val o.val).replay.length < 32 →
      s.chooseLink r.val o.val = some (prec, l, i) → s.offer r.val o.val i l = some (idx, f, x) →
      Completes (.linkOutputCycle r o) s (fun t => (t.dir r.val o.val).nextSeq = ((s.dir r.val o.val).nextSeq + 1) % 256
        ∧ (t.dir r.val o.val).replay.length = (s.dir r.val o.val).replay.length + 1
        ∧ ∃ g, (t.dir r.val o.val).wire = (s.dir r.val o.val).wire ++ [g] ∧ g.ft = f.ft ∧ g.hdr = f.hdr ∧ g.data = f.data ∧ g.lane = f.lane
            ∧ g.seq = (s.dir r.val o.val).nextSeq))
  ∧ (∀ (r : RouterId) (o : Fin 5), o.val < 4 → s.linkState r.val o.val ≠ .up → (s.dir r.val o.val).fifth = none → Completes (.linkOutputCycle r o) s (fun t => t = s))
  ∧ (∀ (r : RouterId) (o : Fin 5) prec l i idx f x, o.val = 4 → s.chooseLocal r.val = some (prec, l, i) → s.offer r.val 4 i l = some (idx, f, x) →
      Completes (.linkOutputCycle r o) s (fun t => sget [] t.fabric.toNi r.val = sget [] s.fabric.toNi r.val ++ [f]))
  ∧ (∀ (r : RouterId) (p : Port), s.linkState r.val (portNum p) = .up → (s.dir r.val (portNum p)).replay ≠ [] → (s.dir r.val (portNum p)).replayedAt s.clk.fab = false →
      (s.dir r.val (portNum p)).fifth = none → (s.dir r.val (portNum p)).oldest < 4 →
      Completes (.replayTimerExpiry r p) s (fun t => (t.dir r.val (portNum p)).replayPos = some 0 ∧ (t.dir r.val (portNum p)).oldest = (s.dir r.val (portNum p)).oldest + 1
        ∧ (t.dir r.val (portNum p)).replay = (s.dir r.val (portNum p)).replay ∧ Counts s t (0x3000 + r.val) (16 * portNum p + 6)))
  ∧ (∀ (r : RouterId) (p : Port), s.linkState r.val (portNum p) = .up → (s.dir r.val (portNum p)).replay ≠ [] → (s.dir r.val (portNum p)).replayedAt s.clk.fab = false →
      (s.dir r.val (portNum p)).fifth = none → 4 ≤ (s.dir r.val (portNum p)).oldest →
      Completes (.replayTimerExpiry r p) s (fun t => (t.dir r.val (portNum p)).fifth = some s.clk.fab ∧ t.linkState r.val (portNum p) = .up
        ∧ (t.dir r.val (portNum p)).replay = (s.dir r.val (portNum p)).replay))
  ∧ (∀ (r : RouterId) (p : Port) t0, s.linkState r.val (portNum p) = .up → (s.dir r.val (portNum p)).fifth = some t0 → t0 < s.clk.fab →
      (s.bond r.val (portNum p)).forced = [] → Completes (.replayTimerExpiry r p) s (fun t => t.linkState r.val (portNum p) = .retrain
        ∧ (t.bond r.val (portNum p)).urgent = true ∧ (t.bond r.val (portNum p)).forced = [s.clk.fab]))

/-- R173, R174, R175, R179, R181, R183: retrains and link states. MAINT_WINDOW_START, RETRAIN_COMPLETE, RETRAIN_TIMEOUT.
Readings of the model that it rests on: log 33, 112. -/
def Obligations.LinkRecovery : Prop :=
  ∀ (s : State) (r : RouterId) (p : Port),
  (s.linkState r.val (portNum p) = .up → (s.bond r.val (portNum p)).planned = true → s.maintBegins r.val (portNum p) = true →
      Completes (.maintWindowStart r p) s (fun t => t.linkState r.val (portNum p) = .retrain ∧ (t.bond r.val (portNum p)).planned = false
        ∧ (t.bond r.val (portNum p)).urgent = false ∧ (∀ a b, t.dir a b = { s.dir a b with fifth := (t.dir a b).fifth }) ∧ t.fabric.bufs = s.fabric.bufs))
  ∧ (((s.bond r.val (portNum p)).planned = false ∨ s.maintBegins r.val (portNum p) = false) → Completes (.maintWindowStart r p) s (fun t => t = s))
  ∧ (∀ v : VerifiedPort, v.port = p → verifyPasses v.there = true → verifyPasses v.back = true → s.linkState r.val (portNum p) = .init →
      Completes (.retrainComplete r v) s (fun t => t.linkState r.val (portNum p) = .up
        ∧ (t.dir r.val (portNum p)).nextSeq = 0 ∧ (t.dir r.val (portNum p)).expected = 0 ∧ (t.dir r.val (portNum p)).replay = [] ∧ t.fabric.bufs = s.fabric.bufs))
  ∧ (∀ v : VerifiedPort, v.port = p → verifyPasses v.there = true → verifyPasses v.back = true → s.linkState r.val (portNum p) = .retrain →
      Completes (.retrainComplete r v) s (fun t => t.linkState r.val (portNum p) = .up
        ∧ (t.bond r.val (portNum p)).urgent = false ∧ (t.dir r.val (portNum p)).nextSeq = (s.dir r.val (portNum p)).nextSeq
        ∧ (t.dir r.val (portNum p)).expected = (s.dir r.val (portNum p)).expected ∧ Counts s t (0x3000 + r.val) (16 * portNum p + 7) ∧ t.fabric.bufs = s.fabric.bufs))
  ∧ (∀ v : VerifiedPort, v.port = p → (verifyPasses v.there = false ∨ verifyPasses v.back = false) →
      (s.linkState r.val (portNum p) = .init ∨ s.linkState r.val (portNum p) = .retrain) →
      Completes (.retrainComplete r v) s (fun t => t.linkState r.val (portNum p) = .down ∧ (t.bond r.val (portNum p)).planned = false))
  ∧ ((s.linkState r.val (portNum p) = .init ∨ s.linkState r.val (portNum p) = .retrain) →
      Completes (.retrainTimeout r p) s (fun t => t.linkState r.val (portNum p) = .down ∧ (t.bond r.val (portNum p)).planned = false))

/-- R194 to R207, R213, R217, R219, R227: the routing of a packet's head. PACKET_HEAD_ROUTE, MCAST_BRANCH_FORWARD, QDEPTH_UPDATE, EXCLUDE_RECOMPUTE.
Readings of the model that it rests on: log 24. -/
def Obligations.HeadRouting : Prop :=
  ∀ (s : State) (r : RouterId),
  (∀ (i : Fin 5) (l : Lane) f rest h, s.buf r.val i.val l.val = f :: rest → isHeadFlit f = true → f.hdr = some h → s.route r.val i.val l.val = none →
      (l.val ≠ 7 → (s.governing r.val i.val h.pkey).isSome = true) → s.fabric.act.confined = false →
      ((l.val = 2 ∨ l.val = 3) → (xyOut r.val (faTarget h.fa) = 4 ∨ s.linkState r.val (xyOut r.val (faTarget h.fa)) ≠ .down) →
        Completes (.packetHeadRoute r i l) s (fun t => t = s.setRoute r.val i.val l.val (some { hdr := h, outs := [xyOut r.val (faTarget h.fa)] })))
      ∧ (l.val = 7 → (l7Out r.val (faTarget h.fa) = 4 ∨ s.linkState r.val (l7Out r.val (faTarget h.fa)) ≠ .down) →
        Completes (.packetHeadRoute r i l) s (fun t => t = s.setRoute r.val i.val l.val (some { hdr := h, outs := [l7Out r.val (faTarget h.fa)] })))
      ∧ (∀ o, (l.val = 4 ∨ l.val = 5) → s.adaptive r.val l.val (s.permitted r.val (faTarget h.fa) (decide (xOf r.val = xOf h.src)) none) = some o →
        Completes (.packetHeadRoute r i l) s (fun t => t = s.setRoute r.val i.val l.val (some { hdr := h, outs := [o] })))
      ∧ (l.val = 6 → maskTree r.val h.src (field h.mask 47 0) (opposite i.val) ≠ [] →
        Completes (.packetHeadRoute r i l) s (fun t => t = s.setRoute r.val i.val l.val
          (some { hdr := h, outs := maskTree r.val h.src (field h.mask 47 0) (opposite i.val), multi := true }))))
  ∧ (∀ (i : Fin 5) (l : Lane) f rest h, s.buf r.val i.val l.val = f :: rest → f.ft = .single → f.hdr = some h → s.route r.val i.val l.val = none → l.val ≠ 7 →
      s.governing r.val i.val h.pkey = none → Completes (.packetHeadRoute r i l) s (fun t => t.buf r.val i.val l.val = rest ∧ t.route r.val i.val l.val = none
        ∧ Counts s t (0x3100 + r.val) (0x70 + i.val)))
  ∧ (∀ (i o : Fin 5) x, s.route r.val i.val 6 = some x → x.drop = false → o.val ∈ x.outs → o.val ∉ x.granted → (o.val = 4 ∨ s.linkState r.val o.val = .up) →
      s.branchReserved r.val o.val + (x.hdr.dflits + 1) ≤ s.credits r.val o.val 6 → Completes (.mcastBranchForward r i o) s (fun t =>
        t = s.setRoute r.val i.val 6 (some { x with granted := x.granted ++ [o.val] })))
  ∧ (∀ (i o : Fin 5) x, s.route r.val i.val 6 = some x → x.drop = false → o.val ∈ x.outs → o.val ∉ x.granted → o.val < 4 → s.linkState r.val o.val ≠ .up →
      without x.outs o.val ≠ [] → Completes (.mcastBranchForward r i o) s (fun t => Counts s t (0x3100 + r.val) 0xA8
        ∧ t.route r.val i.val 6 = some { x with outs := without x.outs o.val }))
  ∧ Completes (.qdepthUpdate r) s (fun t => OnlyIndex s t (0x3100 + r.val)
      ∧ t = { s with dict := { s.dict with objs := t.dict.objs }, fabric := { s.fabric with late := t.fabric.late } }
      ∧ (∀ o k, o < 4 → hasPort r.val o = true → k < 2 → t.ob (0x3100 + r.val) (0x90 + 2 * o + k)
          = ((s.ob (0x3100 + r.val) (0x90 + 2 * o + k) : Int) + (16 * (16 - (s.credits r.val o (4 + k) : Int)) - s.ob (0x3100 + r.val) (0x90 + 2 * o + k)) / 2 ^ s.ob (0x3100 + r.val) 0x98).toNat))
  ∧ (∀ o, hasPort r.val o = true → Completes .excludeRecompute s (fun t => t = { s with dict := { s.dict with objs := t.dict.objs } }
      ∧ t.ob (0x3100 + r.val) (0xA0 + o) = maskOf ((List.range 48).filter (fun d =>
          ! s.reaches (fun a b => decide (s.linkState a b = .up)) 13 (neighbour r.val o) d (decide (o = 0 ∨ o = 2))))))

/-- R269 to R276, R319 to R326, R560: an access enters its NI, or is refused. ACCESS_ACCEPT.
Readings of the model that it rests on: log 49. -/
def Obligations.AccessAccept : Prop :=
  ∀ (s : State) (n : RouterId) (a : Access) (rest : List Access), (s.ni n.val).inbox = a :: rest → (s.ni n.val).cur = none → (s.ni n.val).barrier = none →
  (∀ fa key tg, a.kind = .read → a.np = false → a.mcast = none → a.direct = some (fa, key) → (s.ni n.val).newTag = some tg →
      s.domain (niDom n.val) ≠ .fencing → s.domain (niDom n.val) ≠ .draining → faSpace fa < 2 → validNi (faTarget fa) = true → spaceAccepted (faTarget fa) (faSpace fa) = true →
      0 < a.len → a.len ≤ 512 → fa % 4096 + a.len ≤ 4096 → 4 * faTarget fa + 2 ∉ (s.ni n.val).unreach →
      (s.ni n.val).held = [] → (s.ni n.val).wb = [] → (s.ni n.val).shape = [] → (s.ni n.val).gate = [] →
      Completes (.accessAccept n) s (fun t => (t.ni n.val).inbox = rest ∧ (sfind (t.ni n.val).tags tg).isSome = true ∧ (∀ m, m ≠ n.val → t.ni m = s.ni m)
        ∧ ∃ j, (t.ni n.val).sendQ = (s.ni n.val).sendQ ++ [j] ∧ j.pkt.lane = 2 ∧ j.pkt.hdr.opcode = 1 ∧ j.pkt.hdr.fa = fa ∧ j.pkt.hdr.len = a.len ∧ j.pkt.hdr.tag = tg
            ∧ j.pkt.hdr.src = n.val ∧ j.pkt.hdr.pkey = key ∧ j.pkt.hdr.dflits = 0))
  ∧ (a.kind = .write → a.np = false → a.origin = .none → (s.domain (niDom n.val) = .fencing ∨ s.domain (niDom n.val) = .draining) →
      Completes (.accessAccept n) s (fun t => (t.ni n.val).inbox = rest ∧ Counts s t (0x2210 + niDom n.val) 6 ∧ (t.ni n.val).sendQ = (s.ni n.val).sendQ
        ∧ OnlyIndex s t (0x2210 + niDom n.val)))
  ∧ (a.kind = .write → a.np = false → a.origin = .none → a.direct = none → s.fabricRuns = false → s.domain (niDom n.val) ≠ .fencing → s.domain (niDom n.val) ≠ .draining →
      Completes (.accessAccept n) s (fun t => (t.ni n.val).inbox = rest ∧ Counts s t (0x4000 + n.val) 0x84 ∧ OnlyIndex s t (0x4000 + n.val)))

/-- R341 to R349: shapers, gates and the calendar. SHAPER_RELEASE, SHAPER_TOKEN_TICK, CALENDAR_SLOT, GATE_RELEASE, GATE_ENTRY_CHANGE, GATE_LIST_START.
Readings of the model that it rests on: log 88. -/
def Obligations.ShapersAndGates : Prop :=
  ∀ (s : State) (n : RouterId),
  (∀ (sh : Fin 256) j, (s.ni n.val).shape = [j] → (s.ni n.val).gate = [] → j.shaper = some sh.val → bitAt (s.shaperEntry n.val sh.val) 63 = true →
      sfind (s.ni n.val).wheel sh.val = none → (s.ni n.val).gates.enable = false → charge j ≤ sget 0 (s.ni n.val).tokens sh.val →
      Completes (.shaperRelease n sh) s (fun t => (t.ni n.val).shape = [] ∧ (t.ni n.val).sendQ = (s.ni n.val).sendQ ++ [j]
        ∧ sget 0 (t.ni n.val).tokens sh.val = sget 0 (s.ni n.val).tokens sh.val - charge j ∧ (∀ m, m ≠ n.val → t.ni m = s.ni m)))
  ∧ (∀ (sh : Fin 256) j, (s.ni n.val).shape = [j] → (s.ni n.val).gate = [] → j.shaper = some sh.val → bitAt (s.shaperEntry n.val sh.val) 63 = true →
      sfind (s.ni n.val).wheel sh.val = none → sget 0 (s.ni n.val).tokens sh.val < charge j →
      Completes (.shaperRelease n sh) s (fun t => (t.ni n.val).shape = [{ j with waited := true }] ∧ (t.ni n.val).sendQ = (s.ni n.val).sendQ ∧ (sfind (t.ni n.val).wheel sh.val).isSome = true
        ∧ (∀ m, m ≠ n.val → t.ni m = s.ni m)))
  ∧ Completes (.shaperTokenTick n) s (fun t => (∀ sh, sh < 256 → sget 0 (t.ni n.val).tokens sh =
        if bitAt (s.shaperEntry n.val sh) 63 = true then min (sget 0 (s.ni n.val).tokens sh + field (s.shaperEntry n.val sh) 57 40) (1024 * field (s.shaperEntry n.val sh) 20 0)
        else sget 0 (s.ni n.val).tokens sh)
      ∧ t.ni n.val = { s.ni n.val with tokens := (t.ni n.val).tokens } ∧ (∀ m, m ≠ n.val → t.ni m = s.ni m) ∧ t.dict = s.dict)
  ∧ ((s.ni n.val).shape = [] → Completes (.calendarSlot n) s (fun t =>
      t.ni n.val = { s.ni n.val with wheel := (s.ni n.val).wheel.filter (fun w => decide (w.2 ≠ s.nsCycle / 32 % 1024)) } ∧ (∀ m, m ≠ n.val → t.ni m = s.ni m)))
  ∧ (∀ j, s.gateOut n.val = some j → Completes (.gateRelease n) s (fun t =>
      t.ni n.val = { s.ni n.val with gate := (s.ni n.val).gate.erase j, sendQ := (s.ni n.val).sendQ ++ [j] } ∧ (∀ m, m ≠ n.val → t.ni m = s.ni m)))
  ∧ (s.gateOut n.val = none → Completes (.gateRelease n) s (fun t => t = s))
  ∧ ((s.ni n.val).gate.length ≤ 4096 → Completes (.gateEntryChange n) s (fun t => t.gateOut n.val = none
      ∧ (t.ni n.val).gate.length + (t.ni n.val).sendQ.length = (s.ni n.val).gate.length + (s.ni n.val).sendQ.length ∧ (∀ m, m ≠ n.val → t.ni m = s.ni m)))
  ∧ (∀ g at_, (s.ni n.val).pendGates = some (g, at_) → at_ ≤ s.netCount → Completes (.gateListStart n) s (fun t =>
      t.ni n.val = { s.ni n.val with gates := g, pendGates := none } ∧ t.ob (0x4300 + n.val) 8 = 1 ∧ t.ob (0x4300 + n.val) 9 = s.stamp
        ∧ (∀ m, m ≠ n.val → t.ni m = s.ni m) ∧ OnlyIndex s t (0x4300 + n.val)))

/-- R30, R162, R303 to R305: a packet leaves its NI. PACKET_SEND.
Readings of the model that it rests on: log 88. -/
def Obligations.PacketSend : Prop :=
  ∀ (s : State) (n : RouterId),
  (∀ j, s.firstSend n.val [] (s.ni n.val).sendQ = some j → j.paired = true → j.pkt.hdr.retx = false →
      Completes (.packetSend n) s (fun t => (t.ni n.val).sendQ = (s.ni n.val).sendQ.erase j ∧ ((t.ni n.val).pair j.target j.cls).next = (((s.ni n.val).pair j.target j.cls).next + 1) % 65536
        ∧ ((t.ni n.val).pair j.target j.cls).unacked.length = ((s.ni n.val).pair j.target j.cls).unacked.length + 1 ∧ (∀ m, m ≠ n.val → t.ni m = s.ni m)
        ∧ ∃ p, sget [] t.fabric.fromNi n.val = sget [] s.fabric.fromNi n.val ++ s.flitsNow p ∧ p.lane = j.pkt.lane ∧ p.hdr.pseq = ((s.ni n.val).pair j.target j.cls).next
            ∧ p.hdr.fa = j.pkt.hdr.fa ∧ p.payload = j.pkt.payload))
  ∧ (∀ j, s.firstSend n.val [] (s.ni n.val).sendQ = some j → opKind j.pkt.hdr.opcode = .response →
      Completes (.packetSend n) s (fun t => t.ni n.val = { s.ni n.val with sendQ := (s.ni n.val).sendQ.erase j } ∧ (∀ m, m ≠ n.val → t.ni m = s.ni m)
        ∧ ∃ p, sget [] t.fabric.fromNi n.val = sget [] s.fabric.fromNi n.val ++ s.flitsNow p ∧ p.lane = j.pkt.lane ∧ p.hdr.fa = j.pkt.hdr.fa ∧ p.hdr.status = j.pkt.hdr.status))
  ∧ (s.firstSend n.val [] (s.ni n.val).sendQ = none → s.circuitSend n.val = none → Completes (.packetSend n) s (fun t => t = s))

/-- R287 to R293, R331: the posted-write buffer, barriers and the window cache. WB_IDLE_EXPIRY, WB_ENTRY_DEPART, BAR_W, BAR_FULL, BARRIER_SATISFIED,
WINDOW_CACHE_EXPIRY.
Readings of the model that it rests on: log 26, 48. -/
def Obligations.WriteBuffer : Prop :=
  ∀ (s : State) (n : RouterId),
  (∀ i : Fin 32, Completes (.wbIdleExpiry n i) s (fun t => (t.ni n.val).wb.length = (s.ni n.val).wb.length
      ∧ (∀ j w, (s.ni n.val).wb[j]? = some w → (t.ni n.val).wb[j]? = some (if j = i.val then { w with closed := true } else w)) ∧ (∀ m, m ≠ n.val → t.ni m = s.ni m)
      ∧ t.ni n.val = { s.ni n.val with wb := (t.ni n.val).wb }))
  ∧ (∀ w, (s.ni n.val).wb = [w] → w.closed = true → w.cls = 2 → w.shaper = none → w.bytes.length = 64 → w.bytes.all Option.isSome = true → (s.ni n.val).gates.enable = false →
      (s.ni n.val).shape = [] → (s.ni n.val).gate = [] → (s.ni n.val).held = [] →
      Completes (.wbEntryDepart n) s (fun t => (t.ni n.val).wb = [] ∧ (∀ m, m ≠ n.val → t.ni m = s.ni m)
        ∧ ∃ j, (t.ni n.val).sendQ = (s.ni n.val).sendQ ++ [j] ∧ j.pkt.lane = 2 ∧ j.pkt.hdr.opcode = 2 ∧ j.pkt.hdr.fa = w.fa ∧ j.pkt.hdr.pkey = w.pkey
            ∧ j.pkt.payload = w.bytes.map (·.getD 0) ∧ j.origins = w.origins.map (·.2)))
  ∧ (∀ full a rest, (s.ni n.val).barrier = none → (s.ni n.val).inbox = a :: rest → a.kind = (if full = true then .barFull else .barW) →
      Completes (if full = true then .barFull n else .barW n) s (fun t => (t.ni n.val).barrier = some (full, a.origin) ∧ (t.ni n.val).inbox = rest
        ∧ (∀ w ∈ (t.ni n.val).wb, w.closed = true) ∧ (t.ni n.val).wb.length = (s.ni n.val).wb.length ∧ (∀ m, m ≠ n.val → t.ni m = s.ni m)))
  ∧ (∀ full, (s.ni n.val).barrier = some (full, .none) → (s.ni n.val).quiet full = true → Completes (.barrierSatisfied n) s (fun t =>
      t = s.setNi n.val { s.ni n.val with barrier := none }))
  ∧ (∀ full o, (s.ni n.val).barrier = some (full, o) → (s.ni n.val).quiet full = false → Completes (.barrierSatisfied n) s (fun t => t = s))
  ∧ (∀ w : Fin 32, Completes (.windowCacheExpiry n w) s (fun t => (∀ c, c ∈ (t.ni n.val).cache ↔ c ∈ (s.ni n.val).cache ∧ c.win ≠ w.val)
      ∧ t.ni n.val = { s.ni n.val with cache := (t.ni n.val).cache } ∧ (∀ m, m ≠ n.val → t.ni m = s.ni m)))

/-- R246, R247, R251 to R255: the compiled classes at their sources. SC0_INJECT, CIRCUIT_WINDOW_OPEN, CIRCUIT_WINDOW_CLOSE.
Readings of the model that it rests on: log 9, 87, 100. -/
def Obligations.CompiledSources : Prop :=
  ∀ s : State,
  (∀ (n : RouterId) (flow : Fin 1024) j, (s.ni n.val).sc0 = [j] → j.pkt.hdr.flow = flow.val → j.cls = 0 → j.pkt.lane = 0 → s.sc0Runs = true → s.laneRuns 0 = true →
      s.cox.inStep = false → flow.val ∉ (s.ni n.val).sc0Done → s.pathInMaint true (sget 0 s.fabric.act.flows flow.val) = false →
      flitCount j.pkt ≤ flowFlits (sget 0 s.fabric.act.flows flow.val) → flitCount j.pkt ≤ s.portRoom n.val 0 →
      Completes (.sc0Inject n flow) s (fun t => (t.ni n.val).sc0Done = (s.ni n.val).sc0Done ++ [flow.val]
        ∧ sget [] t.fabric.fromNi n.val = sget [] s.fabric.fromNi n.val ++ s.flitsNow j.pkt
        ∧ ((∀ o ∈ j.origins, o = .none) → (t.ni n.val).sc0 = [] ∧ (∀ m, m ≠ n.val → t.ni m = s.ni m) ∧ t.dict = s.dict)))
  ∧ (∀ (n : RouterId) (flow : Fin 1024), flow.val ∈ (s.ni n.val).sc0Done → Completes (.sc0Inject n flow) s (fun t => t = s))
  ∧ (∀ c : Fin 64, s.cox.running = true → circDefined (sget 0 s.fabric.act.circuits c.val) = true → s.cox.inStep = false →
      s.pathInMaint false (sget 0 s.fabric.act.circuits c.val) = false →
      Completes (.circuitWindowOpen c) s (fun t => c.val ∈ (t.ni (circSrc (sget 0 s.fabric.act.circuits c.val))).openWin
        ∧ (∀ m, m ≠ circSrc (sget 0 s.fabric.act.circuits c.val) → t.ni m = s.ni m) ∧ t.dict = s.dict))
  ∧ (∀ c : Fin 64, c.val ∈ (s.ni (circSrc (sget 0 s.fabric.act.circuits c.val))).openWin → c.val ∉ (s.ni (circSrc (sget 0 s.fabric.act.circuits c.val))).burst →
      sget 0 (s.ni (circSrc (sget 0 s.fabric.act.circuits c.val))).ending c.val ≤ s.clk.fab → Completes (.circuitWindowClose c) s (fun t => c.val ∉ (t.ni (circSrc (sget 0 s.fabric.act.circuits c.val))).openWin ∧ t.dict = s.dict
        ∧ (∀ m, m ≠ circSrc (sget 0 s.fabric.act.circuits c.val) → t.ni m = s.ni m)))
  ∧ (∀ c : Fin 64, c.val ∈ (s.ni (circSrc (sget 0 s.fabric.act.circuits c.val))).openWin →
      (c.val ∈ (s.ni (circSrc (sget 0 s.fabric.act.circuits c.val))).burst ∨ s.clk.fab < sget 0 (s.ni (circSrc (sget 0 s.fabric.act.circuits c.val))).ending c.val) →
      Completes (.circuitWindowClose c) s (fun t => c.val ∉ (t.ni (circSrc (sget 0 s.fabric.act.circuits c.val))).openWin
        ∧ c.val ∉ (t.ni (circSrc (sget 0 s.fabric.act.circuits c.val))).burst ∧ Counts s t 0x3491 (c.val + 1) ∧ bitAt (t.ob 0x3492 1) c.val = true))

/-- R275, R294, R299, R301 to R307, R319, R336, R338: requests at their target. READ, WRITE, WRITE_NP, LDRES, STCOND, ATOMIC (arriving at a cluster's NI).
What a target does with an opcode that its lane does not allow (R275, R313): BAD_OPCODE.
Readings of the model that it rests on: log 23, 50, 51. -/
def Obligations.RequestsAtCluster : Prop :=
  (∀ (s : State) (n : RouterId) (k : Nat) (p : Packet) (rest : List Packet), endpointOf n.val = .bm k →
  (∀ oc ∈ [(0x01, Instr.read n), (0x02, Instr.write n), (0x03, Instr.writeNp n), (0x04, Instr.ldres (.arrive n)), (0x05, Instr.stcond (.arrive n)), (0x06, Instr.atomic (.arrive n))],
      Welcome s n.val p rest → p.hdr.opcode = oc.1 → Completes oc.2 s (fun t => (t.clu k).port = (s.clu k).port ++ [p] ∧ (t.ni n.val).rx = rest ∧ OnlyNi s t n.val
        ∧ (∀ j, j ≠ k → t.clu j = s.clu j) ∧ (t.clu k).mem = (s.clu k).mem))
  ∧ (∀ oc ∈ [(0x01, Instr.read n), (0x02, Instr.write n), (0x03, Instr.writeNp n), (0x04, Instr.ldres (.arrive n)), (0x05, Instr.stcond (.arrive n)), (0x06, Instr.atomic (.arrive n))],
      (s.ni n.val).rx = p :: rest → p.hdr.opcode = oc.1 → (opLanes oc.1).contains p.lane = true → pairLane p = true → p.hdr.crc ≠ packetCrc p →
      Completes oc.2 s (fun t => (t.ni n.val).rx = rest ∧ Counts s t (0x3800 + n.val) 0x10 ∧ t.clusters = s.clusters ∧ (t.ni n.val).wins = (s.ni n.val).wins))
  ∧ (∀ w, (s.ni n.val).rx = p :: rest → p.hdr.opcode = 0x02 → p.lane = 2 → p.hdr.crc = packetCrc p → p.hdr.poison = false → malformed p = false → p.hdr.wsync = false →
      sfind (s.ni n.val).wins (2 * p.hdr.src) = some w → 32768 ≤ (p.hdr.pseq + 65536 - w.exp) % 65536 →
      Completes (.write n) s (fun t => (t.ni n.val).rx = rest ∧ Counts s t (0x3800 + n.val) 0x11 ∧ t.clusters = s.clusters))
  ∧ (∀ w, (s.ni n.val).rx = p :: rest → p.hdr.opcode = 0x02 → p.lane = 2 → p.hdr.crc = packetCrc p → p.hdr.poison = false → malformed p = false → p.hdr.wsync = false →
      sfind (s.ni n.val).wins (2 * p.hdr.src) = some w → 1 ≤ (p.hdr.pseq + 65536 - w.exp) % 65536 → (p.hdr.pseq + 65536 - w.exp) % 65536 < 64 →
      Completes (.write n) s (fun t => (t.ni n.val).rx = rest ∧ Counts s t (0x3800 + n.val) 0x12 ∧ t.clusters = s.clusters ∧ (t.ni n.val).sendQ = (s.ni n.val).sendQ)))
  ∧ (∀ (s : State) (n : RouterId) (p : Packet) (rest : List Packet), (s.ni n.val).rx = p :: rest → (opLanes p.hdr.opcode).contains p.lane = false →
  (opKind p.hdr.opcode ≠ .nonPosted → (pairClass p = true → p.hdr.crc = packetCrc p) → p.hdr.poison = false → malformed p = false →
      Completes (.badOpcode n) s (fun t => (t.ni n.val).rx = rest ∧ Counts s t (0x3800 + n.val) 0x1A ∧ OnlyNi s t n.val ∧ t.clusters = s.clusters))
  ∧ (pairClass p = true → p.hdr.crc ≠ packetCrc p →
      Completes (.badOpcode n) s (fun t => (t.ni n.val).rx = rest ∧ Counts s t (0x3800 + n.val) 0x10 ∧ OnlyNi s t n.val ∧ t.clusters = s.clusters))
  ∧ (opKind p.hdr.opcode = .nonPosted → pairLane p = false → p.lane ≠ 0 → (pairClass p = true → p.hdr.crc = packetCrc p) → p.hdr.poison = false → malformed p = false →
      Completes (.badOpcode n) s (fun t => (t.ni n.val).rx = rest ∧ OnlyNi s t n.val ∧ t.clusters = s.clusters
        ∧ ∃ j, (t.ni n.val).sendQ = (s.ni n.val).sendQ ++ [j] ∧ j.pkt.hdr.status = 2 ∧ j.pkt.hdr.opcode = answerOp p.hdr.opcode ∧ j.pkt.hdr.tag = p.hdr.tag)))

/-- R276, R301, R302, R303, R305, R313, R337, R447, R457: answers at the initiator, for every request they may belong to and whatever its
issuers do with them. READ_RESP, STATUS_RESP, ACK, RESYNC_REQ, MGMT_RESP. -/
def Obligations.AnswersAtInitiator : Prop :=
  ∀ (s : State) (n : RouterId) (p : Packet) (rest : List Packet),
  (∀ oc ∈ [(0x81, Instr.readResp n), (0x82, Instr.statusResp n)], ∀ j, Answered s n.val oc.1 p rest → sfind (s.ni n.val).tags p.hdr.tag = some j → j.pkt.hdr.gen = p.hdr.gen →
      Completes oc.2 s (fun t => (t.ni n.val).rx = rest ∧ sfind (t.ni n.val).tags p.hdr.tag = none ∧ t.clusters = s.clusters
        ∧ (∀ g, g ≠ p.hdr.tag → sfind (t.ni n.val).tags g = sfind (s.ni n.val).tags g) ∧ (t.ni n.val).gens = (s.ni n.val).gens
        ∧ (j.paired = true → ∀ k ∈ ((t.ni n.val).pair j.target j.cls).unacked, k.pkt.hdr.pseq ≠ j.pkt.hdr.pseq)
        ∧ (∀ m, m ≠ n.val → (t.ni m).rx = (s.ni m).rx ∧ (t.ni m).tags = (s.ni m).tags ∧ (t.ni m).pairs = (s.ni m).pairs)
        ∧ ((∀ o ∈ j.origins, o = .none) → (s.ni n.val).held = [] → OnlyNi s t n.val ∧ t.dict = s.dict)))
  ∧ (∀ j, (s.ni n.val).rx = p :: rest → p.hdr.opcode = 0x81 → (opLanes 0x81).contains p.lane = true → ((p.lane = 3 ∨ p.lane = 5) → p.hdr.crc = packetCrc p) →
      (p.hdr.poison = true ∨ malformed p = true) → sfind (s.ni n.val).tags p.hdr.tag = some j → j.pkt.hdr.gen = p.hdr.gen →
      Completes (.readResp n) s (fun t => (t.ni n.val).rx = rest ∧ sfind (t.ni n.val).tags p.hdr.tag = none ∧ Counts s t (0x3800 + n.val) 0x16))
  ∧ (∀ j b slot addr, Answered s n.val 0x82 p rest → sfind (s.ni n.val).tags p.hdr.tag = some j → j.pkt.hdr.gen = p.hdr.gen → j.origins = [.exStore b slot addr] →
      (s.ni n.val).held = [] → Completes (.statusResp n) s (fun t => (t.ni n.val).rx = rest ∧ sfind (t.ni n.val).tags p.hdr.tag = none
        ∧ t.exSlot b slot = { s.exSlot b slot with state := 2, status := p.hdr.status, count := ((s.exSlot b slot).count + 1) % 65536 }))
  ∧ (∀ oc ∈ [(0x81, Instr.readResp n), (0x82, Instr.statusResp n)], Answered s n.val oc.1 p rest →
      (∀ j, sfind (s.ni n.val).tags p.hdr.tag = some j → j.pkt.hdr.gen ≠ p.hdr.gen) →
      Completes oc.2 s (fun t => (t.ni n.val).rx = rest ∧ (t.ni n.val).tags = (s.ni n.val).tags ∧ Counts s t (0x3800 + n.val) 0x19 ∧ OnlyNi s t n.val))
  ∧ (∀ cls j, Answered s n.val 0x83 p rest → cls = (if p.lane = 3 then 2 else 3) →
      ((s.ni n.val).pair p.hdr.src cls).unacked.find? (fun j => decide (j.pkt.hdr.pseq = p.hdr.pseq) && opKind j.pkt.hdr.opcode = .posted) = some j →
      Completes (.ack n) s (fun t => (t.ni n.val).rx = rest ∧ (∀ k ∈ ((t.ni n.val).pair p.hdr.src cls).unacked, k.pkt.hdr.pseq ≠ p.hdr.pseq)
        ∧ (t.ni n.val).tags = (s.ni n.val).tags ∧ t.clusters = s.clusters
        ∧ (∀ m, m ≠ n.val → (t.ni m).rx = (s.ni m).rx ∧ (t.ni m).tags = (s.ni m).tags ∧ (t.ni m).pairs = (s.ni m).pairs)
        ∧ ((p.hdr.status = 2 ∨ p.hdr.status = 3 ∨ p.hdr.status = 4) → Counts s t (0x4000 + n.val) 0x85)
        ∧ ((∀ o ∈ j.origins, o = .none) → (s.ni n.val).held = [] → OnlyNi s t n.val ∧ (p.hdr.status = 0 → t.dict = s.dict))))
  ∧ (Answered s n.val 0x83 p rest → (∀ k ∈ ((s.ni n.val).pair p.hdr.src (if p.lane = 3 then 2 else 3)).unacked, k.pkt.hdr.pseq ≠ p.hdr.pseq) →
      Completes (.ack n) s (fun t => t = s.setNi n.val { s.ni n.val with rx := rest }))
  ∧ (Answered s n.val 0x84 p rest → Completes (.resyncReq n) s (fun t => (t.ni n.val).rx = rest ∧ Counts s t (0x3800 + n.val) 0x1C
      ∧ (t.ni n.val).pairs = (s.ni n.val).pairs ∧ (t.ni n.val).tags = (s.ni n.val).tags ∧ OnlyNi s t n.val))
  ∧ (∀ cls j, Answered s n.val 0x84 p rest → cls = (if p.lane = 3 then 2 else 3) → ((s.ni n.val).pair p.hdr.src cls).unacked = [j] → (s.ni n.val).gates.enable = false →
      (s.ni n.val).gate = [] → (s.ni n.val).sendQ = [] →
      Completes (.resyncReq n) s (fun t => (t.ni n.val).rx = rest ∧ ((t.ni n.val).pair p.hdr.src cls).unacked = [j]
        ∧ ∃ i, (t.ni n.val).sendQ = [i] ∧ i.pkt.hdr.retx = true ∧ i.pkt.hdr.wsync = true ∧ i.pkt.hdr.pseq = j.pkt.hdr.pseq ∧ i.pkt.payload = j.pkt.payload))
  ∧ (∀ oc ∈ [(0x81, Instr.readResp n), (0x82, Instr.statusResp n), (0x83, Instr.ack n), (0x84, Instr.resyncReq n)], (s.ni n.val).rx = p :: rest → p.hdr.opcode = oc.1 →
      (opLanes oc.1).contains p.lane = true → (p.lane = 3 ∨ p.lane = 5) → p.hdr.crc ≠ packetCrc p →
      Completes oc.2 s (fun t => (t.ni n.val) = { s.ni n.val with rx := rest } ∧ Counts s t (0x3800 + n.val) 0x10 ∧ OnlyNi s t n.val ∧ OnlyIndex s t (0x3800 + n.val)))
  ∧ (∀ (hb : Fin 2) j, Answered s (niOfBridge hb.val) 0x8A p rest → sfind (s.ni (niOfBridge hb.val)).tags p.hdr.tag = some j → j.pkt.hdr.gen = p.hdr.gen →
      Completes (.mgmtResp hb) s (fun t => (t.ni (niOfBridge hb.val)).rx = rest ∧ sfind (t.ni (niOfBridge hb.val)).tags p.hdr.tag = none ∧ t.clusters = s.clusters
        ∧ (∀ g, g ≠ p.hdr.tag → sfind (t.ni (niOfBridge hb.val)).tags g = sfind (s.ni (niOfBridge hb.val)).tags g)
        ∧ (∀ m, m ≠ niOfBridge hb.val → (t.ni m).rx = (s.ni m).rx ∧ (t.ni m).tags = (s.ni m).tags ∧ (t.ni m).pairs = (s.ni m).pairs)
        ∧ ((∀ o ∈ j.origins, o = .none) → (s.ni (niOfBridge hb.val)).held = [] → OnlyNi s t (niOfBridge hb.val))))
  ∧ (∀ hb : Fin 2, Answered s (niOfBridge hb.val) 0x8A p rest → (∀ j, sfind (s.ni (niOfBridge hb.val)).tags p.hdr.tag = some j → j.pkt.hdr.gen ≠ p.hdr.gen) →
      Completes (.mgmtResp hb) s (fun t => (t.ni (niOfBridge hb.val)).rx = rest ∧ (t.ni (niOfBridge hb.val)).tags = (s.ni (niOfBridge hb.val)).tags
        ∧ Counts s t (0x3800 + niOfBridge hb.val) 0x19 ∧ OnlyNi s t (niOfBridge hb.val)))

/-- R92, R98, R212, R447, R529, R545: packets at MP. MGMT_READ, MGMT_WRITE, FAULT_MSG.
Readings of the model that it rests on: log 113. -/
def Obligations.PacketsAtMp : Prop :=
  ∀ (s : State) (p : Packet) (rest : List Packet), (s.ni 43).rx = p :: rest → p.lane = 7 → p.hdr.poison = false → malformed p = false →
  (∀ oc ∈ [(0x0A, Instr.mgmtRead), (0x0B, Instr.mgmtWrite)], ∀ h, p.hdr.opcode = oc.1 → hostPath p.hdr.src = some h → s.dict.queue.length < 16 →
      Completes oc.2 s (fun t => (t.ni 43).rx = rest ∧ t.dict.queue = s.queueWith (.host h p) ∧ OnlyIndex s t 0x2011 ∧ OnlyNi s t 43))
  ∧ (∀ oc ∈ [(0x0A, Instr.mgmtRead), (0x0B, Instr.mgmtWrite)], ∀ h, p.hdr.opcode = oc.1 → hostPath p.hdr.src = some h → 16 ≤ s.dict.queue.length → s.freshCount = 0 →
      Completes oc.2 s (fun t => (t.ni 43).rx = rest ∧ t.dict.queue = s.dict.queue ∧ Counts s t 0x2011 3
        ∧ ∃ j, (t.ni 43).sendQ = (s.ni 43).sendQ ++ [j] ∧ j.pkt.hdr.opcode = 0x8A ∧ j.pkt.hdr.status = 0xA ∧ j.pkt.hdr.tag = p.hdr.tag))
  ∧ (p.hdr.opcode = 0x0C → s.flt.input.length < 64 → Completes .faultMsg s (fun t => (t.ni 43).rx = rest
      ∧ t.flt.input = s.flt.input ++ [(unpackFault (leAt p.hdr.inl 0 8) (leAt p.hdr.inl 8 8), false)] ∧ t.dict = s.dict ∧ OnlyNi s t 43))

/-- R185, R308 to R310: timers of an NI and pairs that no path connects. RESEND_TIMER_EXPIRY, REPLY_STORE_EXPIRY, UNREACHABLE_MARK.
Readings of the model that it rests on: log 31, 102. -/
def Obligations.NiTimers : Prop :=
  ∀ (s : State) (n : RouterId),
  (∀ target pseq j, ((s.ni n.val).pair target 2).unacked = [j] → j.pkt.hdr.pseq = pseq → j.resent < s.ob (0x3800 + n.val) 2 → (s.ni n.val).gates.enable = false →
      (s.ni n.val).gate = [] → (s.ni n.val).sendQ = [] →
      Completes (.resendTimerExpiry n target false pseq) s (fun t => ((t.ni n.val).pair target 2).unacked = [{ j with resent := j.resent + 1 }] ∧ Counts s t (0x3800 + n.val) 0x13
        ∧ OnlyNi s t n.val ∧ ∃ i, (t.ni n.val).sendQ = [i] ∧ i.pkt.hdr.retx = true ∧ i.pkt.hdr.pseq = pseq))
  ∧ (∀ target pseq j, ((s.ni n.val).pair target 2).unacked = [j] → j.pkt.hdr.pseq = pseq → s.ob (0x3800 + n.val) 2 ≤ j.resent → opKind j.pkt.hdr.opcode = .posted →
      Completes (.resendTimerExpiry n target false pseq) s (fun t => ((t.ni n.val).pair target 2).unacked = [] ∧ ((t.ni n.val).pair target 2).wsync = true
        ∧ Counts s t (0x3800 + n.val) 0x14 ∧ Counts s t (0x3800 + n.val) 0x15
        ∧ ((∀ o ∈ j.origins, o = .none) → (s.ni n.val).held = [] → (0x0403, n.val, target) ∈ s.flt.held → OnlyNi s t n.val)))
  ∧ (∀ target sc3 pseq, ((s.ni n.val).pair target (if sc3 = true then 3 else 2)).unacked = [] → Completes (.resendTimerExpiry n target sc3 pseq) s (fun t => t = s))
  ∧ (∀ i : Fin 128, Completes (.replyStoreExpiry n i) s (fun t => t.ni n.val = { s.ni n.val with replies := (s.ni n.val).replies.eraseIdx i.val } ∧ OnlyNi s t n.val ∧ t.dict = s.dict))
  ∧ ((∀ m d c, m < 48 → d < 48 → c < 4 → s.pairAlive m d c = true) → (∀ m, (s.ni m).held = []) → Completes .unreachableMark s (fun t =>
      (∀ m, validNi m = true → t.ni m = { s.ni m with unreach := [] }) ∧ t.dict = s.dict ∧ t.flt = s.flt ∧ t.fabric = s.fabric))
  ∧ (validNi n.val = true → ∀ d c, d < 48 → validNi d = true → c < 4 → s.pairAlive n.val d c = false →
      Completes .unreachableMark s (fun t => 4 * d + c ∈ (t.ni n.val).unreach))

/-- R257, R264, R357, R358, R361 to R364, R367, R377, R380: a request enters its cluster, and its lines their banks. CLUSTER_PORT_ADMIT, BANK_ACCESS.
Readings of the model that it rests on: log 57, 93, 104. -/
def Obligations.ClusterAccess : Prop :=
  ∀ (s : State) (k : ClusterId),
  (∀ q, s.portOwner k.val = some q → s.inPoolBlock k.val (faOffset q.hdr.fa) (span q) = false → lineParts (faOffset q.hdr.fa) (span q) ≠ [] →
      Completes (.clusterPortAdmit k) s (fun t => (t.clu k.val).port = (s.clu k.val).port.erase q ∧ (t.clu k.val).granted = (s.clu k.val).granted + 1
        ∧ sfind (t.clu k.val).jobs (s.clu k.val).nextId = some { pkt := q, left := (lineParts (faOffset q.hdr.fa) (span q)).length }
        ∧ (t.clu k.val).mem = (s.clu k.val).mem ∧ (∀ j, j ≠ k.val → t.clu j = s.clu j) ∧ t.nis = s.nis
        ∧ (q.lane < 2 → Counts s t (0x3470 + k.val) (q.lane + 1) ∧ OnlyIndex s t (0x3470 + k.val)) ∧ (2 ≤ q.lane → t.dict = s.dict)))
  ∧ (s.portOwner k.val = none → (s.clu k.val).scrubOwed = none → (s.clusRanking k.val).find? (fun c => if c = 8 then s.scrubReady k.val else (s.portLane k.val c).isSome) = none →
      Completes (.clusterPortAdmit k) s (fun t => t = s))
  ∧ (∀ c q, s.portOwner k.val = none → (s.clu k.val).scrubOwed = none → (s.clusRanking k.val).find? (fun c => if c = 8 then s.scrubReady k.val else (s.portLane k.val c).isSome) = some c →
      c ≠ 8 → s.portLane k.val c = some q → s.inPoolBlock k.val (faOffset q.hdr.fa) (span q) = false → lineParts (faOffset q.hdr.fa) (span q) ≠ [] →
      Completes (.clusterPortAdmit k) s (fun t => (t.clu k.val).port = (s.clu k.val).port.erase q
        ∧ sfind (t.clu k.val).jobs (s.clu k.val).nextId = some { pkt := q, left := (lineParts (faOffset q.hdr.fa) (span q)).length }
        ∧ (∀ j, j ≠ k.val → t.clu j = s.clu j) ∧ t.nis = s.nis ∧ Counts s t (0x3470 + k.val) 3 ∧ OnlyIndex s t (0x3470 + k.val)))
  ∧ (s.portOwner k.val = none → (s.clu k.val).scrubOwed = none → (s.clusRanking k.val).find? (fun c => if c = 8 then s.scrubReady k.val else (s.portLane k.val c).isSome) = some 8 →
      Completes (.clusterPortAdmit k) s (fun t => (t.clu k.val).scrubBusy = true ∧ (t.clu k.val).scrubWaiting = false ∧ (t.clu k.val).port = (s.clu k.val).port
        ∧ (t.clu k.val).mem = (s.clu k.val).mem ∧ (∀ j, j ≠ k.val → t.clu j = s.clu j) ∧ t.nis = s.nis ∧ Counts s t (0x3470 + k.val) 3 ∧ OnlyIndex s t (0x3470 + k.val)))
  ∧ (∀ (b : Fin 4) a rest j, sget [] (s.clu k.val).banks b.val = a :: rest → sfind (s.clu k.val).jobs a.id = some j → a.op = .read → 1 < j.left → (s.clu k.val).ecc = [] →
      Completes (.bankAccess k b) s (fun t => sget [] (t.clu k.val).banks b.val = rest ∧ (t.clu k.val).mem = (s.clu k.val).mem
        ∧ sfind (t.clu k.val).jobs a.id = some { j with left := j.left - 1, got := sins j.got a.off ((s.clu k.val).bytes a.off a.len) }
        ∧ (∀ i, i ≠ k.val → t.clu i = s.clu i) ∧ t.nis = s.nis))
  ∧ (∀ (b : Fin 4) a rest j, sget [] (s.clu k.val).banks b.val = a :: rest → sfind (s.clu k.val).jobs a.id = some j → a.op = .write → a.data.length = a.len →
      (s.clu k.val).badWord ((wordsOf a.off a.len).filter (fun w => ! coversWord a.off a.len w)) = false →
      Completes (.bankAccess k b) s (fun t => sget [] (t.clu k.val).banks b.val = rest ∧ Stored s t k.val a.off a.data ∧ (∀ i, i ≠ k.val → t.clu i = s.clu i)
        ∧ (∀ x ∈ (t.clu k.val).trackers, x ∈ (s.clu k.val).trackers ∧ (x.src = j.pkt.hdr.src ∨ x.block ≠ s.blockOf k.val a.off))))
  ∧ (∀ (b : Fin 4) a rest j, sget [] (s.clu k.val).banks b.val = a :: rest → sfind (s.clu k.val).jobs a.id = some j → a.op = .write → a.data.length = a.len →
      (s.clu k.val).badWord ((wordsOf a.off a.len).filter (fun w => ! coversWord a.off a.len w)) = true →
      Completes (.bankAccess k b) s (fun t => sget [] (t.clu k.val).banks b.val = rest ∧ (t.clu k.val).mem = (s.clu k.val).mem ∧ (∀ i, i ≠ k.val → t.clu i = s.clu i)))

/-- R294 to R300, R371 to R374: reservations and far atomics in their bank. LDRES, STCOND, ATOMIC, TRACKER_PROTECTION_EXPIRY. That an STCOND whose
reservation stands may fail without a clearing event is a free value of the model, so the statement of success names the case where R298 rules that out.
Readings of the model that it rests on: log 27. -/
def Obligations.Exclusives : Prop :=
  ∀ (s : State) (k : ClusterId) (b : Fin 4) (a : LineAcc) (rest : List LineAcc) (j : ClJob),
  sget [] (s.clu k.val).banks b.val = a :: rest → sfind (s.clu k.val).jobs a.id = some j → (s.clu k.val).badWord (wordsOf a.off a.len) = false →
  (a.op = .ldres → (s.clu k.val).trackers = [] → Completes (.ldres (.execute k b)) s (fun t => sget [] (t.clu k.val).banks b.val = rest ∧ (t.clu k.val).mem = (s.clu k.val).mem
      ∧ (t.clu k.val).trackers = [{ src := j.pkt.hdr.src, block := s.blockOf k.val a.off, set := s.blockOf k.val a.off % 4 }] ∧ Counts s t (0x4800 + k.val) 0x20))
  ∧ (a.op = .stcond → (∀ x ∈ (s.clu k.val).trackers, x.src ≠ j.pkt.hdr.src ∨ x.block ≠ s.blockOf k.val a.off) →
      Completes (.stcond (.execute k b)) s (fun t => sget [] (t.clu k.val).banks b.val = rest ∧ (t.clu k.val).mem = (s.clu k.val).mem ∧ Counts s t (0x4800 + k.val) 0x22
        ∧ (∀ x ∈ (t.clu k.val).trackers, x.src ≠ j.pkt.hdr.src)))
  ∧ (a.op = .stcond → (∃ x ∈ (s.clu k.val).trackers, x.src = j.pkt.hdr.src ∧ x.block = s.blockOf k.val a.off) → s.failedOnce k.val (s.blockOf k.val a.off) = true →
      Completes (.stcond (.execute k b)) s (fun t => sget [] (t.clu k.val).banks b.val = rest ∧ Stored s t k.val a.off a.data ∧ Counts s t (0x4800 + k.val) 0x21
        ∧ (∀ x ∈ (t.clu k.val).trackers, x.src ≠ j.pkt.hdr.src ∧ x.block ≠ s.blockOf k.val a.off) ∧ t.failedOnce k.val (s.blockOf k.val a.off) = false))
  ∧ (a.op = .atomic → Completes (.atomic (.execute k b)) s (fun t => sget [] (t.clu k.val).banks b.val = rest ∧ Counts s t (0x4800 + k.val) 0x28
      ∧ Stored s t k.val a.off (leBytes (aopResult j.pkt.hdr.aop a.len (fromLe ((s.clu k.val).bytes a.off a.len)) (leAt j.pkt.hdr.inl 0 16) (leAt j.pkt.hdr.inl 16 16)) a.len)))
  ∧ (∀ src : RouterId, Completes (.trackerProtectionExpiry k src) s (fun t => (t.clu k.val).trackers = (s.clu k.val).trackers.map (fun x =>
      if x.src = src.val then { x with prot := false } else x) ∧ t.clu k.val = { s.clu k.val with trackers := (t.clu k.val).trackers } ∧ t.dict = s.dict))

/-- R367 to R369: the patrol scrubber. SCRUB_DUE, SCRUB_LINE, SCRUB_OWED.
Readings of the model that it rests on: log 104. -/
def Obligations.PatrolScrub : Prop :=
  ∀ (s : State) (k : ClusterId),
  (s.ob (0x4800 + k.val) 2 ≠ 0 → s.domain (16 + k.val) = .on → (s.clu k.val).scrubWaiting = false → (s.clu k.val).scrubBusy = false →
      Completes (.scrubDue k) s (fun t => t = s.setClu k.val { s.clu k.val with scrubWaiting := true }))
  ∧ (s.ob (0x4800 + k.val) 2 ≠ 0 → s.domain (16 + k.val) = .on → (s.clu k.val).scrubWaiting = true → (s.clu k.val).scrubSlip = false →
      Completes (.scrubDue k) s (fun t => t.clu k.val = { s.clu k.val with scrubSlip := true, scrubNext := true } ∧ Counts s t (0x4800 + k.val) 7 ∧ OnlyIndex s t (0x4800 + k.val)))
  ∧ (s.ob (0x4800 + k.val) 2 ≠ 0 → s.domain (16 + k.val) = .on → (s.clu k.val).scrubWaiting = false → (s.clu k.val).scrubBusy = true →
      Completes (.scrubDue k) s (fun t => t = s.setClu k.val { s.clu k.val with scrubNext := true }))
  ∧ (s.ob (0x4800 + k.val) 2 = 0 → Completes (.scrubDue k) s (fun t => t = s))
  ∧ (∀ a rest, sget [] (s.clu k.val).banks (bankOf (s.scrubOff k.val)) = a :: rest → a.op = .scrub → (s.clu k.val).ecc = [] →
      Completes (.scrubLine k) s (fun t => sget [] (t.clu k.val).banks (bankOf (s.scrubOff k.val)) = rest ∧ (t.clu k.val).scrubBusy = false ∧ (t.clu k.val).mem = (s.clu k.val).mem
        ∧ (t.clu k.val).scrubWaiting = ((s.clu k.val).scrubNext && decide (s.ob (0x4800 + k.val) 2 ≠ 0)) ∧ (t.clu k.val).scrubNext = false
        ∧ t.ob (0x4800 + k.val) 4 = (s.ob (0x4800 + k.val) 4 + 1) % 131072
        ∧ t.ob (0x4800 + k.val) 5 = (if s.ob (0x4800 + k.val) 4 + 1 = 131072 then satAdd (counterWidth (0x4800 + k.val) 5) (s.ob (0x4800 + k.val) 5) 1 else s.ob (0x4800 + k.val) 5)))
  ∧ ((s.clu k.val).scrubWaiting = true → (s.clu k.val).scrubOwed = none →
      Completes (.scrubOwed k) s (fun t => t.clu k.val = { s.clu k.val with scrubOwed := some s.slotStart } ∧ t.dict = s.dict))
  ∧ (((s.clu k.val).scrubWaiting = false ∨ (s.clu k.val).scrubOwed.isSome = true) → Completes (.scrubOwed k) s (fun t => (∀ j, t.clu j = s.clu j) ∧ t.dict = s.dict))

/-- R376 to R380, R386: buffer pools. POOL_POP, POOL_PUSH, POOL_COUNT_READ.
Readings of the model that it rests on: log 55. -/
def Obligations.BufferPools : Prop :=
  ∀ (s : State) (k : ClusterId) (q : Packet) (rest : List Packet) (p : Nat), (s.clu k.val).poolQ = q :: rest →
  (∀ i more, s.poolOp k.val q = .pop p → (s.clu k.val).freeList p = i :: more → (s.clu k.val).ecc = [] →
      Completes (.poolPop k) s (fun t => (t.clu k.val).poolQ = rest ∧ (t.clu k.val).freeList p = more ∧ (t.clu k.val).mem = (s.clu k.val).mem
        ∧ t.ob (0x4800 + k.val) (0x48 + p) = min (s.ob (0x4800 + k.val) (0x48 + p)) more.length ∧ (∀ j, j ≠ k.val → t.clu j = s.clu j)))
  ∧ (s.poolOp k.val q = .pop p → (s.clu k.val).freeList p = [] → (s.clu k.val).ecc = [] →
      Completes (.poolPop k) s (fun t => (t.clu k.val).poolQ = rest ∧ (t.clu k.val).freeList p = [] ∧ Counts s t (0x4800 + k.val) (0x40 + p)))
  ∧ (∀ i, s.poolOp k.val q = .push p → i < poolCount (s.poolCfg k.val p) → i ∉ (s.clu k.val).freeList p → leAt (payloadOf q) 4 4 = 0 →
      leAt (payloadOf q) 0 4 = poolBase (s.poolCfg k.val p) + i * poolSize (s.poolCfg k.val p) →
      Completes (.poolPush k) s (fun t => (t.clu k.val).poolQ = rest ∧ (t.clu k.val).freeList p = (s.clu k.val).freeList p ++ [i] ∧ (t.clu k.val).mem = (s.clu k.val).mem))
  ∧ (∀ i, s.poolOp k.val q = .push p → i ∈ (s.clu k.val).freeList p → leAt (payloadOf q) 0 4 = poolBase (s.poolCfg k.val p) + i * poolSize (s.poolCfg k.val p) →
      Completes (.poolPush k) s (fun t => (t.clu k.val).poolQ = rest ∧ (t.clu k.val).freeList p = (s.clu k.val).freeList p ∧ Counts s t (0x4800 + k.val) (0x50 + p)))
  ∧ (s.poolOp k.val q = .count p → Completes (.poolCountRead k) s (fun t => t.clu k.val = { s.clu k.val with poolQ := rest } ∧ t.dict = s.dict
      ∧ (∀ j, j ≠ k.val → t.clu j = s.clu j) ∧ OnlyNi s t (niOfBm k.val)))
  ∧ (s.poolOp k.val q = .count p → q.lane = 2 → q.hdr.src < 64 → (s.ni (niOfBm k.val)).order = [(q.hdr.src, q.hdr.pseq)] → (s.ni (niOfBm k.val)).ready = [] →
      Completes (.poolCountRead k) s (fun t => ∃ j, (t.ni (niOfBm k.val)).sendQ = (s.ni (niOfBm k.val)).sendQ ++ [j] ∧ j.pkt.lane = 3 ∧ j.pkt.hdr.opcode = answerOp q.hdr.opcode
        ∧ j.pkt.hdr.status = 0 ∧ j.pkt.hdr.inl = leBytes ((s.clu k.val).freeList p).length 8 ∧ j.pkt.hdr.tag = q.hdr.tag))

/-- R391, R395 to R397, R406, R407, R409, R410, R436: doorbells and the items that carry them. Q_DOORBELL, Q_ABORT, Q_RESTART, MB_PRODUCER, DOORBELL_ITEM, ABORT_ITEM,
RESTART_ITEM, MB_POST_ITEM, DOORBELL_SCAN.
Readings of the model that it rests on: log 34 (an abort or a restart judges the producer register), 105. -/
def Obligations.DoorbellsAndItems : Prop :=
  ∀ (s : State) (e : EngineId),
  (s.flt.inject ≠ .armed → s.engineOn e.val = true → (s.evq e.val).late = 0 → (s.evq e.val).items.length < 14 →
      (∀ (q : Fin 64) v, Completes (.qDoorbell e q v) s (fun t => t.dq e.val q.val = { s.dq e.val q.val with producer := v % 65536 }
          ∧ (∀ p, p ≠ q.val → t.dq e.val p = s.dq e.val p) ∧ t.dict = s.dict
          ∧ ∃ x, (t.evq e.val).items = (s.evq e.val).items ++ [x] ∧ field x.value 62 56 = 1 ∧ field x.value 21 16 = q.val ∧ field x.value 15 0 = v % 65536))
      ∧ (∀ q : Fin 64, Completes (.qAbort e q) s (fun t => t.engines = s.engines ∧ t.dict = s.dict
          ∧ ∃ x, (t.evq e.val).items = (s.evq e.val).items ++ [x] ∧ field x.value 62 56 = 2 ∧ field x.value 21 16 = q.val))
      ∧ (∀ q : Fin 64, Completes (.qRestart e q) s (fun t => t.engines = s.engines ∧ t.dict = s.dict
          ∧ ∃ x, (t.evq e.val).items = (s.evq e.val).items ++ [x] ∧ field x.value 62 56 = 3 ∧ field x.value 21 16 = q.val))
      ∧ (∀ (r : Fin 16) v, Completes (.mbProducer e r v) s (fun t => t.ring e.val r.val = { s.ring e.val r.val with producer := v % 65536 } ∧ t.dict = s.dict
          ∧ ∃ x, (t.evq e.val).items = (s.evq e.val).items ++ [x] ∧ field x.value 62 56 = 4 ∧ field x.value 19 16 = r.val ∧ field x.value 15 0 = v % 65536)))
  ∧ (s.engineOn e.val = false → ∀ (q : Fin 64) (r : Fin 16) v, ∀ c ∈ [Instr.qDoorbell e q v, .qAbort e q, .qRestart e q, .mbProducer e r v], Completes c s (fun t =>
      Counts s t (0x2210 + (40 + e.val)) 6 ∧ t.engines = s.engines ∧ t.eqs = s.eqs))
  ∧ (∀ h rest, (s.evq e.val).items = h :: rest → h.errs = 0 →
      (∀ q p, field h.value 62 56 = 1 → h.scanned = false → q = field h.value 21 16 → p = field h.value 15 0 → (s.dq e.val q).state = .idle → p ≠ (s.dq e.val q).consumer →
        ahead p (s.dq e.val q).consumer ≤ 2 ^ qLog s e.val q →
        Completes (.doorbellItem e) s (fun t => (t.evq e.val).items = rest ∧ t.dq e.val q = { s.dq e.val q with seen := p, state := .running } ∧ t.dict = s.dict))
      ∧ (∀ q p, field h.value 62 56 = 1 → h.scanned = false → q = field h.value 21 16 → p = field h.value 15 0 → (s.dq e.val q).state = .idle → 2 ^ qLog s e.val q < ahead p (s.dq e.val q).consumer →
        Completes (.doorbellItem e) s (fun t => (t.evq e.val).items = rest ∧ (t.dq e.val q).state = .error ∧ (t.dq e.val q).ringError = true ∧ Counts s t (0x4C00 + e.val) 0x42))
      ∧ (∀ q, field h.value 62 56 = 2 → q = field h.value 21 16 → (s.dq e.val q).state = .running → (s.dq e.val q).producer ≠ (s.dq e.val q).consumer →
        ahead (s.dq e.val q).producer (s.dq e.val q).consumer ≤ 2 ^ qLog s e.val q →
        Completes (.abortItem e) s (fun t => (t.evq e.val).items = rest.map (fun i => i.spend q) ∧ (t.dq e.val q).state = .aborting ∧ (t.dq e.val q).abortTo = some (s.dq e.val q).producer))
      ∧ (∀ q, field h.value 62 56 = 2 → q = field h.value 21 16 → (s.dq e.val q).state = .idle → (s.dq e.val q).producer = (s.dq e.val q).consumer →
        Completes (.abortItem e) s (fun t => (t.evq e.val).items = rest.map (fun i => i.spend q) ∧ (t.dq e.val q).state = .stopped ∧ (t.dq e.val q).abortLate = true))
      ∧ (∀ q, field h.value 62 56 = 3 → q = field h.value 21 16 → ((s.dq e.val q).state = .stopped ∨ (s.dq e.val q).state = .error) →
        ahead (s.dq e.val q).producer (s.dq e.val q).consumer ≤ 2 ^ qLog s e.val q →
        Completes (.restartItem e) s (fun t => (t.evq e.val).items = rest.map (fun i => i.spend q) ∧ (t.dq e.val q).abortLate = false ∧ (t.dq e.val q).ringError = false
          ∧ (t.dq e.val q).state = if (s.dq e.val q).producer = (s.dq e.val q).consumer then .idle else .running))
      ∧ (∀ q, q = field h.value 21 16 → 2 ^ qLog s e.val q < ahead (s.dq e.val q).producer (s.dq e.val q).consumer →
          ((field h.value 62 56 = 2 ∧ ((s.dq e.val q).state = .idle ∨ (s.dq e.val q).state = .running) → Completes (.abortItem e) s (fun t =>
              (t.dq e.val q).state = .error ∧ (t.dq e.val q).ringError = true ∧ Counts s t (0x4C00 + e.val) 0x42))
            ∧ (field h.value 62 56 = 3 ∧ ((s.dq e.val q).state = .stopped ∨ (s.dq e.val q).state = .error) → Completes (.restartItem e) s (fun t =>
              (t.dq e.val q).state = .error ∧ (t.dq e.val q).ringError = true ∧ Counts s t (0x4C00 + e.val) 0x42))))
      ∧ (∀ r, field h.value 62 56 = 4 → h.scanned = false → r = field h.value 19 16 → (s.eng e.val).frames = [] →
        Completes (.mbPostItem e) s (fun t => (t.evq e.val).items = rest ∧ t.ring e.val r = { s.ring e.val r with seen := (s.ring e.val r).producer }))
      ∧ (h.scanned = true → (field h.value 62 56 = 1 → Completes (.doorbellItem e) s (fun t => (t.evq e.val).items = rest ∧ t.engines = s.engines))
          ∧ (field h.value 62 56 = 4 → Completes (.mbPostItem e) s (fun t => (t.evq e.val).items = rest ∧ t.engines = s.engines))))
  ∧ ((s.eng e.val).scanDue = true → (s.eng e.val).frames = [] → Completes (.doorbellScan e) s (fun t => (t.eng e.val).scanDue = false ∧ Counts s t (0x4C00 + e.val) 0x48
      ∧ (∀ x ∈ (t.evq e.val).items, x.scanned = true) ∧ (∀ q, q < 64 → (t.dq e.val q).seen = (s.dq e.val q).producer) ∧ (∀ r, r < 16 → (t.ring e.val r).seen = (s.ring e.val r).producer)))
  ∧ ((s.eng e.val).scanDue = false → Completes (.doorbellScan e) s (fun t => t = s))

/-- R392 to R394, R398 to R400: descriptors are read and executed. DESCRIPTOR_READ, NOP, COPY, PUT, GET, SEND_DESCRIPTOR, MCAST_PUT, ATOMIC_DESCRIPTOR, CHUNK_ISSUE.
Readings of the model that it rests on: log 23, 36. -/
def Obligations.Descriptors : Prop :=
  ∀ (s : State) (e : EngineId) (q : Fin 64),
  (∀ n, ((s.dq e.val q.val).state = .running) → (s.dq e.val q.val).fetching = none → (s.dq e.val q.val).descs = [] → (s.dq e.val q.val).abortTo = none →
      ahead (s.dq e.val q.val).seen (s.dq e.val q.val).fetch ≤ 2 ^ qLog s e.val q.val → 0 < n →
      n = min (min 8 (ahead (s.dq e.val q.val).seen (s.dq e.val q.val).fetch))
        (min (2 ^ qLog s e.val q.val - (s.dq e.val q.val).fetch % 2 ^ qLog s e.val q.val) (128 - (s.dq e.val q.val).fetch % 128)) →
      Completes (.descriptorRead e q) s (fun t => (t.dq e.val q.val).fetching = some (s.dq e.val q.val).nextId ∧ OnlyNi s t (niOfDm e.val)
        ∧ ∃ a, (t.ni (niOfDm e.val)).inbox = (s.ni (niOfDm e.val)).inbox ++ [a] ∧ a.kind = .read ∧ a.len = 32 * n
            ∧ a.addr = qRing s e.val q.val + (s.dq e.val q.val).fetch % 2 ^ qLog s e.val q.val * 32))
  ∧ (∀ d rest, (s.dq e.val q.val).descs = d :: rest → (s.dq e.val q.val).mayStart = true → s.turnOf e.val = some q.val →
      (d.bad = false → d.barrier = 0 →
        (∀ oc ∈ [(0, Instr.nop e q), (1, Instr.copy e q), (4, Instr.sendDescriptor e q), (5, Instr.mcastPut e q)], d.op = oc.1 →
          Completes oc.2 s (fun t => t.dq e.val q.val = { s.dq e.val q.val with descs := rest, works := (s.dq e.val q.val).works ++ [{ id := (s.dq e.val q.val).nextId, desc := d }],
                                                                                 nextId := (s.dq e.val q.val).nextId + 1 } ∧ t.nis = s.nis ∧ t.dict = s.dict))
        ∧ (d.op = 2 → Completes (.put e q) s (fun t => (t.dq e.val q.val).descs = rest ∧ OnlyNi s t (niOfDm e.val)
            ∧ (∃ w, (t.dq e.val q.val).works = (s.dq e.val q.val).works ++ [w] ∧ w.desc = d ∧ w.pending = d.length)
            ∧ ∃ a, (t.ni (niOfDm e.val)).inbox = (s.ni (niOfDm e.val)).inbox ++ [a] ∧ a.kind = .write ∧ a.addr = d.dst ∧ a.len = d.length
                ∧ a.data = (leBytes d.src 8 ++ leBytes d.aux 8).take d.length))
        ∧ (d.op = 3 → Completes (.get e q) s (fun t => (t.dq e.val q.val).descs = rest ∧ OnlyNi s t (niOfDm e.val)
            ∧ (∃ w, (t.dq e.val q.val).works = (s.dq e.val q.val).works ++ [w] ∧ w.desc = d ∧ w.pending = d.length)
            ∧ ∃ a, (t.ni (niOfDm e.val)).inbox = (s.ni (niOfDm e.val)).inbox ++ [a] ∧ a.kind = .read ∧ a.addr = d.src ∧ a.len = d.length))
        ∧ (d.op = 6 → d.aop ≠ 5 → Completes (.atomicDescriptor e q) s (fun t => (t.dq e.val q.val).descs = rest ∧ OnlyNi s t (niOfDm e.val)
            ∧ (∃ w, (t.dq e.val q.val).works = (s.dq e.val q.val).works ++ [w] ∧ w.desc = d ∧ w.pending = 1)
            ∧ ∃ a, (t.ni (niOfDm e.val)).inbox = (s.ni (niOfDm e.val)).inbox ++ [a] ∧ a.kind = .atomic ∧ a.addr = d.dst ∧ a.aop = d.aop
                ∧ a.inl = leBytes d.src 16 ++ leBytes d.aux 16)))
      ∧ (d.bad = true → ∀ oc ∈ [(0, Instr.nop e q), (1, Instr.copy e q), (2, Instr.put e q), (3, Instr.get e q), (4, Instr.sendDescriptor e q), (5, Instr.mcastPut e q),
          (6, Instr.atomicDescriptor e q)], d.op = oc.1 → Completes oc.2 s (fun t => (t.dq e.val q.val).descs = rest ∧ t.nis = s.nis ∧ t.dict = s.dict
            ∧ ∃ w, (t.dq e.val q.val).works = (s.dq e.val q.val).works ++ [w] ∧ w.desc = d ∧ w.complete = true ∧ w.status = 2)))
  ∧ (∀ w len, (s.dq e.val q.val).chunkWork = some w → (s.dq e.val q.val).state = .running → s.turnOf e.val = some q.val → s.chunksUsed e.val < 16 →
      len = min (w.desc.length - w.next) (min (4096 - (w.desc.src + w.next) % 4096) (4096 - (w.desc.dst + w.next) % 4096)) →
      Completes (.chunkIssue e q) s (fun t => OnlyNi s t (niOfDm e.val) ∧ (∃ v ∈ (t.dq e.val q.val).works, v.id = w.id ∧ v.next = w.next + len ∧ v.pending = w.pending + len)
        ∧ ∃ a, (t.ni (niOfDm e.val)).inbox = (s.ni (niOfDm e.val)).inbox ++ [a] ∧ a.kind = .read ∧ a.addr = w.desc.src + w.next ∧ a.len = len))

/-- R401, R402, R404 to R406: completion records and aborts. RECORD_WRITE, RECORD_ACKNOWLEDGED, ABORT_COMPLETE.
Readings of the model that it rests on: log 34, 35. -/
def Obligations.Records : Prop :=
  ∀ (s : State) (e : EngineId) (q : Fin 64),
  (∀ w rest, (s.dq e.val q.val).state = .running → (s.dq e.val q.val).works = w :: rest → w.complete = true →
      Completes (.recordWrite e q) s (fun t => (t.dq e.val q.val).works = rest ∧ (t.dq e.val q.val).consumer = ((s.dq e.val q.val).consumer + 1) % 65536 ∧ Counts s t (0x4C00 + e.val) 0x40
        ∧ OnlyNi s t (niOfDm e.val)
        ∧ ((t.dq e.val q.val).state = if w.status ≠ 0 ∧ w.status ≠ 0xC then .error
            else if ((s.dq e.val q.val).consumer + 1) % 65536 = (s.dq e.val q.val).seen then .idle else .running)
        ∧ ∃ a, (t.ni (niOfDm e.val)).inbox = (s.ni (niOfDm e.val)).inbox ++ [a] ∧ a.kind = .write ∧ a.len = 32
            ∧ a.addr = qCmpl s e.val q.val + (s.dq e.val q.val).consumer % 2 ^ qLog s e.val q.val * 32
            ∧ a.data.take 4 = leBytes (1 <<< 30 ||| (((s.dq e.val q.val).consumer / 2 ^ qLog s e.val q.val) % 2) <<< 29 ||| w.status <<< 24 ||| (s.dq e.val q.val).consumer % 65536) 4))
  ∧ (∀ irq rest, (s.dq e.val q.val).acked = irq :: rest → Completes (.recordAcknowledged e q) s (fun t => t.dq e.val q.val = { s.dq e.val q.val with acked := rest } ∧ t.dict = s.dict
      ∧ OnlyNi s t (niOfDm e.val) ∧ (irq = false → t.nis = s.nis)
      ∧ (irq = true → ∃ a, (t.ni (niOfDm e.val)).inbox = (s.ni (niOfDm e.val)).inbox ++ [a] ∧ a.kind = .write ∧ a.len = 8 ∧ a.data = leBytes (qConfig s e.val q.val % 256) 8)))
  ∧ ((s.dq e.val q.val).state = .aborting → (s.dq e.val q.val).works = [] → (s.dq e.val q.val).abortTo = some (s.dq e.val q.val).consumer →
      Completes (.abortComplete e q) s (fun t => (t.dq e.val q.val).state = .stopped ∧ (t.dq e.val q.val).abortTo = none ∧ t.nis = s.nis ∧ t.dict = s.dict))
  ∧ (∀ w, (s.dq e.val q.val).state = .aborting → (s.dq e.val q.val).works = [w] → w.pending = 0 → (s.dq e.val q.val).abortTo = some (((s.dq e.val q.val).consumer + 1) % 65536) →
      Completes (.abortComplete e q) s (fun t => (t.dq e.val q.val).state = .stopped ∧ (t.dq e.val q.val).consumer = ((s.dq e.val q.val).consumer + 1) % 65536
        ∧ Counts s t (0x4C00 + e.val) 0x41 ∧ ∃ a, (t.ni (niOfDm e.val)).inbox = (s.ni (niOfDm e.val)).inbox ++ [a] ∧ a.kind = .write ∧ a.len = 32))

/-- R423 to R432, R435, R601: event queues. EQ_WRITE, EQ_HEAD_READ, BANK_HANDOVER, TELEMETRY_SAMPLE.
Readings of the model that it rests on: log 53, 78, 105. -/
def Obligations.EventQueues : Prop :=
  ∀ (s : State) (i : Fin 16),
  (∀ kind data, s.eqOn i.val = true → s.flt.inject ≠ .armed → (s.evq i.val).late = 0 → kind < 128 → data < 2 ^ 48 → (s.evq i.val).items.length + 2 < eqCap i.val → (8 ≤ i.val → (s.evq i.val).bank ≠ []) →
      Completes (.eqWrite i kind data) s (fun t => (t.evq i.val).seq = ((s.evq i.val).seq + 1) % 256 ∧ (t.evq i.val).bank = (s.evq i.val).bank ∧ (∀ j, j ≠ i.val → t.evq j = s.evq j)
        ∧ t.dict = s.dict ∧ ∃ x, (t.evq i.val).items = (s.evq i.val).items ++ [x] ∧ field x.value 62 56 = kind ∧ field x.value 47 0 = data ∧ field x.value 55 48 = (s.evq i.val).seq % 256 ∧ x.errs = 0))
  ∧ (∀ kind data how, s.eqOn i.val = false → Completes (.eqWrite i kind data) s (fun t => t = s) ∧ Completes (.eqHeadRead i how) s (fun t => t = s))
  ∧ (∀ kind data, s.eqOn i.val = true → s.flt.inject ≠ .armed → i.val < 8 → eqCap i.val ≤ (s.evq i.val).items.length → Completes (.eqWrite i kind data) s (fun t =>
      (∃ x, (t.evq i.val).items = (s.evq i.val).items.take 1 ++ (s.evq i.val).items.drop 2 ++ [x]) ∧ Counts s t (0x4E00 + i.val) 5 ∧ (t.eng i.val).scanDue = true))
  ∧ (∀ h rest, s.eqOn i.val = true → i.val < 8 → (s.evq i.val).items = h :: rest → h.errs = 0 → h.at_ + 9 < s.clk.now → Completes (.eqHeadRead i .named) s (fun t =>
      (t.evq i.val).items = rest ∧ (∀ j, j ≠ i.val → t.evq j = s.evq j) ∧ t.dict = s.dict))
  ∧ (∀ h rest, 8 ≤ i.val → s.dictReads i.val = true → (s.evq i.val).bank = h :: rest → rest ≠ [] → h.errs = 0 → h.at_ + 36 < s.clk.now → Completes (.eqHeadRead i .dict8) s (fun t =>
      (t.evq i.val).bank = rest ∧ (t.evq i.val).items = (s.evq i.val).items ∧ t.dict = s.dict))
  ∧ (∀ how, ((how = .named) ∨ (how = .dict8)) → (s.evq i.val).readable i.val = [] → Completes (.eqHeadRead i how) s (fun t => t = s))
  ∧ (8 ≤ i.val → (s.evq i.val).bank = [] → 256 ≤ (s.evq i.val).items.length → Completes (.bankHandover i) s (fun t =>
      (t.evq i.val).bank = (s.evq i.val).items ∧ (t.evq i.val).items = [] ∧ (∀ j, j ≠ i.val → t.evq j = s.evq j) ∧ t.dict = s.dict))
  ∧ ((i.val < 8 ∨ (s.evq i.val).bank ≠ []) → Completes (.bankHandover i) s (fun t => t = s))
  ∧ (∀ sensors, (s.evq i.val).slipped = none → (s.evq i.val).late = 0 → 8 ≤ i.val → field (s.ob (0x4E00 + i.val) 9) 7 0 = 4 → s.stw.running = true → s.queueOf 4 = some i.val → s.mode 3 ≠ 0 →
      s.flt.inject ≠ .armed → (s.evq i.val).items.length + 10 < 256 → (s.evq i.val).bank ≠ [] → (∀ j, j < 8 → lget 0 sensors j < s.otp.maxTj + 160) →
      Completes (.telemetrySample i false sensors) s (fun t => (t.evq i.val).items.length = (s.evq i.val).items.length + 8 ∧ (t.evq i.val).bank = (s.evq i.val).bank ∧ t.dict = s.dict)
      ∧ Completes (.telemetrySample i true sensors) s (fun t => (t.evq i.val).slipped.isSome = true ∧ (t.evq i.val).items = (s.evq i.val).items ∧ Counts s t (0x4E00 + i.val) 0xB))
  ∧ (∀ sensors j busy, j < 8 → s.otp.maxTj + 160 ≤ lget 0 sensors j → (∀ k, k < 8 → k ≠ j → lget 0 sensors k < s.otp.maxTj + 160) → (s.evq i.val).slipped = none →
      field (s.ob (0x4E00 + i.val) 9) 7 0 = 4 → s.pinWatched (16 + j) = true → s.dev ≠ .standby → sfind s.flt.pins (16 + j) = none → (s.policy (0x1010 + j)).reaction = 2 →
      (∀ x ∈ s.uncleared, x.state = .raised → x.msg.cls ≠ 3) →
      Completes (.telemetrySample i busy sensors) s (fun t => t.dev = .halted ∧ 16 + j ∈ t.flt.pinRaw ∧ (sfind t.flt.pins (16 + j)).isSome = true))

/-- R439 to R442, R446, R460 to R462, R472 to R476: links of the bridges. HB_PERST_ASSERT, HB_PERST_DEASSERT, PCIE_LINK_UP, PCIE_LINK_DOWN, PCIE_RECOVERY_ENTRY, FLR,
HOT_RESET_RECEIVED, DPC_TRIGGER, DOWNSTREAM_ERROR_MESSAGE, PORT_WAVE_START, PERST_DELAY_EXPIRY, PB_PERST_DEASSERT. That FLR and a hot reset are no surprise and that DPC is one are readings
of the model (log 40), and so are the bits of Root Error Status (log 10).
Readings of the model that it rests on: log 10, 40. -/
def Obligations.PcieLinks : Prop :=
  ∀ s : State,
  (∀ hb : Fin 2, Completes (.hbPerstAssert hb) s (fun t => (t.br hb.val).perst = true ∧ (t.br hb.val).state = (if s.answers (48 + hb.val) = true ∨ s.linkCarries hb.val = true then .down else (s.br hb.val).state) ∧ (t.br hb.val).msix = [] ∧ (t.br hb.val).pending = []
      ∧ (t.br hb.val).bme = false ∧ (t.br hb.val).cfg = [] ∧ t.dict.owner.bind pathBridge ≠ some hb.val))
  ∧ (∀ hb : Fin 2, s.domain (48 + hb.val) = .on → (s.br hb.val).disabled = false → (s.br hb.val).contained = false → s.dev ≠ .standby → s.dev ≠ .muster → (s.br hb.val).state = .down →
      Completes (.hbPerstDeassert hb) s (fun t => (t.br hb.val).perst = false ∧ (t.br hb.val).state = .training ∧ (∀ b, b ≠ hb.val → t.br b = s.br b)))
  ∧ (∀ (b : BridgeId) speed width flit, (s.br b.val).state = .training → Completes (.pcieLinkUp b speed width flit) s (fun t => (t.br b.val).state = .up
      ∧ (t.br b.val).speed = min (min speed 6) (s.ob (brIdx b.val) 5) ∧ (t.br b.val).width = linkWidth b.val width ∧ (∀ c, c ≠ b.val → t.br c = s.br c)))
  ∧ (∀ (b : BridgeId) speed width flit, (s.br b.val).state = .recovery → Completes (.pcieLinkUp b speed width flit) s (fun t => (t.br b.val) = { s.br b.val with state := .up }
      ∧ (∀ c, c ≠ b.val → t.br c = s.br c)))
  ∧ (∀ b : BridgeId, (s.br b.val).state = .up → Completes (.pcieLinkDown b .dllDown) s (fun t => (t.br b.val).state = .down ∧ Counts s t (brIdx b.val) 0x10 ∧ Counts s t (brIdx b.val) 0x11
      ∧ bitAt (sget 0 (t.br b.val).cfg 0x41) 5 = true
      ∧ (t.br b.val).slots = [] ∧ (t.br b.val).outQ = [] ∧ (t.br b.val).dll = [] ∧ (∀ q ∈ (t.br b.val).inbound, q.acc.write = true)))
  ∧ (∀ b : BridgeId, (s.br b.val).state = .up → Completes (.pcieLinkDown b .commanded) s (fun t => (t.br b.val).state = .down ∧ Counts s t (brIdx b.val) 0x10
      ∧ t.ob (brIdx b.val) 0x11 = s.ob (brIdx b.val) 0x11))
  ∧ (∀ b : BridgeId, (s.br b.val).state = .up → Completes (.pcieRecoveryEntry b) s (fun t => (t.br b.val) = { s.br b.val with state := .recovery } ∧ (∀ c, c ≠ b.val → t.br c = s.br c)))
  ∧ (∀ b : BridgeId, (s.br b.val).state ≠ .up → Completes (.pcieRecoveryEntry b) s (fun t => t = s))
  ∧ (∀ b : BridgeId, s.role b.val = 2 → s.answers (bridgeDom b.val) = true → (∀ c ∈ [Instr.flr b, Instr.hotResetReceived b], Completes c s (fun t => (t.br b.val).state = .down ∧ (t.br b.val).msix = [] ∧ (t.br b.val).bme = false
      ∧ (t.br b.val).cfg = [] ∧ (t.br b.val).bar4 = s.ob (brIdx b.val) 0xA ∧ t.ob (brIdx b.val) 0x11 = s.ob (brIdx b.val) 0x11)))
  ∧ (∀ b : BridgeId, s.containable b.val = true → s.dpcEnable b.val ≠ 0 → (s.br b.val).state = .up → Completes (.dpcTrigger b) s (fun t => (t.br b.val).state = .contained ∧ (t.br b.val).contained = true
      ∧ Counts s t (brIdx b.val) 0x10 ∧ Counts s t (brIdx b.val) 0x11))
  ∧ (∀ b : BridgeId, s.dpcEnable b.val = 0 → Completes (.dpcTrigger b) s (fun t => t = s))
  ∧ (∀ (b : BridgeId) q, s.containable b.val = true → 1 ≤ s.dpcEnable b.val → s.dpcEnable b.val ≤ 2 → Completes (.downstreamErrorMessage b .fatal q) s (fun t =>
      (t.br b.val).contained = true ∧ (t.br b.val).state = .contained))
  ∧ (∀ (b : BridgeId) m q, 2 ≤ b.val → s.role b.val = 1 → (s.dpcEnable b.val = 0 ∨ m = .cor) → Completes (.downstreamErrorMessage b m q) s (fun t =>
      sget 0 (t.br b.val).cfg 0x4C = sget 0 (s.br b.val).cfg 0x4C ||| (match m with
          | .cor => if bitAt (sget 0 (s.br b.val).cfg 0x4C) 0 = true then 2 else 1
          | .nonfatal => if bitAt (sget 0 (s.br b.val).cfg 0x4C) 2 = true then 0x28 else 0x24
          | .fatal => if bitAt (sget 0 (s.br b.val).cfg 0x4C) 2 = true then 0x48 else 0x54)
        ∧ (t.br b.val).state = (s.br b.val).state
        ∧ ((match m with | .cor => 0x0902 | .nonfatal => 0x0903 | .fatal => 0x0903), niOfBridge b.val, 0) ∈ t.flt.held))
  ∧ (∀ (w : Fin 3) k, k < 12 → k / 4 = w.val → s.fabricRuns = true → s.role (2 + k) ≠ 0 → s.domain (bridgeDom (2 + k)) = .on →
      Completes (.portWaveStart w) s (fun t => (t.br (2 + k)).waveDone = true ∧ w.val ∈ t.pwr.waves ∧ t.br 0 = s.br 0 ∧ t.br 1 = s.br 1))
  ∧ (∀ k : Fin 12, s.role (2 + k.val) = 1 → (s.br (2 + k.val)).waveDone = true → s.domain (bridgeDom (2 + k.val)) = .on → s.fabricRuns = true → (s.br (2 + k.val)).disabled = false →
      (s.br (2 + k.val)).contained = false → (s.br (2 + k.val)).state = .idle → Completes (.perstDelayExpiry k) s (fun t => (t.br (2 + k.val)).perstOut = false ∧ (t.br (2 + k.val)).state = .training))
  ∧ (∀ k : Fin 12, Completes (.pbPerstDeassert k) s (fun t => (t.br (2 + k.val)).perst = false ∧ (∀ c, c ≠ 2 + k.val → t.br c = s.br c) ∧ t.nis = s.nis))

/-- R439, R444 to R450, R455 to R459, R463, R560: accesses that a PCIe partner makes. CONFIG_REQUEST, BAR0_ACCESS, BAR4_ACCESS, FLUSH, EX_LOAD, EX_STORE, HOST_BAR2_ACCESS.
Readings of the model that it rests on: log 39, 42, 43, 44, 108. -/
def Obligations.PcieInbound : Prop :=
  ∀ (s : State) (b : BridgeId),
  (∀ wr reg v tag, s.cfgReady b.val = false → Completes (.configRequest b wr reg v tag) s (fun t => t = s.tlp b.val (.cpl tag .rrs false [])))
  ∧ (∀ reg v tag, s.cfgReady b.val = true → s.role b.val = 2 → Completes (.configRequest b false reg v tag) s (fun t => t = s.tlp b.val (.cpl tag .sc false (leBytes (s.cfgRead b.val reg) 4))))
  ∧ (∀ v tag, s.cfgReady b.val = true → s.role b.val = 2 → Completes (.configRequest b true 1 v tag) s (fun t => (t.br b.val).bme = bitAt (v % 2 ^ 32) 2
      ∧ (t.br b.val).out = (s.br b.val).out ++ [.cpl tag .sc false []] ∧ (∀ c, c ≠ b.val → t.br c = s.br c) ∧ t.dict = s.dict))
  ∧ (s.linkCarries b.val = true → s.ob (brIdx b.val) 8 = 2 →
      (∀ a : BarAccess, b.val < 2 → a.form = .memory → s.fabricRuns = true → (s.br b.val).d3 = false → a.write = true → a.offset < 0x800000 → a.offset % 0x100000 + max 1 a.data.length ≤ 0x50000 →
        Completes (.bar0Access b a) s (fun t => OnlyNi s t (niOfBridge b.val) ∧ (t.br b.val).nextIn = (s.br b.val).nextIn + 1
          ∧ ∃ x, (t.ni (niOfBridge b.val)).inbox = (s.ni (niOfBridge b.val)).inbox ++ [x] ∧ x.kind = .write ∧ x.data = a.data
              ∧ x.direct = some (mkFa 1 (niOfDm (a.offset / 0x100000)) (a.offset % 0x100000), s.ob (brIdx b.val) 9)))
      ∧ (∀ a : BarAccess, b.val < 2 → a.form = .memory → s.dev ≠ .halted → (s.br b.val).d3 = false → a.write = true → a.offset + max 1 a.data.length ≤ 2 ^ (s.br b.val).bar4 →
        Completes (.bar4Access b a) s (fun t => OnlyNi s t (niOfBridge b.val) ∧ ∃ x, (t.ni (niOfBridge b.val)).inbox = (s.ni (niOfBridge b.val)).inbox ++ [x] ∧ x.kind = .write
          ∧ x.addr = a.offset ∧ x.data = a.data ∧ x.direct = none))
      ∧ (∀ (hb : Fin 2) (a : BarAccess), b.val = hb.val → a.form = .memory → (s.br b.val).d3 = false → a.write = false → a.offset + 8 ≤ 2 ^ 26 → a.len = 8 → a.offset % 8 = 0 →
        Completes (.hostBar2Access hb a) s (fun t => OnlyNi s t (niOfBridge b.val) ∧ t.dict = s.dict ∧ ∃ x, (t.ni (niOfBridge b.val)).inbox = (s.ni (niOfBridge b.val)).inbox ++ [x]
          ∧ x.kind = .mgmtRead ∧ x.len = 8 ∧ x.direct = some (mkFa 0 43 a.offset, 0))))
  ∧ (∀ a : BarAccess, s.linkCarries b.val = true → a.form ≠ .memory → ∀ c ∈ [Instr.bar0Access b a, .bar4Access b a], Completes c s (fun t =>
      (t.br b.val).out = (s.br b.val).out ++ [.cpl a.tag .ur false []] ∧ t.nis = s.nis))
  ∧ (s.linkCarries b.val = true → s.bridgeFenced b.val = false → s.localServed = true → (s.br b.val).d3 = false → ∀ tag, Completes (.flush b tag) s (fun t => OnlyNi s t (niOfBridge b.val)
      ∧ ∃ x, (t.ni (niOfBridge b.val)).inbox = (s.ni (niOfBridge b.val)).inbox ++ [x] ∧ x.kind = .barFull))
  ∧ (∀ (slot : Fin 16) len tag, s.linkCarries b.val = true → s.bridgeFenced b.val = false → s.fabricRuns = true → (s.br b.val).d3 = false → len = (s.exSlot b.val slot.val).bytes → Completes (.exLoad b slot len tag) s (fun t =>
      (t.br b.val).simple = (s.br b.val).simple ∧ OnlyNi s t (niOfBridge b.val)
        ∧ ∃ pre x, (t.ni (niOfBridge b.val)).inbox = (s.ni (niOfBridge b.val)).inbox ++ pre ++ [x] ∧ pre = (if s.ob (brIdx b.val) 8 = 2 then [] else [{ kind := .barW }]) ∧ x.kind = .ldres ∧ x.addr = (s.exSlot b.val slot.val).addr ∧ x.len = len))
  ∧ (∀ (slot : Fin 16) data, s.linkCarries b.val = true → s.bridgeFenced b.val = false → s.fabricRuns = true → (s.br b.val).d3 = false → data.length = (s.exSlot b.val slot.val).bytes → (s.exSlot b.val slot.val).state ≠ 1 →
      (s.br b.val).simple = none → Completes (.exStore b slot data) s (fun t => (t.exSlot b.val slot.val).state = 1 ∧ Counts s t (brIdx b.val) 0x1C ∧ OnlyNi s t (niOfBridge b.val)
        ∧ ∃ pre x, (t.ni (niOfBridge b.val)).inbox = (s.ni (niOfBridge b.val)).inbox ++ pre ++ [x] ∧ (∀ y ∈ pre, y.kind = .barW) ∧ (s.ob (brIdx b.val) 8 = 2 → pre = []) ∧ x.kind = .stcond ∧ x.addr = (s.exSlot b.val slot.val).addr ∧ x.data = data))
  ∧ (∀ (slot : Fin 16) data, s.linkCarries b.val = true → s.bridgeFenced b.val = false → (s.exSlot b.val slot.val).state = 1 → data.length = (s.exSlot b.val slot.val).bytes → Completes (.exStore b slot data) s (fun t =>
      t.nis = s.nis ∧ Counts s t (brIdx b.val) 0x17))
  ∧ (∀ (slot : Fin 16) len tag, s.linkCarries b.val = true → s.bridgeFenced b.val = true → s.fabricRuns = true → (s.br b.val).d3 = false → Completes (.exLoad b slot len tag) s (fun t =>
      (t.br b.val).out = (s.br b.val).out ++ [.cpl tag .ca false []] ∧ Counts s t (brIdx b.val) 0x18 ∧ t.ob (brIdx b.val) 0x19 = 5 <<< 60 ||| (s.exSlot b.val slot.val).addr % 2 ^ 48 ∧ t.nis = s.nis))
  ∧ (∀ a : BarAccess, b.val < 2 → s.linkCarries b.val = true → a.form = .memory → a.write = false → a.len = 8 → a.offset = 0xF01000 → s.localServed = true → s.bridgeFenced b.val = false → (s.br b.val).d3 = false →
      (s.ob (brIdx b.val) 8 = 2 → Completes (.bar0Access b a) s (fun t => t.nis = s.nis
        ∧ (t.br b.val).out = (s.br b.val).out ++ [.cpl a.tag .sc false (padTo 8 (s.msixPba b.val 0 8))]))
      ∧ (s.ob (brIdx b.val) 8 = 0 → Completes (.bar0Access b a) s (fun t => OnlyNi s t (niOfBridge b.val) ∧ (t.br b.val).out = (s.br b.val).out
        ∧ ∃ x, (t.ni (niOfBridge b.val)).inbox = (s.ni (niOfBridge b.val)).inbox ++ [x] ∧ x.kind = .barW)))

/-- R451 to R454, R463 to R469: interrupts and requests toward the PCIe partner. INT_TRIGGER, MSIX_SEND, BRIDGE_OUTBOUND_REQUEST, PCIE_COMPLETION, CPL_TIMEOUT_EXPIRY,
POSTED_CREDIT_RETURN, DATA_LINK_LAYER_ACCEPT, CFG_DATA_READ, CFG_DATA_WRITE. The partner's posted credits are a free value.
Readings of the model that it rests on: log 38, 41, 109. -/
def Obligations.PcieOutbound : Prop :=
  ∀ (s : State) (b : BridgeId),
  (∀ v, v < s.vectors b.val → v < 255 → (s.br b.val).pending = [] → Completes (.intTrigger b v false) s (fun t =>
      (t.br b.val).pending = [(v, ((s.br b.val).outQ.filter sendsMwr).length)] ∧ (∀ c, c ≠ b.val → t.br c = s.br c) ∧ t.dict = s.dict))
  ∧ (∀ v fromPcie, (fromPcie = true ∨ 256 ≤ v ∨ v = 255) → Completes (.intTrigger b v fromPcie) s (fun t => Counts s t (brIdx b.val) 0x1B ∧ t.bridges = s.bridges))
  ∧ (∀ p, (s.br b.val).pending.find? (s.br b.val).sendable = some p → Completes (.msixSend b) s (fun t => (t.br b.val).pending = (s.br b.val).pending.erase p
      ∧ (t.br b.val).out = (s.br b.val).out ++ [.mwr (sget {} (s.br b.val).msix p.1).addr (leBytes (sget {} (s.br b.val).msix p.1).data 4)] ∧ Counts s t (brIdx b.val) 0x1A))
  ∧ ((s.br b.val).pending.find? (s.br b.val).sendable = none → Completes (.msixSend b) s (fun t => t = s))
  ∧ (∀ p rest i, (s.br b.val).outQ = p :: rest → p.hdr.opcode = 0x01 → (s.br b.val).state = .up → (s.br b.val).bme = true → (s.br b.val).d3 = false → (s.br b.val).freeSlot = some i →
      Completes (.bridgeOutboundRequest b) s (fun t => (t.br b.val).outQ = rest ∧ sfind (t.br b.val).slots i = some { pkt := p }
        ∧ (t.br b.val).out = (s.br b.val).out ++ [.mrd (s.outAddr b.val p.hdr.fa) p.hdr.len ((s.br b.val).tagOf i)] ∧ t.nis = s.nis))
  ∧ (∀ p rest, (s.br b.val).outQ = p :: rest → p.hdr.opcode = 0x02 → (s.br b.val).state = .up → (s.br b.val).bme = true → (s.br b.val).d3 = false → (s.br b.val).credits = true →
      Completes (.bridgeOutboundRequest b) s (fun t => (t.br b.val).outQ = rest ∧ (t.br b.val).dll = (s.br b.val).dll ++ [p] ∧ (t.br b.val).credits = Config.freeBit s.free
        ∧ (∃ l : List (Nat × Bytes), (t.br b.val).out = (s.br b.val).out ++ l.map (fun x => .mwr x.1 x.2) ∧ l.flatMap (·.2) = payloadOf p ∧ (∀ x ∈ l, x.2.length ≤ s.maxPayload b.val)
            ∧ (l.head?.map (·.1)) = some (s.outAddr b.val p.hdr.fa) ∧ (∀ i x y, l[i]? = some x → l[i + 1]? = some y → y.1 = x.1 + x.2.length))
        ∧ t.nis = s.nis))
  ∧ (∀ tag data x, sfind (s.br b.val).slots (tag % 512) = some x → bitAt tag 9 = (s.br b.val).gens.contains (tag % 512) → x.pkt.hdr.opcode = 0x01 → data ≠ [] →
      x.data.length + data.length < x.pkt.hdr.len → Completes (.pcieCompletion b tag .sc false data) s (fun t =>
      sfind (t.br b.val).slots (tag % 512) = some { x with data := x.data ++ data } ∧ (∀ j, j ≠ tag % 512 → sfind (t.br b.val).slots j = sfind (s.br b.val).slots j) ∧ t.dict = s.dict ∧ t.nis = s.nis))
  ∧ (∀ tag data x, sfind (s.br b.val).slots (tag % 512) = some x → bitAt tag 9 = (s.br b.val).gens.contains (tag % 512) → (x.pkt.hdr.opcode ≠ 0x01 ∨ x.pkt.hdr.len ≤ x.data.length + data.length) → Completes (.pcieCompletion b tag .sc false data) s (fun t =>
      sfind (t.br b.val).slots (tag % 512) = none ∧ (∀ j, j ≠ tag % 512 → sfind (t.br b.val).slots j = sfind (s.br b.val).slots j) ∧ t.dict = s.dict ∧ OnlyNi s t (niOfBridge b.val)))
  ∧ (∀ tag st ep data, sfind (s.br b.val).slots (tag % 512) = none → Completes (.pcieCompletion b tag st ep data) s (fun t => Counts s t (brIdx b.val) 0x15 ∧ t.nis = s.nis
      ∧ (t.br b.val).slots = (s.br b.val).slots))
  ∧ (∀ (i : Fin 512) x, sfind (s.br b.val).slots i.val = some x → Completes (.cplTimeoutExpiry b i) s (fun t => sfind (t.br b.val).slots i.val = none ∧ (t.br b.val).gens = toggle (s.br b.val).gens i.val
      ∧ Counts s t (brIdx b.val) 0x14 ∧ OnlyNi s t (niOfBridge b.val)))
  ∧ Completes (.postedCreditReturn b) s (fun t => t.br b.val = { s.br b.val with credits := true } ∧ (∀ c, c ≠ b.val → t.br c = s.br c) ∧ t.dict = s.dict ∧ t.nis = s.nis)
  ∧ (∀ p rest, (s.br b.val).dll = p :: rest → Completes (.dataLinkLayerAccept b) s (fun t => t.br b.val = { s.br b.val with dll := rest } ∧ OnlyNi s t (niOfBridge b.val) ∧ t.dict = s.dict))
  ∧ (∀ p rest st data, (s.br b.val).cfgQ = p :: rest → p.hdr.opcode = 0x01 → s.linkCarries b.val = true → s.cfgRoute b.val = .type0 → Completes (.cfgDataRead b st data) s (fun t => (t.br b.val).cfgQ = rest
      ∧ (t.br b.val).out = (s.br b.val).out ++ [.cfg false false ((s.br b.val).cfgAddr % 2 ^ 28) 0 15] ∧ OnlyNi s t (niOfBridge b.val) ∧ t.dict = s.dict))
  ∧ (∀ p rest v st, (s.br b.val).cfgQ = p :: rest → p.hdr.opcode = 0x03 → s.linkCarries b.val = true → s.cfgRoute b.val = .type0 → Completes (.cfgDataWrite b v st) s (fun t => (t.br b.val).cfgQ = rest
      ∧ (t.br b.val).out = (s.br b.val).out ++ [.cfg true false ((s.br b.val).cfgAddr % 2 ^ 28) (fromLe (payloadOf p) % 2 ^ 32)
          (if field (fromLe (payloadOf p)) 35 32 = 0 then 15 else field (fromLe (payloadOf p)) 35 32)]
      ∧ OnlyNi s t (niOfBridge b.val) ∧ t.dict = s.dict))

/-- R491 to R499: Springhead. SPRING_END, SPRINGHEAD_WRITE, SPRING_WAIT, SPRING_CALL, SPRING_RETURN, SPRING_CMP_BR, SPRING_DELAY, SPRING_RAISE (the rows END, SPRINGHEAD_WRITE, WAIT, CALL,
RETURN, CMP_BR, DELAY, RAISE), TRAP_REQUEST, TRAP_BUDGET_EXPIRY.
Readings of the model that it rests on: log 16, 28, 89, 90. -/
def Obligations.SpringheadScripts : Prop :=
  ∀ s : State,
  (∀ c, cmdBad s.scriptLen c = false →
      (s.fetched 0 c = true → Completes (.springEnd c) s (fun t => t.boat = { s.boat with spring := .idle, stack := [] } ∧ t.ob 0x2610 7 = 0 ∧ OnlyIndex s t 0x2610))
      ∧ (∀ v u, s.fetched 1 c = true → springBarred c.index c.sub = false → s.springValue c = (some v, u) →
          u.writeRefused { who := .springhead, index := c.index, sub := c.sub, data := leBytes v (2 ^ c.size) } = none → c.index = 0x1017 →
          Completes (.springheadWrite (.script c)) s (fun t => t.ob 0x1017 c.sub = v % 65536 ∧ t.boat.pc = u.boat.pc + 1 ∧ t.boat.spring = u.boat.spring))
      ∧ (∀ v u up, s.fetched 2 c = true → s.springRead c = (some v, u) → Completes (.springWait c up) s (fun t =>
          t.boat = { u.boat with pc := if condHolds c v = true then u.boat.pc + 1 else if up = true then c.target else u.boat.pc } ∧ t.dict = u.dict))
      ∧ (s.fetched 3 c = true → s.boat.stack.length < 4 → Completes (.springCall c) s (fun t => t.boat = { s.boat with stack := (s.boat.pc + 1) :: s.boat.stack, pc := c.target } ∧ t.dict = s.dict))
      ∧ (s.fetched 3 c = true → 4 ≤ s.boat.stack.length → Completes (.springCall c) s (fun t => t.boat.spring = .idle ∧ t.ob 0x2610 7 = 2))
      ∧ (∀ pc rest, s.fetched 4 c = true → s.boat.stack = pc :: rest → Completes (.springReturn c) s (fun t => t.boat = { s.boat with stack := rest, pc := pc } ∧ t.dict = s.dict))
      ∧ (∀ v u, s.fetched 5 c = true → s.springRead c = (some v, u) → Completes (.springCmpBr c) s (fun t =>
          t.boat = { u.boat with pc := if condHolds c v = true then c.target else u.boat.pc + 1 } ∧ t.dict = u.dict))
      ∧ (s.fetched 6 c = true → Completes (.springDelay c) s (fun t => t = { s with boat := { s.boat with pc := s.boat.pc + 1 } }))
      ∧ (s.fetched 7 c = true → (0x0C03, 0x41, 0) ∉ s.flt.held → s.flt.input.length < 64 → Completes (.springRaise c) s (fun t =>
          t.boat = { s.boat with pc := s.boat.pc + 1 } ∧ Reports s t 0x0C03 c.cond 0x41 0 c.code)))
  ∧ (∀ c, s.fetched 0 c = true → cmdBad s.scriptLen c = true → s.boat.spring = .trap → Completes (.springEnd c) s (fun t => t.boat.spring = .idle ∧ t.ob 0x2610 7 = 1 ∧ Counts s t 0x2610 6))
  ∧ (s.boat.spring = .boot → s.dev = .muster → s.aon.resetting = none → s.ob 0x2610 0xA = 0 → Completes (.springheadWrite .boot) s (fun t => t.ob 0x2610 0xA = 1 ∧ t.boat = s.boat ∧ t.dev = s.dev))
  ∧ (∀ k rest e, s.boat.spring = .idle → s.boat.trapQ = k :: rest → s.boat.vector.find? (fun x => decide (x.1 = k)) = some e → Completes .trapRequest s (fun t =>
      t.boat = { s.boat with trapQ := rest, trapKind := k, stack := [], spring := .trap, pc := e.2 } ∧ Counts s t 0x2610 4))
  ∧ (∀ k rest, s.boat.spring = .idle → s.boat.trapQ = k :: rest → s.boat.vector.find? (fun x => decide (x.1 = k)) = none → Completes .trapRequest s (fun t =>
      t.boat.spring = .idle ∧ t.boat.trapQ = rest ∧ t.ob 0x2610 8 = k ∧ t.ob 0x2610 7 = 0))
  ∧ (s.boat.spring = .trap → (0x0C02, 0x41, 0) ∉ s.flt.held → s.flt.input.length < 64 → Completes .trapBudgetExpiry s (fun t => t.boat.spring = .idle ∧ t.ob 0x2610 7 = 4
      ∧ Reports s t 0x0C02 2 0x41 0 (s.boat.trapKind * 65536 + s.boat.pc % 65536)))

/-- R509, R510, R512, R514, R522, R523: images and the flash. IMAGE_VALIDATION_COMPLETE, LOADER_COMPLETE, HEAT_IMAGE_STAGED, FLASH_OPERATION_COMPLETE, FLASH_TIMEOUT. VALID_TIME is a free value.
A flash write reads staging as it goes, and a START change that came before its last read empties staging then (R526).
A commit write while the image state is VALIDATING is refused (R525): IMAGE_COMMIT.
Readings of the model that it rests on: log 81, 82. -/
def Obligations.ImagesAndFlash : Prop :=
  (∀ s : State,
  (s.img.state = .validating → s.img.slots = [] → Completes .imageValidationComplete s (fun t =>
      match (s.validate s.staged).1 with
      | some e => t.img.state = .empty ∧ t.img.staging = [] ∧ t.ob 0x2603 1 = e.1 ∧ t.ob 0x2603 2 = e.2 ∧ t.ob 0x2602 5 = 0
      | none => t.img = { s.img with state := .validated, buildId := imgBuild s.staged } ∧ t.ob 0x2603 1 = 0 ∧ t.ob 0x2602 3 = imgKind s.staged ∧ t.ob 0x2602 4 = imgGeneration s.staged))
  ∧ (s.img.state ≠ .validating → Completes .imageValidationComplete s (fun t => t = s))
  ∧ (s.img.state = .loading → s.img.loaderDone = false → Completes .loaderComplete s (fun t => t.img.loaderDone = true ∧ t.img.shadow = some (imgTables s.staged)
      ∧ t.boat.cmds = trapCmds (imgBytes s.staged 4)))
  ∧ (s.img.state = .validated → s.ob 0x2602 3 = 2 → Completes .heatImageStaged s (fun t => t = { s with img := { s.img with shadow := some (imgTables s.staged), state := .staged } }))
  ∧ (∀ o, s.boat.flash.op = some o → s.boat.flash.fitted = true → s.b18 = true →
      (o.phase = 0 → o.erase = true → Completes .flashOperationComplete s (fun t => t.boat.flash = { s.boat.flash with mem := flashErase s.boat.flash.mem (slotRecord o.slotB), state := .ready, op := none }
          ∧ t.ob 0x2620 (genSub o.slotB) = 0 ∧ t.ob 0x2620 8 = 0))
      ∧ (o.phase = 2 → Completes .flashOperationComplete s (fun t => t.boat.flash.mem = flashPut s.boat.flash.mem (slotImage o.slotB + o.pos) (slice (s.flashImage o) o.pos 256)
          ∧ t.ob 0x2620 9 = min (o.pos + 256) o.len ∧ t.boat.flash.state = s.boat.flash.state))
      ∧ (o.phase = 3 → s.boat.flash.bytes (slotImage o.slotB) o.len ≠ s.flashImage o → Completes .flashOperationComplete s (fun t =>
          t.boat.flash = { s.boat.flash with state := .ready, op := none } ∧ t.ob 0x2620 8 = 2 ∧ t.img.state = (if s.img.emptying = true then .empty else s.img.state)))
      ∧ (o.phase = 3 → s.boat.flash.bytes (slotImage o.slotB) o.len = s.flashImage o → Completes .flashOperationComplete s (fun t =>
          t.boat.flash = { s.boat.flash with op := some { o with phase := 4, record := slotBytes o.generation (s.flashImage o) } }
          ∧ t.img.state = (if s.img.emptying = true then .empty else s.img.state)))
      ∧ (o.phase = 4 → Completes .flashOperationComplete s (fun t => t.boat.flash.mem = flashPut s.boat.flash.mem (slotRecord o.slotB) o.record ∧ t.boat.flash.state = .ready
          ∧ t.boat.flash.op = none ∧ t.ob 0x2620 (genSub o.slotB) = o.generation)))
  ∧ (∀ o, s.boat.flash.op = some o → Completes .flashTimeout s (fun t => t.boat.flash = { s.boat.flash with state := .error, op := none } ∧ t.ob 0x2620 8 = 1))
  ∧ (s.boat.flash.op = none → Completes .flashTimeout s (fun t => t = s) ∧ Completes .flashOperationComplete s (fun t => t = s)))
  ∧ (∀ (s : State) (p : Path), s.img.state = .validating →
  ¬ Accepted s p 0x2602 2 1 ∧ Completes (.imageCommit p) s (fun t => t.img = s.img ∧ t.boat = s.boat ∧ OnlyIndex s t 0x2012))

/-- R534 to R549, R552, R616: the fault collector takes messages and pins. FAULT_MESSAGE_TAKE, PIN_LATCH, ERROR_PIN_DEASSERT, GRACE_EXPIRY, INJECTION_APPLY.
Readings of the model that it rests on: log 29, 32. -/
def Obligations.FaultReactions : Prop :=
  ∀ s : State,
  (∀ m test rest e, s.flt.input = (m, test) :: rest → m.cls ≠ 3 → (s.policy m.kind).reaction ≤ 1 → (∀ x ∈ s.uncleared, x.state = .raised → x.msg.cls ≠ m.cls) → s.listPlace m = some e → s.aon.resetting = none →
      Completes .faultMessageTake s (fun t => t.flt.input = rest ∧ sfind t.flt.log s.flt.logAt = some m ∧ t.flt.logAt = (s.flt.logAt + 1) % 256 ∧ Counts s t 0x2400 7 ∧ t.dev = s.dev
        ∧ (∀ j, j ≠ e → sfind t.flt.list j = sfind s.flt.list j)
        ∧ sfind t.flt.list e = some { msg := m, state := (if (s.policy m.kind).reaction = 0 then .acknowledged else .raised), level := (s.policy m.kind).reaction, timer := (if 0 < (s.policy m.kind).reaction ∧ (s.policy m.kind).reaction < (s.policy m.kind).next then some (s.policy m.kind).next else none), test := test, pin := (s.policy m.kind).pin }))
  ∧ (∀ m test rest, s.flt.input = (m, test) :: rest → m.cls = 3 → (s.policy m.kind).reaction = 2 → s.uncleared = [] → s.dev ≠ .standby → (s.listPlace m).isSome = true → s.aon.resetting = none →
      Completes .faultMessageTake s (fun t => t.dev = .halted ∧ t.flt.input = rest))
  ∧ (s.flt.input = [] ∨ s.aon.resetting.isSome = true → Completes .faultMessageTake s (fun t => t = s))
  ∧ (∀ (b : Fin 64), s.aon.resetting.isSome = true → Completes (.pinLatch b) s (fun t => t = s))
  ∧ (∀ (b : Fin 64) c r n, s.domain 1 = .on → s.aon.resetting = none → pinKind b.val = some (c, r, n) → c ≠ 3 → sfind s.flt.pins b.val = none → (s.policy (0x1000 + b.val)).reaction ≤ 1 →
      (∀ x ∈ s.uncleared, x.state = .raised → x.msg.cls ≠ c) → Completes (.pinLatch b) s (fun t => b.val ∈ t.flt.pinRaw ∧ t.flt.list = s.flt.list ∧ t.dev = s.dev
        ∧ (sfind t.flt.pins b.val).map (·.msg) = some { time := s.stamp, kind := 0x1000 + b.val, source := 0x47, unit := b.val, cls := c, addr := 0 }))
  ∧ (∀ b : Fin 64, (pinKind b.val = none ∨ s.domain 1 ≠ .on ∨ (b.val = 1 ∧ s.dev = .muster) ∨ (9 ≤ b.val ∧ b.val ≤ 13 ∧ s.aon.pwrGood = false)) → Completes (.pinLatch b) s (fun t => t = s))
  ∧ (∀ b : Fin 64, Completes (.errorPinDeassert b) s (fun t => b.val ∉ t.flt.pinRaw ∧ (∀ j, j ≠ b.val → (j ∈ t.flt.pinRaw ↔ j ∈ s.flt.pinRaw)) ∧ t.flt.pins = s.flt.pins ∧ t.dict = s.dict))
  ∧ (∀ (e : Fin 64) x, sfind s.flt.list e.val = some x → x.state = .raised → x.level = 1 → x.timer = some 2 → s.boat.trapQ.length < 8 →
      Completes (.graceExpiry (.entry e)) s (fun t => sfind t.flt.list e.val = some { x with level := 2, escalated := true, timer := none }
        ∧ t.boat.trapQ = s.boat.trapQ ++ [x.msg.kind] ∧ Counts s t 0x2400 9 ∧ Counts s t 0x2400 0xC))
  ∧ (∀ (b : Fin 64) x, sfind s.flt.pins b.val = some x → x.timer = none → Completes (.graceExpiry (.pin b)) s (fun t => t = s))
  ∧ (s.flt.inject = .armed → field s.flt.injTarget 31 28 = 2 → Completes .injectionApply s (fun t => t.flt.inject = .done ∧ Counts s t 0x2440 5
      ∧ sget 0 (t.clu (field s.flt.injTarget 13 8)).ecc (s.flt.injOffset / 8)
        = min 2 (sget 0 (s.clu (field s.flt.injTarget 13 8)).ecc (s.flt.injOffset / 8) + field s.flt.injTarget 27 26)
      ∧ (t.clu (field s.flt.injTarget 13 8)).mem = (s.clu (field s.flt.injTarget 13 8)).mem))
  ∧ (s.flt.inject ≠ .armed → Completes .injectionApply s (fun t => t = s))

/-- R598, R603 to R608, R613: the Steward's loops, each with its input taken in and in MODE ACT. WARMUP_END, ADAPT_SAMPLE, LINK_SAMPLE, THERMAL_SAMPLE, SCRUB_SAMPLE, IDLE_SAMPLE.
The owner may write THROTTLE_LEVEL only while the thermal loop is not in ACT (R609): OBJECT_WRITE.
Readings of the model that it rests on: log 78. -/
def Obligations.StewardLoops : Prop :=
  (∀ s : State,
  (Completes .warmupEnd s (fun t => t = { s with stw := { s.stw with warmup := false } }))
  ∧ (∀ u r p l, s.loopInput 1 = (u, true) → (r, p) ∈ allDirs → l < 2 → u.stw.warmup = true → Completes .adaptSample s (fun t =>
      sget 0 t.stw.la (8 * r + 2 * p + l) = sget 0 u.stw.la (8 * r + 2 * p + l)
          + ((sget 0 u.stw.qd (8 * r + 2 * p + l) : Nat) - sget 0 u.stw.la (8 * r + 2 * p + l)) / (2 ^ u.ob 0x2501 5 : Nat)
        ∧ t.stw.log = u.stw.log ∧ t.dict = u.dict))
  ∧ (∀ u r p, s.loopInput 2 = (u, true) → (r, p) ∈ allDirs → u.stw.warmup = true → Completes .linkSample s (fun t =>
      sget 0 t.stw.hits (4 * r + p) = (if u.ob 0x2502 3 ≤ sget 0 u.stw.inc (4 * r + p) then sget 0 u.stw.hits (4 * r + p) + 1 else 0)
        ∧ sget 0 t.stw.holdoff (4 * r + p) = sget 0 u.stw.holdoff (4 * r + p) - 1 ∧ t.fabric = u.fabric ∧ t.dict = u.dict))
  ∧ (∀ u, s.loopInput 3 = (u, true) → u.mode 3 = 2 → u.answers 1 = true → u.ob 0x2500 2 = 0 → u.stw.ownerAt = [] → 0 < u.ob 0x2503 5 → u.ob 0x2503 5 < 8 →
      ofTwos 16 (u.ob 0x2503 3) ≤ u.sensor u.hottest → Completes .thermalSample s (fun t => t.ob 0x2503 5 = u.ob 0x2503 5 + 1 ∧ t.fabric = u.fabric))
  ∧ (∀ u k, s.loopInput 4 = (u, true) → k < 24 → u.mode 4 = 2 → u.ob 0x2500 2 = 0 → u.stw.ownerAt = [] → u.stw.warmup = false → u.dev ≠ .easy → u.answers (16 + k) = true →
      u.ob 0x2504 4 < sget 0 u.stw.load k → Completes .scrubSample s (fun t => t.ob (0x4800 + k) 3 = u.ob 0x2504 6 ∧ t.clusters = u.clusters))
  ∧ (∀ u d, s.loopInput 5 = (u, true) → 16 ≤ d → d < 48 → u.mode 5 = 2 → u.answers 1 = true → u.ob 0x2500 2 = 0 → u.stw.ownerAt = [] → u.stw.warmup = false → u.dev ≠ .easy → u.domain d = .on →
      bitAt (u.ob (domIdx d) 3) 30 = true → bitAt (u.ob (domIdx d) 3) 31 = true → u.holds d = false → u.ob 0x2505 3 ≤ sget 0 u.stw.idle d →
      u.targetRefused d (if d < 40 then 2 else 0) = none → Completes .idleSample s (fun t => t.domain d = .fencing
        ∧ t.ob (domIdx d) 2 = if d < 40 then 2 else 0))
  ∧ (∀ c ∈ [(1, Instr.adaptSample), (2, Instr.linkSample), (3, Instr.thermalSample), (4, Instr.scrubSample), (5, Instr.idleSample)], s.mode c.1 = 0 → Completes c.2 s (fun t => t = s)))
  ∧ (∀ (s : State) (p : Path) (v : Nat), v ≤ 8 → s.dict.owner = some p → s.dev ≠ .standby → s.dev ≠ .muster → s.dev ≠ .halted →
  s.answers 1 = true →
  (s.mode 3 = 2 → s.writeRefused { who := .path p, index := 0x2503, sub := 5, data := leBytes v 1 } = some 0x06040043
      ∧ Completes (.objectWrite { path := p, index := 0x2503, sub := 5, data := leBytes v 1 }) s (fun t => t.ob 0x2503 5 = s.ob 0x2503 5))
  ∧ (s.mode 3 ≠ 2 → Completes (.objectWrite { path := p, index := 0x2503, sub := 5, data := leBytes v 1 }) s (fun t => t.ob 0x2503 5 = v ∧ t.clusters = s.clusters)))

/-- R568 to R570: a request, posted or not, for a sleeping domain with WAKE_ON_ACCESS is parked and counted, and the first one parked writes
POWER_TARGET 1 and wakes the domain, which is then WAKING or waits its turn; a resent one that matches a parked packet is discarded by the
proxy and takes no parking place. PROXY_RECEIVE. -/
def Obligations.ProxyParking : Prop :=
  (∀ (s : State) (n : RouterId) (p : Packet) (rest : List Packet),
  (sget {} s.pwr.proxies (niDom n.val)).rx = p :: rest → (opKind p.hdr.opcode = .nonPosted ∨ opKind p.hdr.opcode = .posted) → p.hdr.retx = false → isCopy p = false →
  (s.domain (niDom n.val) = .off ∨ s.domain (niDom n.val) = .retain) → bitAt (s.ob (domIdx (niDom n.val)) 3) 31 = true → niDom n.val ∉ s.pwr.failed →
  (s.dev = .launch ∨ s.dev = .afloat) → (sget {} s.pwr.proxies (niDom n.val)).parked.length < 16 →
  Completes (.proxyReceive n) s (fun t => (sget {} t.pwr.proxies (niDom n.val)).rx = rest
    ∧ (sget {} t.pwr.proxies (niDom n.val)).parked = (sget {} s.pwr.proxies (niDom n.val)).parked ++ [p]
    ∧ Counts s t (domIdx (niDom n.val)) 7
    ∧ ((sget {} s.pwr.proxies (niDom n.val)).parked = [] → t.ob (domIdx (niDom n.val)) 2 = 1
        ∧ (t.domain (niDom n.val) = .waking ∨ niDom n.val ∈ t.pwr.waitWake))))
  ∧ (∀ (s : State) (n : RouterId) (p q : Packet) (rest : List Packet),
  (sget {} s.pwr.proxies (niDom n.val)).rx = p :: rest → p.hdr.retx = true → q ∈ (sget {} s.pwr.proxies (niDom n.val)).parked →
  q.hdr.src = p.hdr.src → q.lane = p.lane → q.hdr.pseq = p.hdr.pseq →
  Completes (.proxyReceive n) s (fun t => t = { s with pwr := { s.pwr with proxies := t.pwr.proxies } }
    ∧ (sget {} t.pwr.proxies (niDom n.val)).rx = rest
    ∧ (sget {} t.pwr.proxies (niDom n.val)).parked = (sget {} s.pwr.proxies (niDom n.val)).parked
    ∧ (∀ d, d ≠ niDom n.val → sget {} t.pwr.proxies d = sget {} s.pwr.proxies d)))

/-- R103, R104: an NMT Reset communication, and a release of ownership by any cause, abort an open transfer with RESULT 0x07 and close it.
R474: a link down at HBx releases a claim held through HBx. NMT_RESET_COMMUNICATION, RELEASE, HB_PERST_ASSERT. -/
def Obligations.ClaimReleases : Prop :=
  (∀ s : State,
  (∀ node, s.named node = true → s.xferState = 1 → Completes (.nmtResetCommunication node) s (fun t => t.xferState = 0 ∧ t.ob 0x2080 5 = 7))
  ∧ (∀ p, s.dict.owner = some p → (s.xferState = 1 ∨ s.xferState = 2) → s.releaseClaim.xferState = 0 ∧ s.releaseClaim.ob 0x2080 5 = 7)
  ∧ (∀ p, Accepted s p 0x2010 2 0 → s.dict.owner = some p → (s.xferState = 1 ∨ s.xferState = 2) →
      Completes (.release p) s (fun t => t.dict.owner = none ∧ t.xferState = 0 ∧ t.ob 0x2080 5 = 7)))
  ∧ (∀ (s : State) (hb : Fin 2), s.dict.owner.bind pathBridge = some hb.val →
  ((s.br hb.val).state = .up ∨ (s.br hb.val).state = .recovery) →
  (∀ final surprise, (s.pcieDown hb.val final surprise).dict.owner = none)
  ∧ Completes (.hbPerstAssert hb) s (fun t => t.dict.owner = none ∧ (t.br hb.val).state = .down))

/-- R110, R121: the PLL. R111, R127, R128, R131, R136: pulses. PLL_LOCK, PLL_LOCK_TIMEOUT, PPS_EDGE, PPS_MISSING, HOLDOVER_LIMIT_EXPIRY.
Readings of the model that it rests on: log 2, 30. -/
def Obligations.PllAndPulses : Prop :=
  (∀ s : State,
  (s.dev = .muster → s.domain 2 = .on → s.cox.pll = false →
      Completes .pllLock s (fun t => t.cox.pll = true ∧ t.cox.state = .unanchored ∧ t.netCount = 0))
  ∧ (s.domain 2 = .on → s.cox.pll = false → (0x0101, 0x40, 0) ∉ s.flt.held → s.flt.input.length < 64 →
      Completes .pllLockTimeout s (fun t => t.cox.pll = false ∧ Reports s t 0x0101 3 0x40 0 0)))
  ∧ (∀ s : State,
  (∀ rising, s.cox.pll = true → s.domain 2 = .on → s.ob 0x2110 1 = 1 → (s.ob 0x2110 2 = 0 ↔ rising = false) →
      Completes (.ppsEdge rising) s (fun t => t = s))
  ∧ (∀ rising, s.cox.pll = true → s.domain 2 = .on → s.ob 0x2110 1 = 1 → (s.ob 0x2110 2 = 0 ↔ rising = true) →
      s.cox.state = .unanchored → s.cox.captured = none → s.cox.reanchor = false →
      Completes (.ppsEdge rising) s (fun t => t.cox.captured = some s.clk.fab ∧ t.cox.state = .unanchored
        ∧ t.cox.edge = some { fab := s.clk.fab, net := s.netCount } ∧ Counts s t 0x2111 1))
  ∧ (∀ rising cap old, s.cox.pll = true → s.domain 2 = .on → s.ob 0x2110 1 = 1 → (s.ob 0x2110 2 = 0 ↔ rising = true) →
      s.cox.state = .unanchored → s.cox.captured = some cap → s.cox.edge = some old → s.cox.qual = true →
      ((s.clk.fab - cap : Nat) : Int) - 3072000000 ≤ 153 → (3072000000 : Int) - (s.clk.fab - cap : Nat) ≤ 153 →
      Completes (.ppsEdge rising) s (fun t => t.cox.state = .anchored ∧ t.cox.missed = 0 ∧ t.cox.phase = 0 ∧ t.cox.pendStep.isSome = true))
  ∧ (s.cox.state = .anchored → s.cox.missed = 0 →
      Completes .ppsMissing s (fun t => t.cox = { s.cox with missed := 1 } ∧ Counts s t 0x2111 2))
  ∧ (s.cox.state = .anchored → s.cox.missed = 1 →
      Completes .ppsMissing s (fun t => t.cox.state = .holdover ∧ t.cox.holdStart = some s.clk.fab))
  ∧ (s.cox.state = .holdover → s.cox.limitHit = false → (0x0103, 0x40, 0) ∉ s.flt.held → s.flt.input.length < 64 →
      Completes .holdoverLimitExpiry s (fun t => t.cox = { s.cox with limitHit := true, sc0StopDue := decide (s.ob 0x2110 5 = 1) }
        ∧ Reports s t 0x0103 2 0x40 0 0)))

/-- R16: a value outside an object's range is refused, and the object keeps its previous value. R92: the outcome of every refused host
write is recorded as its abort code in 0x2012:01 or 0x2012:02 and counted in 0x2012:03 or 0x2012:04. A refused write leaves everything but objects
of the dictionary as it was, an unlock of RST_N that the owner's write breaks (R585) apart; of the objects it touches no other than that
record, and for a write to 0x2080, to a domain's objects or to 0x2620 what those count or record. OBJECT_WRITE. -/
def Obligations.RefusedWrites : Prop :=
  (∀ (s : State) (w : ObjWrite) (o : Obj), w.wf = true → objInfo w.index w.sub = some o → tySize o.ty ≠ 0 → o.acc ≠ .ro → o.acc ≠ .const →
  w.data.length = tySize o.ty → s.rangeOk s.kv w.index w.sub o (fromLe w.data &&& o.keep) = false →
  s.writeRefused { who := .path w.path, index := w.index, sub := w.sub, data := w.data } ≠ none
  ∧ Completes (.objectWrite w) s (fun t => t.kv (shownKey s.kv w.index w.sub) = s.kv (shownKey s.kv w.index w.sub)
      ∧ t = { s with dict := { s.dict with objs := t.dict.objs }, aon := { s.aon with unlockAt := if s.dict.owner = some w.path then none else s.aon.unlockAt } }))
  ∧ (∀ (s : State) (w : ObjWrite) (c : Nat), w.path ≠ .can →
  s.writeRefused { who := .path w.path, index := w.index, sub := w.sub, data := w.data } = some c →
  Completes (.objectWrite w) s (fun t => t.ob 0x2012 (if w.path = .hb0 then 1 else 2) = c ∧ Counts s t 0x2012 (if w.path = .hb0 then 3 else 4)
    ∧ t = { s with dict := { s.dict with objs := t.dict.objs }, aon := { s.aon with unlockAt := if s.dict.owner = some w.path then none else s.aon.unlockAt } }
    ∧ (∀ k, keyIdx k ≠ 0x2012 → (w.index = 0x2080 → keyIdx k ≠ 0x2080) → (0x2210 ≤ w.index → w.index ≤ 0x2241 → keyIdx k ≠ 0x2200) → (w.index = 0x2620 → keyIdx k ≠ 0x2620) →
        t.kv k = s.kv k)))

/-- R490: debug mode ends when 2 is written to 0x2601:04, and at every chip reset, whatever its cause. R482 to R486, R524: a target of the
management matrix grants one transaction of the next master; a grant to another brings a master that waits there nearer to its own turn.
R483, R488, R489: what JTAG may not reach is counted and recorded, and in debug mode it writes REMAP. JTAG_LOCK, RST_N_ASSERT, MATRIX_GRANT.
Readings of the model that it rests on: log 22, 129. -/
def Obligations.MatrixAndDebug : Prop :=
  (∀ s : State,
  (∀ p, Accepted s p 0x2601 4 2 → Completes (.jtagLock p) s (fun t => t.boat.debug = false))
  ∧ (∀ cause, s.aon.resetting = none → s.dev ≠ .standby → (s.beginReset cause).boat.debug = false ∧ (s.beginReset cause).aon.resetting = some cause)
  ∧ (s.aon.rstMasked = false → s.aon.resetting = none → s.dev ≠ .standby → Completes .rstNAssert s (fun t => t.boat.debug = false)))
  ∧ (∀ (s : State) (g : Fin 9) (m : Nat) (q : MatReq),
  (s.boat.next g.val = some (m, q) → m ≠ 4 → Completes (.matrixGrant { target := g }) s (fun t =>
      t.boat.lastGrant g.val = m ∧ sget [] t.boat.asks m = (sget [] s.boat.asks m).tail ∧ (∀ j, j ≠ m → sget [] t.boat.asks j = sget [] s.boat.asks j)
        ∧ (∀ h, h ≠ g.val → t.boat.lastGrant h = s.boat.lastGrant h) ∧ t.dict = s.dict ∧ t.img = s.img))
  ∧ (s.boat.next g.val = none → Completes (.matrixGrant { target := g }) s (fun t => t = s)))
  ∧ (∀ (s : State) (g : Fin 9) (m k : Nat) (q r : MatReq), m < 5 → s.boat.lastGrant g.val < 5 → s.boat.outstanding m = some r → r.target = g.val → s.boat.next g.val = some (k, q) → k ≠ m → k ≠ 4 →
      Completes (.matrixGrant { target := g }) s (fun t => t.boat.outstanding m = some r ∧ (m + 4 - t.boat.lastGrant g.val) % 5 < (m + 4 - s.boat.lastGrant g.val) % 5))
  ∧ (∀ (s : State) (g : Fin 9) (a : JtagAccess), s.boat.outstanding 4 = none → s.boat.next g.val = none →
  (s.boat.debug = false → (a.write = true ∨ matrixDecode s.boat.remap a.addr (a.size * a.beats) ≠ some 4) → Completes (.matrixGrant { target := g, jtag := some a }) s (fun t =>
      t.boat = { s.boat with jtagOut := some none } ∧ Counts s t 0x2600 3 ∧ t.ob 0x2600 4 = 4 * 2 ^ 29 + b2n a.write * 2 ^ 28 + a.addr % 2 ^ 28 ∧ OnlyIndex s t 0x2600))
  ∧ (s.boat.debug = true → a.write = true → a.obj = some (0x2600, 2) → g.val = 2 → matrixDecode s.boat.remap a.addr (a.size * a.beats) = some 2 →
      Completes (.matrixGrant { target := g, jtag := some a }) s (fun t => t.boat.remap = bitAt (fromLe a.data) 0 ∧ t.boat.jtagOut = some (some []) ∧ t.dict = s.dict)))

/-- R411 to R415, R417: a SEND packet opens a frame in a running ring and asks for a receive descriptor. R418 to R420: frames that wait for a
receive descriptor. SEND, SEND_NP, HOLD_TIME_EXPIRY, SEND_NP_HOLD_BOUND.
Readings of the model that it rests on: log 45, 46, 47. -/
def Obligations.FramesAtRings : Prop :=
  (∀ (s : State) (n : RouterId) (e r : Nat) (p : Packet) (rest : List Packet), endpointOf n.val = .dm e →
  (∀ oc ∈ [(0x08, Instr.send n), (0x09, Instr.sendNp n)],
      Welcome s n.val p rest → p.hdr.opcode = oc.1 → faOffset p.hdr.fa = 0x100000 + 0x10000 * r → bitAt (leAt p.hdr.inl 6 1) 0 = true → p.payload.take p.hdr.len ≠ [] →
      (s.eng e).frames = [] → (s.ring e r).state = .running → (s.ring e r).consumer ≠ (s.ring e r).producer →
      Completes oc.2 s (fun t => (t.ni n.val).rx = rest ∧ (t.ring e r).consumer = ((s.ring e r).consumer + 1) % 65536 ∧ OnlyNi s t n.val
        ∧ ∃ f a, (t.eng e).frames = [f] ∧ f.ring = r ∧ f.src = p.hdr.src ∧ f.frameId = leAt p.hdr.inl 4 2 ∧ f.parked = [p.payload.take p.hdr.len]
            ∧ f.want = some (s.ring e r).consumer ∧ (t.ni n.val).inbox = (s.ni n.val).inbox ++ [a] ∧ a.kind = .read ∧ a.len = 32
            ∧ a.addr = mbRing s e r + (s.ring e r).consumer % 2 ^ mbLog s e r * 32)))
  ∧ (∀ (s : State) (e : EngineId) (r : Fin 16),
  (∀ f b, (s.eng e.val).frames = [f] → f.ring = r.val → f.holding = true → f.dead = false → f.buf = some b → f.more = [] → f.last = false → f.nps = [] →
      Completes (.holdTimeExpiry e r) s (fun t => (t.eng e.val).frames = [{ f with dead := true, buf := none, want := none, parked := [], holdBytes := 0, holding := false }]
        ∧ Counts s t (0x4C00 + e.val) 0x45 ∧ OnlyNi s t (niOfDm e.val) ∧ ClosesTruncated s t e.val f b))
  ∧ ((∀ f ∈ (s.eng e.val).frames, f.ring ≠ r.val ∨ f.holding = false) → Completes (.holdTimeExpiry e r) s (fun t => t = s))
  ∧ (∀ f b k p, (s.eng e.val).frames = [f] → f.ring = r.val → f.holding = true → f.dead = false → f.buf = some b → f.more = [] → f.last = true → f.nps = [(k, p)] →
      p.hdr.opcode = 0x09 → pairLane p = true → (s.ring e.val r.val).producer = (s.ring e.val r.val).consumer →
      Completes (.sendNpHoldBound e r) s (fun t => (t.eng e.val).frames = [] ∧ Counts s t (0x4C00 + e.val) 0x45 ∧ OnlyNi s t (niOfDm e.val) ∧ ClosesTruncated s t e.val f b
        ∧ ∃ x, (t.ni (niOfDm e.val)).replies = (s.ni (niOfDm e.val)).replies ++ [x] ∧ x.pkt.hdr.status = 0xC ∧ x.src = p.hdr.src ∧ x.pseq = p.hdr.pseq)))

/-- R119, R128, R258, R265: the stroke boundary. R137, R140, R47: heat changes. STROKE_BOUNDARY, STEP_STROKE, COMMIT_APPLY, HEAT_CHANGE_START,
HEAT_CHANGE_END.
Readings of the model that it rests on: log 1, 19, 87. -/
def Obligations.StrokesAndHeats : Prop :=
  (∀ s : State,
  (s.cox.pll = true → s.cox.pendStep = none → s.cox.sc0StopDue = false → s.cox.stopDue = false → s.img.loaderDone = false →
      s.cox.seconds + 1 < 2 ^ 48 → s.cox.stroke < 1500000 →
      Completes .strokeBoundary s (fun t => t.netStroke = s.netStroke + 1 ∧ t.cox.cycle = 0 ∧ t.cox.strokeLen = 2048 ∧ t.cox.inStep = false
        ∧ t.clk.fab = s.clk.fab + (s.cox.strokeLen - s.cox.cycle)))
  ∧ (∀ step, s.cox.pll = true → s.cox.pendStep = some step → s.cox.sc0StopDue = false → s.cox.stopDue = false → s.img.loaderDone = false →
      Completes .stepStroke s (fun t => t.cox.inStep = true ∧ t.cox.pendStep = none ∧ t.cox.cycle = 0
        ∧ 1024 ≤ t.cox.strokeLen ∧ t.cox.strokeLen ≤ 3071))
  ∧ (s.ob 0x34F0 2 = 1 → s.cox.cycle = 0 →
      Completes .commitApply s (fun t => t.ob 0x3400 1 = s.ob 0x3400 2 ∧ t.ob 0x3401 1 = s.ob 0x3401 2 ∧ t.ob 0x34F0 2 = 0
        ∧ (∀ k, k < 24 → s.domain (16 + k) = .on → sget 0x07246108 t.fabric.clusRank k = s.ob 0x3401 2))))
  ∧ (∀ (s : State) (h : Heat),
  s.cox.armed = some h → s.cox.pll = true → s.cox.cycle = 0 → s.cox.inStep = false → h.at_ = s.netStroke → s.ob 0x2120 5 = 0 →
  (∀ n, (s.ni n).circ = [] ∧ (s.ni n).sc0 = [] ∧ (s.ni n).held = []) →
  (h.start = true → Completes .heatChangeStart s (fun t => t.cox.running = true ∧ t.cox.armed = none ∧ t.ob 0x2120 8 = 1
      ∧ t.fabric.act = (s.img.shadow.getD s.fabric.act) ∧ t.img.state = (if s.flashReads = true then s.img.state else .empty) ∧ t.img.staging = (if s.flashReads = true then s.img.staging else []) ∧ t.dev = if s.dev = .launch then .afloat else s.dev))
  ∧ (h.start = false → s.dev ≠ .easy → Completes .heatChangeEnd s (fun t => t.cox.running = false ∧ t.cox.armed = none ∧ t.ob 0x2120 8 = 1
      ∧ t.fabric.act = s.fabric.act ∧ t.dev = s.dev)))
end

