-- ==== Sys2Proof/Laws/Sparse.lean ====
section
/-! SUPPORT. Laws of sparse tables: what is read after a write, and that every operation keeps the canonical form. -/

namespace Sys2Proof.Machine

variable {α : Type}

theorem sget_sins_same (d : α) (m : SMap α) (k : Nat) (v : α) : sget d (sins m k v) k = v := by
  induction m with
  | nil => simp [sins, sget]
  | cons e m ih =>
    obtain ⟨j, w⟩ := e
    simp only [sins]
    split
    · simp [sget]
    · split
      · simp [sget]
      · rename_i h1 h2; have h3 : ¬ j = k := fun h => h2 h.symm; simp [sget, ih, h3]

theorem sget_sins_other (d : α) (m : SMap α) {k i : Nat} (v : α) (h : i ≠ k) : sget d (sins m k v) i = sget d m i := by
  induction m with
  | nil => simp [sins, sget, h.symm]
  | cons e m ih =>
    obtain ⟨j, w⟩ := e
    simp only [sins]
    split
    · simp [sget, h.symm]
    · split
      · rename_i h1 h2; subst h2; simp [sget, h.symm]
      · simp [sget, ih]

theorem sget_sdel_same (d : α) (m : SMap α) (k : Nat) : sget d (sdel m k) k = d := by
  induction m with
  | nil => rfl
  | cons e m ih =>
    obtain ⟨j, w⟩ := e
    simp only [sdel]
    split
    · exact ih
    · rename_i h; simp [sget, h, ih]

theorem sget_sdel_other (d : α) (m : SMap α) {k i : Nat} (h : i ≠ k) : sget d (sdel m k) i = sget d m i := by
  induction m with
  | nil => rfl
  | cons e m ih =>
    obtain ⟨j, w⟩ := e
    simp only [sdel]
    split
    · rename_i hj; subst hj; simp [sget, ih, h.symm]
    · simp [sget, ih]

theorem sfind_sins_same (m : SMap α) (k : Nat) (v : α) : sfind (sins m k v) k = some v := by
  induction m with
  | nil => simp [sins, sfind]
  | cons e m ih =>
    obtain ⟨j, w⟩ := e
    simp only [sins]
    split
    · simp [sfind]
    · split
      · simp [sfind]
      · rename_i h1 h2; have h3 : ¬ j = k := fun h => h2 h.symm; simp [sfind, ih, h3]

theorem sfind_sins_other (m : SMap α) {k i : Nat} (v : α) (h : i ≠ k) : sfind (sins m k v) i = sfind m i := by
  induction m with
  | nil => simp [sins, sfind, h.symm]
  | cons e m ih =>
    obtain ⟨j, w⟩ := e
    simp only [sins]
    split
    · simp [sfind, h.symm]
    · split
      · rename_i h1 h2; subst h2; simp [sfind, h.symm]
      · simp [sfind, ih]

theorem sfind_sdel_same (m : SMap α) (k : Nat) : sfind (sdel m k) k = none := by
  induction m with
  | nil => rfl
  | cons e m ih =>
    obtain ⟨j, w⟩ := e
    simp only [sdel]
    split
    · exact ih
    · rename_i h; simp [sfind, h, ih]

theorem sfind_sdel_other (m : SMap α) {k i : Nat} (h : i ≠ k) : sfind (sdel m k) i = sfind m i := by
  induction m with
  | nil => rfl
  | cons e m ih =>
    obtain ⟨j, w⟩ := e
    simp only [sdel]
    split
    · rename_i hj; subst hj; simp [sfind, ih, h.symm]
    · simp [sfind, ih]

/-- What a sparse table reads after a store: the value at that number, every other number as before. -/
@[simp] theorem sget_sput_same [DecidableEq α] (d : α) (m : SMap α) (k : Nat) (v : α) : sget d (sput d m k v) k = v := by
  unfold sput; split
  · rename_i h; rw [sget_sdel_same, h]
  · exact sget_sins_same d m k v

theorem sget_sput_other [DecidableEq α] (d : α) (m : SMap α) {k i : Nat} (v : α) (h : i ≠ k) :
    sget d (sput d m k v) i = sget d m i := by
  unfold sput; split
  · exact sget_sdel_other d m h
  · exact sget_sins_other d m v h

@[simp] theorem sget_smod_same [DecidableEq α] (d : α) (m : SMap α) (k : Nat) (f : α → α) :
    sget d (smod d m k f) k = f (sget d m k) := by simp [smod]

theorem sget_smod_other [DecidableEq α] (d : α) (m : SMap α) {k i : Nat} (f : α → α) (h : i ≠ k) :
    sget d (smod d m k f) i = sget d m i := sget_sput_other d m _ h

/-! ### The canonical form -/

/-- Every listed number lies above a bound. -/
def sabove (b : Nat) (m : SMap α) : Prop := ∀ e ∈ m, b < e.1

/-- Rising, read off the front. -/
theorem srising_cons (j : Nat) (w : α) (m : SMap α) : srising ((j, w) :: m) = true ↔ sabove j m ∧ srising m = true := by
  induction m generalizing j w with
  | nil => simp [srising, sabove]
  | cons e m ih =>
    obtain ⟨i, v⟩ := e
    simp only [srising, Bool.and_eq_true, decide_eq_true_eq]
    constructor
    · rintro ⟨h1, h2⟩
      have := (ih i v).mp h2
      refine ⟨?_, h2⟩
      intro e he
      rcases List.mem_cons.mp he with rfl | he
      · exact h1
      · exact Nat.lt_trans h1 (this.1 e he)
    · rintro ⟨h1, h2⟩
      exact ⟨h1 (i, v) (List.mem_cons_self ..), h2⟩

theorem mem_sdel {m : SMap α} {k : Nat} {e : Nat × α} (h : e ∈ sdel m k) : e ∈ m := by
  induction m with
  | nil => simp [sdel] at h
  | cons x m ih =>
    obtain ⟨j, w⟩ := x
    simp only [sdel] at h
    split at h
    · exact List.mem_cons_of_mem _ (ih h)
    · rcases List.mem_cons.mp h with rfl | h
      · exact List.mem_cons_self ..
      · exact List.mem_cons_of_mem _ (ih h)

theorem mem_sins {m : SMap α} {k : Nat} {v : α} {e : Nat × α} (h : e ∈ sins m k v) : e = (k, v) ∨ e ∈ m := by
  induction m with
  | nil => simpa [sins] using h
  | cons x m ih =>
    obtain ⟨j, w⟩ := x
    simp only [sins] at h
    split at h
    · simpa using h
    · split at h
      · rcases List.mem_cons.mp h with rfl | h
        · exact .inl rfl
        · exact .inr (List.mem_cons_of_mem _ h)
      · rcases List.mem_cons.mp h with rfl | h
        · exact .inr (List.mem_cons_self ..)
        · rcases ih h with h | h
          · exact .inl h
          · exact .inr (List.mem_cons_of_mem _ h)

theorem srising_sdel {m : SMap α} (k : Nat) (h : srising m = true) : srising (sdel m k) = true := by
  induction m with
  | nil => rfl
  | cons x m ih =>
    obtain ⟨j, w⟩ := x
    have := (srising_cons j w m).mp h
    simp only [sdel]
    split
    · exact ih this.2
    · exact (srising_cons _ _ _).mpr ⟨fun e he => this.1 e (mem_sdel he), ih this.2⟩

theorem srising_sins {m : SMap α} (k : Nat) (v : α) (h : srising m = true) : srising (sins m k v) = true := by
  induction m with
  | nil => rfl
  | cons x m ih =>
    obtain ⟨j, w⟩ := x
    have hm := (srising_cons j w m).mp h
    simp only [sins]
    split
    · rename_i hk
      refine (srising_cons _ _ _).mpr ⟨?_, h⟩
      intro e he
      rcases List.mem_cons.mp he with rfl | he
      · exact hk
      · exact Nat.lt_trans hk (hm.1 e he)
    · split
      · rename_i hk; subst hk; exact (srising_cons _ _ _).mpr hm
      · rename_i h1 h2
        refine (srising_cons _ _ _).mpr ⟨?_, ih hm.2⟩
        intro e he
        rcases mem_sins he with rfl | he
        · simp; omega
        · exact hm.1 e he

theorem swf_iff [DecidableEq α] (d : α) (m : SMap α) : swf d m = true ↔ srising m = true ∧ ∀ e ∈ m, e.2 ≠ d := by
  simp [swf, List.all_eq_true]

theorem swf_sdel [DecidableEq α] {d : α} {m : SMap α} (k : Nat) (h : swf d m = true) : swf d (sdel m k) = true := by
  rw [swf_iff] at *
  exact ⟨srising_sdel k h.1, fun e he => h.2 e (mem_sdel he)⟩

/-- A store keeps the canonical form. -/
theorem swf_sput [DecidableEq α] {d : α} {m : SMap α} (k : Nat) (v : α) (h : swf d m = true) : swf d (sput d m k v) = true := by
  unfold sput; split
  · exact swf_sdel k h
  · rename_i hv
    rw [swf_iff] at *
    refine ⟨srising_sins k v h.1, fun e he => ?_⟩
    rcases mem_sins he with rfl | he
    · exact hv
    · exact h.2 e he

theorem swf_smod [DecidableEq α] {d : α} {m : SMap α} (k : Nat) (f : α → α) (h : swf d m = true) : swf d (smod d m k f) = true :=
  swf_sput k _ h

theorem srising_filter {m : SMap α} (p : Nat × α → Bool) (h : srising m = true) : srising (m.filter p) = true := by
  induction m with
  | nil => rfl
  | cons x m ih =>
    obtain ⟨j, w⟩ := x
    have hm := (srising_cons j w m).mp h
    simp only [List.filter_cons]
    split
    · exact (srising_cons _ _ _).mpr ⟨fun e he => hm.1 e (List.mem_filter.mp he).1, ih hm.2⟩
    · exact ih hm.2

theorem swf_filter [DecidableEq α] {d : α} {m : SMap α} (p : Nat × α → Bool) (h : swf d m = true) : swf d (m.filter p) = true := by
  rw [swf_iff] at *
  exact ⟨srising_filter p h.1, fun e he => h.2 e (List.mem_filter.mp he).1⟩

end Sys2Proof.Machine
end

