-- ==== Sys2Proof/Laws/State.lean ====
section
/-! SUPPORT. What each update of the state leaves as it was, field by field, and what is read after it. -/

namespace Sys2Proof.Machine

variable (s : State)

/-! ### setNi -/

@[simp] theorem State.setNi_clk (n : Nat) (x : NI) : (s.setNi n x).clk = s.clk := rfl
@[simp] theorem State.setNi_pins (n : Nat) (x : NI) : (s.setNi n x).pins = s.pins := rfl
@[simp] theorem State.setNi_otp (n : Nat) (x : NI) : (s.setNi n x).otp = s.otp := rfl
@[simp] theorem State.setNi_dev (n : Nat) (x : NI) : (s.setNi n x).dev = s.dev := rfl
@[simp] theorem State.setNi_aon (n : Nat) (x : NI) : (s.setNi n x).aon = s.aon := rfl
@[simp] theorem State.setNi_dict (n : Nat) (x : NI) : (s.setNi n x).dict = s.dict := rfl
@[simp] theorem State.setNi_can (n : Nat) (x : NI) : (s.setNi n x).can = s.can := rfl
@[simp] theorem State.setNi_img (n : Nat) (x : NI) : (s.setNi n x).img = s.img := rfl
@[simp] theorem State.setNi_cox (n : Nat) (x : NI) : (s.setNi n x).cox = s.cox := rfl
@[simp] theorem State.setNi_fabric (n : Nat) (x : NI) : (s.setNi n x).fabric = s.fabric := rfl
@[simp] theorem State.setNi_clusters (n : Nat) (x : NI) : (s.setNi n x).clusters = s.clusters := rfl
@[simp] theorem State.setNi_engines (n : Nat) (x : NI) : (s.setNi n x).engines = s.engines := rfl
@[simp] theorem State.setNi_eqs (n : Nat) (x : NI) : (s.setNi n x).eqs = s.eqs := rfl
@[simp] theorem State.setNi_bridges (n : Nat) (x : NI) : (s.setNi n x).bridges = s.bridges := rfl
@[simp] theorem State.setNi_boat (n : Nat) (x : NI) : (s.setNi n x).boat = s.boat := rfl
@[simp] theorem State.setNi_flt (n : Nat) (x : NI) : (s.setNi n x).flt = s.flt := rfl
@[simp] theorem State.setNi_pwr (n : Nat) (x : NI) : (s.setNi n x).pwr = s.pwr := rfl
@[simp] theorem State.setNi_stw (n : Nat) (x : NI) : (s.setNi n x).stw = s.stw := rfl
@[simp] theorem State.setNi_free (n : Nat) (x : NI) : (s.setNi n x).free = s.free := rfl
@[simp] theorem State.setNi_pending (n : Nat) (x : NI) : (s.setNi n x).pending = s.pending := rfl

/-! ### modNi -/

@[simp] theorem State.modNi_clk (n : Nat) (f : NI → NI) : (s.modNi n f).clk = s.clk := rfl
@[simp] theorem State.modNi_pins (n : Nat) (f : NI → NI) : (s.modNi n f).pins = s.pins := rfl
@[simp] theorem State.modNi_otp (n : Nat) (f : NI → NI) : (s.modNi n f).otp = s.otp := rfl
@[simp] theorem State.modNi_dev (n : Nat) (f : NI → NI) : (s.modNi n f).dev = s.dev := rfl
@[simp] theorem State.modNi_aon (n : Nat) (f : NI → NI) : (s.modNi n f).aon = s.aon := rfl
@[simp] theorem State.modNi_dict (n : Nat) (f : NI → NI) : (s.modNi n f).dict = s.dict := rfl
@[simp] theorem State.modNi_can (n : Nat) (f : NI → NI) : (s.modNi n f).can = s.can := rfl
@[simp] theorem State.modNi_img (n : Nat) (f : NI → NI) : (s.modNi n f).img = s.img := rfl
@[simp] theorem State.modNi_cox (n : Nat) (f : NI → NI) : (s.modNi n f).cox = s.cox := rfl
@[simp] theorem State.modNi_fabric (n : Nat) (f : NI → NI) : (s.modNi n f).fabric = s.fabric := rfl
@[simp] theorem State.modNi_clusters (n : Nat) (f : NI → NI) : (s.modNi n f).clusters = s.clusters := rfl
@[simp] theorem State.modNi_engines (n : Nat) (f : NI → NI) : (s.modNi n f).engines = s.engines := rfl
@[simp] theorem State.modNi_eqs (n : Nat) (f : NI → NI) : (s.modNi n f).eqs = s.eqs := rfl
@[simp] theorem State.modNi_bridges (n : Nat) (f : NI → NI) : (s.modNi n f).bridges = s.bridges := rfl
@[simp] theorem State.modNi_boat (n : Nat) (f : NI → NI) : (s.modNi n f).boat = s.boat := rfl
@[simp] theorem State.modNi_flt (n : Nat) (f : NI → NI) : (s.modNi n f).flt = s.flt := rfl
@[simp] theorem State.modNi_pwr (n : Nat) (f : NI → NI) : (s.modNi n f).pwr = s.pwr := rfl
@[simp] theorem State.modNi_stw (n : Nat) (f : NI → NI) : (s.modNi n f).stw = s.stw := rfl
@[simp] theorem State.modNi_free (n : Nat) (f : NI → NI) : (s.modNi n f).free = s.free := rfl
@[simp] theorem State.modNi_pending (n : Nat) (f : NI → NI) : (s.modNi n f).pending = s.pending := rfl

/-! ### setClu -/

@[simp] theorem State.setClu_clk (n : Nat) (x : Cluster) : (s.setClu n x).clk = s.clk := rfl
@[simp] theorem State.setClu_pins (n : Nat) (x : Cluster) : (s.setClu n x).pins = s.pins := rfl
@[simp] theorem State.setClu_otp (n : Nat) (x : Cluster) : (s.setClu n x).otp = s.otp := rfl
@[simp] theorem State.setClu_dev (n : Nat) (x : Cluster) : (s.setClu n x).dev = s.dev := rfl
@[simp] theorem State.setClu_aon (n : Nat) (x : Cluster) : (s.setClu n x).aon = s.aon := rfl
@[simp] theorem State.setClu_dict (n : Nat) (x : Cluster) : (s.setClu n x).dict = s.dict := rfl
@[simp] theorem State.setClu_can (n : Nat) (x : Cluster) : (s.setClu n x).can = s.can := rfl
@[simp] theorem State.setClu_img (n : Nat) (x : Cluster) : (s.setClu n x).img = s.img := rfl
@[simp] theorem State.setClu_cox (n : Nat) (x : Cluster) : (s.setClu n x).cox = s.cox := rfl
@[simp] theorem State.setClu_fabric (n : Nat) (x : Cluster) : (s.setClu n x).fabric = s.fabric := rfl
@[simp] theorem State.setClu_nis (n : Nat) (x : Cluster) : (s.setClu n x).nis = s.nis := rfl
@[simp] theorem State.setClu_engines (n : Nat) (x : Cluster) : (s.setClu n x).engines = s.engines := rfl
@[simp] theorem State.setClu_eqs (n : Nat) (x : Cluster) : (s.setClu n x).eqs = s.eqs := rfl
@[simp] theorem State.setClu_bridges (n : Nat) (x : Cluster) : (s.setClu n x).bridges = s.bridges := rfl
@[simp] theorem State.setClu_boat (n : Nat) (x : Cluster) : (s.setClu n x).boat = s.boat := rfl
@[simp] theorem State.setClu_flt (n : Nat) (x : Cluster) : (s.setClu n x).flt = s.flt := rfl
@[simp] theorem State.setClu_pwr (n : Nat) (x : Cluster) : (s.setClu n x).pwr = s.pwr := rfl
@[simp] theorem State.setClu_stw (n : Nat) (x : Cluster) : (s.setClu n x).stw = s.stw := rfl
@[simp] theorem State.setClu_free (n : Nat) (x : Cluster) : (s.setClu n x).free = s.free := rfl
@[simp] theorem State.setClu_pending (n : Nat) (x : Cluster) : (s.setClu n x).pending = s.pending := rfl

/-! ### modClu -/

@[simp] theorem State.modClu_clk (n : Nat) (f : Cluster → Cluster) : (s.modClu n f).clk = s.clk := rfl
@[simp] theorem State.modClu_pins (n : Nat) (f : Cluster → Cluster) : (s.modClu n f).pins = s.pins := rfl
@[simp] theorem State.modClu_otp (n : Nat) (f : Cluster → Cluster) : (s.modClu n f).otp = s.otp := rfl
@[simp] theorem State.modClu_dev (n : Nat) (f : Cluster → Cluster) : (s.modClu n f).dev = s.dev := rfl
@[simp] theorem State.modClu_aon (n : Nat) (f : Cluster → Cluster) : (s.modClu n f).aon = s.aon := rfl
@[simp] theorem State.modClu_dict (n : Nat) (f : Cluster → Cluster) : (s.modClu n f).dict = s.dict := rfl
@[simp] theorem State.modClu_can (n : Nat) (f : Cluster → Cluster) : (s.modClu n f).can = s.can := rfl
@[simp] theorem State.modClu_img (n : Nat) (f : Cluster → Cluster) : (s.modClu n f).img = s.img := rfl
@[simp] theorem State.modClu_cox (n : Nat) (f : Cluster → Cluster) : (s.modClu n f).cox = s.cox := rfl
@[simp] theorem State.modClu_fabric (n : Nat) (f : Cluster → Cluster) : (s.modClu n f).fabric = s.fabric := rfl
@[simp] theorem State.modClu_nis (n : Nat) (f : Cluster → Cluster) : (s.modClu n f).nis = s.nis := rfl
@[simp] theorem State.modClu_engines (n : Nat) (f : Cluster → Cluster) : (s.modClu n f).engines = s.engines := rfl
@[simp] theorem State.modClu_eqs (n : Nat) (f : Cluster → Cluster) : (s.modClu n f).eqs = s.eqs := rfl
@[simp] theorem State.modClu_bridges (n : Nat) (f : Cluster → Cluster) : (s.modClu n f).bridges = s.bridges := rfl
@[simp] theorem State.modClu_boat (n : Nat) (f : Cluster → Cluster) : (s.modClu n f).boat = s.boat := rfl
@[simp] theorem State.modClu_flt (n : Nat) (f : Cluster → Cluster) : (s.modClu n f).flt = s.flt := rfl
@[simp] theorem State.modClu_pwr (n : Nat) (f : Cluster → Cluster) : (s.modClu n f).pwr = s.pwr := rfl
@[simp] theorem State.modClu_stw (n : Nat) (f : Cluster → Cluster) : (s.modClu n f).stw = s.stw := rfl
@[simp] theorem State.modClu_free (n : Nat) (f : Cluster → Cluster) : (s.modClu n f).free = s.free := rfl
@[simp] theorem State.modClu_pending (n : Nat) (f : Cluster → Cluster) : (s.modClu n f).pending = s.pending := rfl

/-! ### setEng -/

@[simp] theorem State.setEng_clk (n : Nat) (x : Engine) : (s.setEng n x).clk = s.clk := rfl
@[simp] theorem State.setEng_pins (n : Nat) (x : Engine) : (s.setEng n x).pins = s.pins := rfl
@[simp] theorem State.setEng_otp (n : Nat) (x : Engine) : (s.setEng n x).otp = s.otp := rfl
@[simp] theorem State.setEng_dev (n : Nat) (x : Engine) : (s.setEng n x).dev = s.dev := rfl
@[simp] theorem State.setEng_aon (n : Nat) (x : Engine) : (s.setEng n x).aon = s.aon := rfl
@[simp] theorem State.setEng_dict (n : Nat) (x : Engine) : (s.setEng n x).dict = s.dict := rfl
@[simp] theorem State.setEng_can (n : Nat) (x : Engine) : (s.setEng n x).can = s.can := rfl
@[simp] theorem State.setEng_img (n : Nat) (x : Engine) : (s.setEng n x).img = s.img := rfl
@[simp] theorem State.setEng_cox (n : Nat) (x : Engine) : (s.setEng n x).cox = s.cox := rfl
@[simp] theorem State.setEng_fabric (n : Nat) (x : Engine) : (s.setEng n x).fabric = s.fabric := rfl
@[simp] theorem State.setEng_nis (n : Nat) (x : Engine) : (s.setEng n x).nis = s.nis := rfl
@[simp] theorem State.setEng_clusters (n : Nat) (x : Engine) : (s.setEng n x).clusters = s.clusters := rfl
@[simp] theorem State.setEng_eqs (n : Nat) (x : Engine) : (s.setEng n x).eqs = s.eqs := rfl
@[simp] theorem State.setEng_bridges (n : Nat) (x : Engine) : (s.setEng n x).bridges = s.bridges := rfl
@[simp] theorem State.setEng_boat (n : Nat) (x : Engine) : (s.setEng n x).boat = s.boat := rfl
@[simp] theorem State.setEng_flt (n : Nat) (x : Engine) : (s.setEng n x).flt = s.flt := rfl
@[simp] theorem State.setEng_pwr (n : Nat) (x : Engine) : (s.setEng n x).pwr = s.pwr := rfl
@[simp] theorem State.setEng_stw (n : Nat) (x : Engine) : (s.setEng n x).stw = s.stw := rfl
@[simp] theorem State.setEng_free (n : Nat) (x : Engine) : (s.setEng n x).free = s.free := rfl
@[simp] theorem State.setEng_pending (n : Nat) (x : Engine) : (s.setEng n x).pending = s.pending := rfl

/-! ### modEng -/

@[simp] theorem State.modEng_clk (n : Nat) (f : Engine → Engine) : (s.modEng n f).clk = s.clk := rfl
@[simp] theorem State.modEng_pins (n : Nat) (f : Engine → Engine) : (s.modEng n f).pins = s.pins := rfl
@[simp] theorem State.modEng_otp (n : Nat) (f : Engine → Engine) : (s.modEng n f).otp = s.otp := rfl
@[simp] theorem State.modEng_dev (n : Nat) (f : Engine → Engine) : (s.modEng n f).dev = s.dev := rfl
@[simp] theorem State.modEng_aon (n : Nat) (f : Engine → Engine) : (s.modEng n f).aon = s.aon := rfl
@[simp] theorem State.modEng_dict (n : Nat) (f : Engine → Engine) : (s.modEng n f).dict = s.dict := rfl
@[simp] theorem State.modEng_can (n : Nat) (f : Engine → Engine) : (s.modEng n f).can = s.can := rfl
@[simp] theorem State.modEng_img (n : Nat) (f : Engine → Engine) : (s.modEng n f).img = s.img := rfl
@[simp] theorem State.modEng_cox (n : Nat) (f : Engine → Engine) : (s.modEng n f).cox = s.cox := rfl
@[simp] theorem State.modEng_fabric (n : Nat) (f : Engine → Engine) : (s.modEng n f).fabric = s.fabric := rfl
@[simp] theorem State.modEng_nis (n : Nat) (f : Engine → Engine) : (s.modEng n f).nis = s.nis := rfl
@[simp] theorem State.modEng_clusters (n : Nat) (f : Engine → Engine) : (s.modEng n f).clusters = s.clusters := rfl
@[simp] theorem State.modEng_eqs (n : Nat) (f : Engine → Engine) : (s.modEng n f).eqs = s.eqs := rfl
@[simp] theorem State.modEng_bridges (n : Nat) (f : Engine → Engine) : (s.modEng n f).bridges = s.bridges := rfl
@[simp] theorem State.modEng_boat (n : Nat) (f : Engine → Engine) : (s.modEng n f).boat = s.boat := rfl
@[simp] theorem State.modEng_flt (n : Nat) (f : Engine → Engine) : (s.modEng n f).flt = s.flt := rfl
@[simp] theorem State.modEng_pwr (n : Nat) (f : Engine → Engine) : (s.modEng n f).pwr = s.pwr := rfl
@[simp] theorem State.modEng_stw (n : Nat) (f : Engine → Engine) : (s.modEng n f).stw = s.stw := rfl
@[simp] theorem State.modEng_free (n : Nat) (f : Engine → Engine) : (s.modEng n f).free = s.free := rfl
@[simp] theorem State.modEng_pending (n : Nat) (f : Engine → Engine) : (s.modEng n f).pending = s.pending := rfl

/-! ### setEvq -/

@[simp] theorem State.setEvq_clk (n : Nat) (x : EventQ) : (s.setEvq n x).clk = s.clk := rfl
@[simp] theorem State.setEvq_pins (n : Nat) (x : EventQ) : (s.setEvq n x).pins = s.pins := rfl
@[simp] theorem State.setEvq_otp (n : Nat) (x : EventQ) : (s.setEvq n x).otp = s.otp := rfl
@[simp] theorem State.setEvq_dev (n : Nat) (x : EventQ) : (s.setEvq n x).dev = s.dev := rfl
@[simp] theorem State.setEvq_aon (n : Nat) (x : EventQ) : (s.setEvq n x).aon = s.aon := rfl
@[simp] theorem State.setEvq_dict (n : Nat) (x : EventQ) : (s.setEvq n x).dict = s.dict := rfl
@[simp] theorem State.setEvq_can (n : Nat) (x : EventQ) : (s.setEvq n x).can = s.can := rfl
@[simp] theorem State.setEvq_img (n : Nat) (x : EventQ) : (s.setEvq n x).img = s.img := rfl
@[simp] theorem State.setEvq_cox (n : Nat) (x : EventQ) : (s.setEvq n x).cox = s.cox := rfl
@[simp] theorem State.setEvq_fabric (n : Nat) (x : EventQ) : (s.setEvq n x).fabric = s.fabric := rfl
@[simp] theorem State.setEvq_nis (n : Nat) (x : EventQ) : (s.setEvq n x).nis = s.nis := rfl
@[simp] theorem State.setEvq_clusters (n : Nat) (x : EventQ) : (s.setEvq n x).clusters = s.clusters := rfl
@[simp] theorem State.setEvq_engines (n : Nat) (x : EventQ) : (s.setEvq n x).engines = s.engines := rfl
@[simp] theorem State.setEvq_bridges (n : Nat) (x : EventQ) : (s.setEvq n x).bridges = s.bridges := rfl
@[simp] theorem State.setEvq_boat (n : Nat) (x : EventQ) : (s.setEvq n x).boat = s.boat := rfl
@[simp] theorem State.setEvq_flt (n : Nat) (x : EventQ) : (s.setEvq n x).flt = s.flt := rfl
@[simp] theorem State.setEvq_pwr (n : Nat) (x : EventQ) : (s.setEvq n x).pwr = s.pwr := rfl
@[simp] theorem State.setEvq_stw (n : Nat) (x : EventQ) : (s.setEvq n x).stw = s.stw := rfl
@[simp] theorem State.setEvq_free (n : Nat) (x : EventQ) : (s.setEvq n x).free = s.free := rfl
@[simp] theorem State.setEvq_pending (n : Nat) (x : EventQ) : (s.setEvq n x).pending = s.pending := rfl

/-! ### setBr -/

@[simp] theorem State.setBr_clk (n : Nat) (x : Bridge) : (s.setBr n x).clk = s.clk := rfl
@[simp] theorem State.setBr_pins (n : Nat) (x : Bridge) : (s.setBr n x).pins = s.pins := rfl
@[simp] theorem State.setBr_otp (n : Nat) (x : Bridge) : (s.setBr n x).otp = s.otp := rfl
@[simp] theorem State.setBr_dev (n : Nat) (x : Bridge) : (s.setBr n x).dev = s.dev := rfl
@[simp] theorem State.setBr_aon (n : Nat) (x : Bridge) : (s.setBr n x).aon = s.aon := rfl
@[simp] theorem State.setBr_dict (n : Nat) (x : Bridge) : (s.setBr n x).dict = s.dict := rfl
@[simp] theorem State.setBr_can (n : Nat) (x : Bridge) : (s.setBr n x).can = s.can := rfl
@[simp] theorem State.setBr_img (n : Nat) (x : Bridge) : (s.setBr n x).img = s.img := rfl
@[simp] theorem State.setBr_cox (n : Nat) (x : Bridge) : (s.setBr n x).cox = s.cox := rfl
@[simp] theorem State.setBr_fabric (n : Nat) (x : Bridge) : (s.setBr n x).fabric = s.fabric := rfl
@[simp] theorem State.setBr_nis (n : Nat) (x : Bridge) : (s.setBr n x).nis = s.nis := rfl
@[simp] theorem State.setBr_clusters (n : Nat) (x : Bridge) : (s.setBr n x).clusters = s.clusters := rfl
@[simp] theorem State.setBr_engines (n : Nat) (x : Bridge) : (s.setBr n x).engines = s.engines := rfl
@[simp] theorem State.setBr_eqs (n : Nat) (x : Bridge) : (s.setBr n x).eqs = s.eqs := rfl
@[simp] theorem State.setBr_boat (n : Nat) (x : Bridge) : (s.setBr n x).boat = s.boat := rfl
@[simp] theorem State.setBr_flt (n : Nat) (x : Bridge) : (s.setBr n x).flt = s.flt := rfl
@[simp] theorem State.setBr_pwr (n : Nat) (x : Bridge) : (s.setBr n x).pwr = s.pwr := rfl
@[simp] theorem State.setBr_stw (n : Nat) (x : Bridge) : (s.setBr n x).stw = s.stw := rfl
@[simp] theorem State.setBr_free (n : Nat) (x : Bridge) : (s.setBr n x).free = s.free := rfl
@[simp] theorem State.setBr_pending (n : Nat) (x : Bridge) : (s.setBr n x).pending = s.pending := rfl

/-! ### modBr -/

@[simp] theorem State.modBr_clk (n : Nat) (f : Bridge → Bridge) : (s.modBr n f).clk = s.clk := rfl
@[simp] theorem State.modBr_pins (n : Nat) (f : Bridge → Bridge) : (s.modBr n f).pins = s.pins := rfl
@[simp] theorem State.modBr_otp (n : Nat) (f : Bridge → Bridge) : (s.modBr n f).otp = s.otp := rfl
@[simp] theorem State.modBr_dev (n : Nat) (f : Bridge → Bridge) : (s.modBr n f).dev = s.dev := rfl
@[simp] theorem State.modBr_aon (n : Nat) (f : Bridge → Bridge) : (s.modBr n f).aon = s.aon := rfl
@[simp] theorem State.modBr_dict (n : Nat) (f : Bridge → Bridge) : (s.modBr n f).dict = s.dict := rfl
@[simp] theorem State.modBr_can (n : Nat) (f : Bridge → Bridge) : (s.modBr n f).can = s.can := rfl
@[simp] theorem State.modBr_img (n : Nat) (f : Bridge → Bridge) : (s.modBr n f).img = s.img := rfl
@[simp] theorem State.modBr_cox (n : Nat) (f : Bridge → Bridge) : (s.modBr n f).cox = s.cox := rfl
@[simp] theorem State.modBr_fabric (n : Nat) (f : Bridge → Bridge) : (s.modBr n f).fabric = s.fabric := rfl
@[simp] theorem State.modBr_nis (n : Nat) (f : Bridge → Bridge) : (s.modBr n f).nis = s.nis := rfl
@[simp] theorem State.modBr_clusters (n : Nat) (f : Bridge → Bridge) : (s.modBr n f).clusters = s.clusters := rfl
@[simp] theorem State.modBr_engines (n : Nat) (f : Bridge → Bridge) : (s.modBr n f).engines = s.engines := rfl
@[simp] theorem State.modBr_eqs (n : Nat) (f : Bridge → Bridge) : (s.modBr n f).eqs = s.eqs := rfl
@[simp] theorem State.modBr_boat (n : Nat) (f : Bridge → Bridge) : (s.modBr n f).boat = s.boat := rfl
@[simp] theorem State.modBr_flt (n : Nat) (f : Bridge → Bridge) : (s.modBr n f).flt = s.flt := rfl
@[simp] theorem State.modBr_pwr (n : Nat) (f : Bridge → Bridge) : (s.modBr n f).pwr = s.pwr := rfl
@[simp] theorem State.modBr_stw (n : Nat) (f : Bridge → Bridge) : (s.modBr n f).stw = s.stw := rfl
@[simp] theorem State.modBr_free (n : Nat) (f : Bridge → Bridge) : (s.modBr n f).free = s.free := rfl
@[simp] theorem State.modBr_pending (n : Nat) (f : Bridge → Bridge) : (s.modBr n f).pending = s.pending := rfl

/-! ### setKv -/

@[simp] theorem State.setKv_clk (k v : Nat) : (s.setKv k v).clk = s.clk := rfl
@[simp] theorem State.setKv_pins (k v : Nat) : (s.setKv k v).pins = s.pins := rfl
@[simp] theorem State.setKv_otp (k v : Nat) : (s.setKv k v).otp = s.otp := rfl
@[simp] theorem State.setKv_dev (k v : Nat) : (s.setKv k v).dev = s.dev := rfl
@[simp] theorem State.setKv_aon (k v : Nat) : (s.setKv k v).aon = s.aon := rfl
@[simp] theorem State.setKv_can (k v : Nat) : (s.setKv k v).can = s.can := rfl
@[simp] theorem State.setKv_img (k v : Nat) : (s.setKv k v).img = s.img := rfl
@[simp] theorem State.setKv_cox (k v : Nat) : (s.setKv k v).cox = s.cox := rfl
@[simp] theorem State.setKv_fabric (k v : Nat) : (s.setKv k v).fabric = s.fabric := rfl
@[simp] theorem State.setKv_nis (k v : Nat) : (s.setKv k v).nis = s.nis := rfl
@[simp] theorem State.setKv_clusters (k v : Nat) : (s.setKv k v).clusters = s.clusters := rfl
@[simp] theorem State.setKv_engines (k v : Nat) : (s.setKv k v).engines = s.engines := rfl
@[simp] theorem State.setKv_eqs (k v : Nat) : (s.setKv k v).eqs = s.eqs := rfl
@[simp] theorem State.setKv_bridges (k v : Nat) : (s.setKv k v).bridges = s.bridges := rfl
@[simp] theorem State.setKv_boat (k v : Nat) : (s.setKv k v).boat = s.boat := rfl
@[simp] theorem State.setKv_flt (k v : Nat) : (s.setKv k v).flt = s.flt := rfl
@[simp] theorem State.setKv_pwr (k v : Nat) : (s.setKv k v).pwr = s.pwr := rfl
@[simp] theorem State.setKv_stw (k v : Nat) : (s.setKv k v).stw = s.stw := rfl
@[simp] theorem State.setKv_free (k v : Nat) : (s.setKv k v).free = s.free := rfl
@[simp] theorem State.setKv_pending (k v : Nat) : (s.setKv k v).pending = s.pending := rfl
@[simp] theorem State.setKv_dict_owner (k v : Nat) : (s.setKv k v).dict.owner = s.dict.owner := rfl
@[simp] theorem State.setKv_dict_queue (k v : Nat) : (s.setKv k v).dict.queue = s.dict.queue := rfl
@[simp] theorem State.setKv_dict_sdo (k v : Nat) : (s.setKv k v).dict.sdo = s.dict.sdo := rfl
@[simp] theorem State.setKv_dict_latch (k v : Nat) : (s.setKv k v).dict.latch = s.dict.latch := rfl

/-! ### obSet -/

@[simp] theorem State.obSet_clk (i sub v : Nat) : (s.obSet i sub v).clk = s.clk := rfl
@[simp] theorem State.obSet_pins (i sub v : Nat) : (s.obSet i sub v).pins = s.pins := rfl
@[simp] theorem State.obSet_otp (i sub v : Nat) : (s.obSet i sub v).otp = s.otp := rfl
@[simp] theorem State.obSet_dev (i sub v : Nat) : (s.obSet i sub v).dev = s.dev := rfl
@[simp] theorem State.obSet_aon (i sub v : Nat) : (s.obSet i sub v).aon = s.aon := rfl
@[simp] theorem State.obSet_can (i sub v : Nat) : (s.obSet i sub v).can = s.can := rfl
@[simp] theorem State.obSet_img (i sub v : Nat) : (s.obSet i sub v).img = s.img := rfl
@[simp] theorem State.obSet_cox (i sub v : Nat) : (s.obSet i sub v).cox = s.cox := rfl
@[simp] theorem State.obSet_fabric (i sub v : Nat) : (s.obSet i sub v).fabric = s.fabric := rfl
@[simp] theorem State.obSet_nis (i sub v : Nat) : (s.obSet i sub v).nis = s.nis := rfl
@[simp] theorem State.obSet_clusters (i sub v : Nat) : (s.obSet i sub v).clusters = s.clusters := rfl
@[simp] theorem State.obSet_engines (i sub v : Nat) : (s.obSet i sub v).engines = s.engines := rfl
@[simp] theorem State.obSet_eqs (i sub v : Nat) : (s.obSet i sub v).eqs = s.eqs := rfl
@[simp] theorem State.obSet_bridges (i sub v : Nat) : (s.obSet i sub v).bridges = s.bridges := rfl
@[simp] theorem State.obSet_boat (i sub v : Nat) : (s.obSet i sub v).boat = s.boat := rfl
@[simp] theorem State.obSet_flt (i sub v : Nat) : (s.obSet i sub v).flt = s.flt := rfl
@[simp] theorem State.obSet_pwr (i sub v : Nat) : (s.obSet i sub v).pwr = s.pwr := rfl
@[simp] theorem State.obSet_stw (i sub v : Nat) : (s.obSet i sub v).stw = s.stw := rfl
@[simp] theorem State.obSet_free (i sub v : Nat) : (s.obSet i sub v).free = s.free := rfl
@[simp] theorem State.obSet_pending (i sub v : Nat) : (s.obSet i sub v).pending = s.pending := rfl
@[simp] theorem State.obSet_dict_owner (i sub v : Nat) : (s.obSet i sub v).dict.owner = s.dict.owner := rfl
@[simp] theorem State.obSet_dict_queue (i sub v : Nat) : (s.obSet i sub v).dict.queue = s.dict.queue := rfl
@[simp] theorem State.obSet_dict_sdo (i sub v : Nat) : (s.obSet i sub v).dict.sdo = s.dict.sdo := rfl
@[simp] theorem State.obSet_dict_latch (i sub v : Nat) : (s.obSet i sub v).dict.latch = s.dict.latch := rfl

/-! ### bumpBy -/

@[simp] theorem State.bumpBy_clk (i sub v : Nat) : (s.bumpBy i sub v).clk = s.clk := rfl
@[simp] theorem State.bumpBy_pins (i sub v : Nat) : (s.bumpBy i sub v).pins = s.pins := rfl
@[simp] theorem State.bumpBy_otp (i sub v : Nat) : (s.bumpBy i sub v).otp = s.otp := rfl
@[simp] theorem State.bumpBy_dev (i sub v : Nat) : (s.bumpBy i sub v).dev = s.dev := rfl
@[simp] theorem State.bumpBy_aon (i sub v : Nat) : (s.bumpBy i sub v).aon = s.aon := rfl
@[simp] theorem State.bumpBy_can (i sub v : Nat) : (s.bumpBy i sub v).can = s.can := rfl
@[simp] theorem State.bumpBy_img (i sub v : Nat) : (s.bumpBy i sub v).img = s.img := rfl
@[simp] theorem State.bumpBy_cox (i sub v : Nat) : (s.bumpBy i sub v).cox = s.cox := rfl
@[simp] theorem State.bumpBy_fabric (i sub v : Nat) : (s.bumpBy i sub v).fabric = s.fabric := rfl
@[simp] theorem State.bumpBy_nis (i sub v : Nat) : (s.bumpBy i sub v).nis = s.nis := rfl
@[simp] theorem State.bumpBy_clusters (i sub v : Nat) : (s.bumpBy i sub v).clusters = s.clusters := rfl
@[simp] theorem State.bumpBy_engines (i sub v : Nat) : (s.bumpBy i sub v).engines = s.engines := rfl
@[simp] theorem State.bumpBy_eqs (i sub v : Nat) : (s.bumpBy i sub v).eqs = s.eqs := rfl
@[simp] theorem State.bumpBy_bridges (i sub v : Nat) : (s.bumpBy i sub v).bridges = s.bridges := rfl
@[simp] theorem State.bumpBy_boat (i sub v : Nat) : (s.bumpBy i sub v).boat = s.boat := rfl
@[simp] theorem State.bumpBy_flt (i sub v : Nat) : (s.bumpBy i sub v).flt = s.flt := rfl
@[simp] theorem State.bumpBy_pwr (i sub v : Nat) : (s.bumpBy i sub v).pwr = s.pwr := rfl
@[simp] theorem State.bumpBy_stw (i sub v : Nat) : (s.bumpBy i sub v).stw = s.stw := rfl
@[simp] theorem State.bumpBy_free (i sub v : Nat) : (s.bumpBy i sub v).free = s.free := rfl
@[simp] theorem State.bumpBy_pending (i sub v : Nat) : (s.bumpBy i sub v).pending = s.pending := rfl
@[simp] theorem State.bumpBy_dict_owner (i sub v : Nat) : (s.bumpBy i sub v).dict.owner = s.dict.owner := rfl
@[simp] theorem State.bumpBy_dict_queue (i sub v : Nat) : (s.bumpBy i sub v).dict.queue = s.dict.queue := rfl
@[simp] theorem State.bumpBy_dict_sdo (i sub v : Nat) : (s.bumpBy i sub v).dict.sdo = s.dict.sdo := rfl
@[simp] theorem State.bumpBy_dict_latch (i sub v : Nat) : (s.bumpBy i sub v).dict.latch = s.dict.latch := rfl

/-! ### bump -/

@[simp] theorem State.bump_clk (i sub : Nat) : (s.bump i sub).clk = s.clk := rfl
@[simp] theorem State.bump_pins (i sub : Nat) : (s.bump i sub).pins = s.pins := rfl
@[simp] theorem State.bump_otp (i sub : Nat) : (s.bump i sub).otp = s.otp := rfl
@[simp] theorem State.bump_dev (i sub : Nat) : (s.bump i sub).dev = s.dev := rfl
@[simp] theorem State.bump_aon (i sub : Nat) : (s.bump i sub).aon = s.aon := rfl
@[simp] theorem State.bump_can (i sub : Nat) : (s.bump i sub).can = s.can := rfl
@[simp] theorem State.bump_img (i sub : Nat) : (s.bump i sub).img = s.img := rfl
@[simp] theorem State.bump_cox (i sub : Nat) : (s.bump i sub).cox = s.cox := rfl
@[simp] theorem State.bump_fabric (i sub : Nat) : (s.bump i sub).fabric = s.fabric := rfl
@[simp] theorem State.bump_nis (i sub : Nat) : (s.bump i sub).nis = s.nis := rfl
@[simp] theorem State.bump_clusters (i sub : Nat) : (s.bump i sub).clusters = s.clusters := rfl
@[simp] theorem State.bump_engines (i sub : Nat) : (s.bump i sub).engines = s.engines := rfl
@[simp] theorem State.bump_eqs (i sub : Nat) : (s.bump i sub).eqs = s.eqs := rfl
@[simp] theorem State.bump_bridges (i sub : Nat) : (s.bump i sub).bridges = s.bridges := rfl
@[simp] theorem State.bump_boat (i sub : Nat) : (s.bump i sub).boat = s.boat := rfl
@[simp] theorem State.bump_flt (i sub : Nat) : (s.bump i sub).flt = s.flt := rfl
@[simp] theorem State.bump_pwr (i sub : Nat) : (s.bump i sub).pwr = s.pwr := rfl
@[simp] theorem State.bump_stw (i sub : Nat) : (s.bump i sub).stw = s.stw := rfl
@[simp] theorem State.bump_free (i sub : Nat) : (s.bump i sub).free = s.free := rfl
@[simp] theorem State.bump_pending (i sub : Nat) : (s.bump i sub).pending = s.pending := rfl
@[simp] theorem State.bump_dict_owner (i sub : Nat) : (s.bump i sub).dict.owner = s.dict.owner := rfl
@[simp] theorem State.bump_dict_queue (i sub : Nat) : (s.bump i sub).dict.queue = s.dict.queue := rfl
@[simp] theorem State.bump_dict_sdo (i sub : Nat) : (s.bump i sub).dict.sdo = s.dict.sdo := rfl
@[simp] theorem State.bump_dict_latch (i sub : Nat) : (s.bump i sub).dict.latch = s.dict.latch := rfl

/-! ### highWater -/

@[simp] theorem State.highWater_clk (i sub v : Nat) : (s.highWater i sub v).clk = s.clk := rfl
@[simp] theorem State.highWater_pins (i sub v : Nat) : (s.highWater i sub v).pins = s.pins := rfl
@[simp] theorem State.highWater_otp (i sub v : Nat) : (s.highWater i sub v).otp = s.otp := rfl
@[simp] theorem State.highWater_dev (i sub v : Nat) : (s.highWater i sub v).dev = s.dev := rfl
@[simp] theorem State.highWater_aon (i sub v : Nat) : (s.highWater i sub v).aon = s.aon := rfl
@[simp] theorem State.highWater_can (i sub v : Nat) : (s.highWater i sub v).can = s.can := rfl
@[simp] theorem State.highWater_img (i sub v : Nat) : (s.highWater i sub v).img = s.img := rfl
@[simp] theorem State.highWater_cox (i sub v : Nat) : (s.highWater i sub v).cox = s.cox := rfl
@[simp] theorem State.highWater_fabric (i sub v : Nat) : (s.highWater i sub v).fabric = s.fabric := rfl
@[simp] theorem State.highWater_nis (i sub v : Nat) : (s.highWater i sub v).nis = s.nis := rfl
@[simp] theorem State.highWater_clusters (i sub v : Nat) : (s.highWater i sub v).clusters = s.clusters := rfl
@[simp] theorem State.highWater_engines (i sub v : Nat) : (s.highWater i sub v).engines = s.engines := rfl
@[simp] theorem State.highWater_eqs (i sub v : Nat) : (s.highWater i sub v).eqs = s.eqs := rfl
@[simp] theorem State.highWater_bridges (i sub v : Nat) : (s.highWater i sub v).bridges = s.bridges := rfl
@[simp] theorem State.highWater_boat (i sub v : Nat) : (s.highWater i sub v).boat = s.boat := rfl
@[simp] theorem State.highWater_flt (i sub v : Nat) : (s.highWater i sub v).flt = s.flt := rfl
@[simp] theorem State.highWater_pwr (i sub v : Nat) : (s.highWater i sub v).pwr = s.pwr := rfl
@[simp] theorem State.highWater_stw (i sub v : Nat) : (s.highWater i sub v).stw = s.stw := rfl
@[simp] theorem State.highWater_free (i sub v : Nat) : (s.highWater i sub v).free = s.free := rfl
@[simp] theorem State.highWater_pending (i sub v : Nat) : (s.highWater i sub v).pending = s.pending := rfl
@[simp] theorem State.highWater_dict_owner (i sub v : Nat) : (s.highWater i sub v).dict.owner = s.dict.owner := rfl
@[simp] theorem State.highWater_dict_queue (i sub v : Nat) : (s.highWater i sub v).dict.queue = s.dict.queue := rfl
@[simp] theorem State.highWater_dict_sdo (i sub v : Nat) : (s.highWater i sub v).dict.sdo = s.dict.sdo := rfl
@[simp] theorem State.highWater_dict_latch (i sub v : Nat) : (s.highWater i sub v).dict.latch = s.dict.latch := rfl

/-! ### forget -/

@[simp] theorem State.forget_clk (p : Nat → Bool) : (s.forget p).clk = s.clk := rfl
@[simp] theorem State.forget_pins (p : Nat → Bool) : (s.forget p).pins = s.pins := rfl
@[simp] theorem State.forget_otp (p : Nat → Bool) : (s.forget p).otp = s.otp := rfl
@[simp] theorem State.forget_dev (p : Nat → Bool) : (s.forget p).dev = s.dev := rfl
@[simp] theorem State.forget_aon (p : Nat → Bool) : (s.forget p).aon = s.aon := rfl
@[simp] theorem State.forget_can (p : Nat → Bool) : (s.forget p).can = s.can := rfl
@[simp] theorem State.forget_img (p : Nat → Bool) : (s.forget p).img = s.img := rfl
@[simp] theorem State.forget_cox (p : Nat → Bool) : (s.forget p).cox = s.cox := rfl
@[simp] theorem State.forget_fabric (p : Nat → Bool) : (s.forget p).fabric = s.fabric := rfl
@[simp] theorem State.forget_nis (p : Nat → Bool) : (s.forget p).nis = s.nis := rfl
@[simp] theorem State.forget_clusters (p : Nat → Bool) : (s.forget p).clusters = s.clusters := rfl
@[simp] theorem State.forget_engines (p : Nat → Bool) : (s.forget p).engines = s.engines := rfl
@[simp] theorem State.forget_eqs (p : Nat → Bool) : (s.forget p).eqs = s.eqs := rfl
@[simp] theorem State.forget_bridges (p : Nat → Bool) : (s.forget p).bridges = s.bridges := rfl
@[simp] theorem State.forget_boat (p : Nat → Bool) : (s.forget p).boat = s.boat := rfl
@[simp] theorem State.forget_flt (p : Nat → Bool) : (s.forget p).flt = s.flt := rfl
@[simp] theorem State.forget_pwr (p : Nat → Bool) : (s.forget p).pwr = s.pwr := rfl
@[simp] theorem State.forget_stw (p : Nat → Bool) : (s.forget p).stw = s.stw := rfl
@[simp] theorem State.forget_free (p : Nat → Bool) : (s.forget p).free = s.free := rfl
@[simp] theorem State.forget_pending (p : Nat → Bool) : (s.forget p).pending = s.pending := rfl
@[simp] theorem State.forget_dict_owner (p : Nat → Bool) : (s.forget p).dict.owner = s.dict.owner := rfl
@[simp] theorem State.forget_dict_queue (p : Nat → Bool) : (s.forget p).dict.queue = s.dict.queue := rfl
@[simp] theorem State.forget_dict_sdo (p : Nat → Bool) : (s.forget p).dict.sdo = s.dict.sdo := rfl
@[simp] theorem State.forget_dict_latch (p : Nat → Bool) : (s.forget p).dict.latch = s.dict.latch := rfl

/-! ### clearSubs -/

@[simp] theorem State.clearSubs_clk (i lo hi : Nat) : (s.clearSubs i lo hi).clk = s.clk := rfl
@[simp] theorem State.clearSubs_pins (i lo hi : Nat) : (s.clearSubs i lo hi).pins = s.pins := rfl
@[simp] theorem State.clearSubs_otp (i lo hi : Nat) : (s.clearSubs i lo hi).otp = s.otp := rfl
@[simp] theorem State.clearSubs_dev (i lo hi : Nat) : (s.clearSubs i lo hi).dev = s.dev := rfl
@[simp] theorem State.clearSubs_aon (i lo hi : Nat) : (s.clearSubs i lo hi).aon = s.aon := rfl
@[simp] theorem State.clearSubs_can (i lo hi : Nat) : (s.clearSubs i lo hi).can = s.can := rfl
@[simp] theorem State.clearSubs_img (i lo hi : Nat) : (s.clearSubs i lo hi).img = s.img := rfl
@[simp] theorem State.clearSubs_cox (i lo hi : Nat) : (s.clearSubs i lo hi).cox = s.cox := rfl
@[simp] theorem State.clearSubs_fabric (i lo hi : Nat) : (s.clearSubs i lo hi).fabric = s.fabric := rfl
@[simp] theorem State.clearSubs_nis (i lo hi : Nat) : (s.clearSubs i lo hi).nis = s.nis := rfl
@[simp] theorem State.clearSubs_clusters (i lo hi : Nat) : (s.clearSubs i lo hi).clusters = s.clusters := rfl
@[simp] theorem State.clearSubs_engines (i lo hi : Nat) : (s.clearSubs i lo hi).engines = s.engines := rfl
@[simp] theorem State.clearSubs_eqs (i lo hi : Nat) : (s.clearSubs i lo hi).eqs = s.eqs := rfl
@[simp] theorem State.clearSubs_bridges (i lo hi : Nat) : (s.clearSubs i lo hi).bridges = s.bridges := rfl
@[simp] theorem State.clearSubs_boat (i lo hi : Nat) : (s.clearSubs i lo hi).boat = s.boat := rfl
@[simp] theorem State.clearSubs_flt (i lo hi : Nat) : (s.clearSubs i lo hi).flt = s.flt := rfl
@[simp] theorem State.clearSubs_pwr (i lo hi : Nat) : (s.clearSubs i lo hi).pwr = s.pwr := rfl
@[simp] theorem State.clearSubs_stw (i lo hi : Nat) : (s.clearSubs i lo hi).stw = s.stw := rfl
@[simp] theorem State.clearSubs_free (i lo hi : Nat) : (s.clearSubs i lo hi).free = s.free := rfl
@[simp] theorem State.clearSubs_pending (i lo hi : Nat) : (s.clearSubs i lo hi).pending = s.pending := rfl
@[simp] theorem State.clearSubs_dict_owner (i lo hi : Nat) : (s.clearSubs i lo hi).dict.owner = s.dict.owner := rfl
@[simp] theorem State.clearSubs_dict_queue (i lo hi : Nat) : (s.clearSubs i lo hi).dict.queue = s.dict.queue := rfl
@[simp] theorem State.clearSubs_dict_sdo (i lo hi : Nat) : (s.clearSubs i lo hi).dict.sdo = s.dict.sdo := rfl
@[simp] theorem State.clearSubs_dict_latch (i lo hi : Nat) : (s.clearSubs i lo hi).dict.latch = s.dict.latch := rfl

/-! ### modCox -/

@[simp] theorem State.modCox_clk (f : Cox → Cox) : (s.modCox f).clk = s.clk := rfl
@[simp] theorem State.modCox_pins (f : Cox → Cox) : (s.modCox f).pins = s.pins := rfl
@[simp] theorem State.modCox_otp (f : Cox → Cox) : (s.modCox f).otp = s.otp := rfl
@[simp] theorem State.modCox_dev (f : Cox → Cox) : (s.modCox f).dev = s.dev := rfl
@[simp] theorem State.modCox_aon (f : Cox → Cox) : (s.modCox f).aon = s.aon := rfl
@[simp] theorem State.modCox_dict (f : Cox → Cox) : (s.modCox f).dict = s.dict := rfl
@[simp] theorem State.modCox_can (f : Cox → Cox) : (s.modCox f).can = s.can := rfl
@[simp] theorem State.modCox_img (f : Cox → Cox) : (s.modCox f).img = s.img := rfl
@[simp] theorem State.modCox_fabric (f : Cox → Cox) : (s.modCox f).fabric = s.fabric := rfl
@[simp] theorem State.modCox_nis (f : Cox → Cox) : (s.modCox f).nis = s.nis := rfl
@[simp] theorem State.modCox_clusters (f : Cox → Cox) : (s.modCox f).clusters = s.clusters := rfl
@[simp] theorem State.modCox_engines (f : Cox → Cox) : (s.modCox f).engines = s.engines := rfl
@[simp] theorem State.modCox_eqs (f : Cox → Cox) : (s.modCox f).eqs = s.eqs := rfl
@[simp] theorem State.modCox_bridges (f : Cox → Cox) : (s.modCox f).bridges = s.bridges := rfl
@[simp] theorem State.modCox_boat (f : Cox → Cox) : (s.modCox f).boat = s.boat := rfl
@[simp] theorem State.modCox_flt (f : Cox → Cox) : (s.modCox f).flt = s.flt := rfl
@[simp] theorem State.modCox_pwr (f : Cox → Cox) : (s.modCox f).pwr = s.pwr := rfl
@[simp] theorem State.modCox_stw (f : Cox → Cox) : (s.modCox f).stw = s.stw := rfl
@[simp] theorem State.modCox_free (f : Cox → Cox) : (s.modCox f).free = s.free := rfl
@[simp] theorem State.modCox_pending (f : Cox → Cox) : (s.modCox f).pending = s.pending := rfl

/-! ### modFlt -/

@[simp] theorem State.modFlt_clk (f : Faults → Faults) : (s.modFlt f).clk = s.clk := rfl
@[simp] theorem State.modFlt_pins (f : Faults → Faults) : (s.modFlt f).pins = s.pins := rfl
@[simp] theorem State.modFlt_otp (f : Faults → Faults) : (s.modFlt f).otp = s.otp := rfl
@[simp] theorem State.modFlt_dev (f : Faults → Faults) : (s.modFlt f).dev = s.dev := rfl
@[simp] theorem State.modFlt_aon (f : Faults → Faults) : (s.modFlt f).aon = s.aon := rfl
@[simp] theorem State.modFlt_dict (f : Faults → Faults) : (s.modFlt f).dict = s.dict := rfl
@[simp] theorem State.modFlt_can (f : Faults → Faults) : (s.modFlt f).can = s.can := rfl
@[simp] theorem State.modFlt_img (f : Faults → Faults) : (s.modFlt f).img = s.img := rfl
@[simp] theorem State.modFlt_cox (f : Faults → Faults) : (s.modFlt f).cox = s.cox := rfl
@[simp] theorem State.modFlt_fabric (f : Faults → Faults) : (s.modFlt f).fabric = s.fabric := rfl
@[simp] theorem State.modFlt_nis (f : Faults → Faults) : (s.modFlt f).nis = s.nis := rfl
@[simp] theorem State.modFlt_clusters (f : Faults → Faults) : (s.modFlt f).clusters = s.clusters := rfl
@[simp] theorem State.modFlt_engines (f : Faults → Faults) : (s.modFlt f).engines = s.engines := rfl
@[simp] theorem State.modFlt_eqs (f : Faults → Faults) : (s.modFlt f).eqs = s.eqs := rfl
@[simp] theorem State.modFlt_bridges (f : Faults → Faults) : (s.modFlt f).bridges = s.bridges := rfl
@[simp] theorem State.modFlt_boat (f : Faults → Faults) : (s.modFlt f).boat = s.boat := rfl
@[simp] theorem State.modFlt_pwr (f : Faults → Faults) : (s.modFlt f).pwr = s.pwr := rfl
@[simp] theorem State.modFlt_stw (f : Faults → Faults) : (s.modFlt f).stw = s.stw := rfl
@[simp] theorem State.modFlt_free (f : Faults → Faults) : (s.modFlt f).free = s.free := rfl
@[simp] theorem State.modFlt_pending (f : Faults → Faults) : (s.modFlt f).pending = s.pending := rfl

/-! ### modPwr -/

@[simp] theorem State.modPwr_clk (f : Power → Power) : (s.modPwr f).clk = s.clk := rfl
@[simp] theorem State.modPwr_pins (f : Power → Power) : (s.modPwr f).pins = s.pins := rfl
@[simp] theorem State.modPwr_otp (f : Power → Power) : (s.modPwr f).otp = s.otp := rfl
@[simp] theorem State.modPwr_dev (f : Power → Power) : (s.modPwr f).dev = s.dev := rfl
@[simp] theorem State.modPwr_aon (f : Power → Power) : (s.modPwr f).aon = s.aon := rfl
@[simp] theorem State.modPwr_dict (f : Power → Power) : (s.modPwr f).dict = s.dict := rfl
@[simp] theorem State.modPwr_can (f : Power → Power) : (s.modPwr f).can = s.can := rfl
@[simp] theorem State.modPwr_img (f : Power → Power) : (s.modPwr f).img = s.img := rfl
@[simp] theorem State.modPwr_cox (f : Power → Power) : (s.modPwr f).cox = s.cox := rfl
@[simp] theorem State.modPwr_fabric (f : Power → Power) : (s.modPwr f).fabric = s.fabric := rfl
@[simp] theorem State.modPwr_nis (f : Power → Power) : (s.modPwr f).nis = s.nis := rfl
@[simp] theorem State.modPwr_clusters (f : Power → Power) : (s.modPwr f).clusters = s.clusters := rfl
@[simp] theorem State.modPwr_engines (f : Power → Power) : (s.modPwr f).engines = s.engines := rfl
@[simp] theorem State.modPwr_eqs (f : Power → Power) : (s.modPwr f).eqs = s.eqs := rfl
@[simp] theorem State.modPwr_bridges (f : Power → Power) : (s.modPwr f).bridges = s.bridges := rfl
@[simp] theorem State.modPwr_boat (f : Power → Power) : (s.modPwr f).boat = s.boat := rfl
@[simp] theorem State.modPwr_flt (f : Power → Power) : (s.modPwr f).flt = s.flt := rfl
@[simp] theorem State.modPwr_stw (f : Power → Power) : (s.modPwr f).stw = s.stw := rfl
@[simp] theorem State.modPwr_free (f : Power → Power) : (s.modPwr f).free = s.free := rfl
@[simp] theorem State.modPwr_pending (f : Power → Power) : (s.modPwr f).pending = s.pending := rfl

/-! ### matrixAsk -/

@[simp] theorem State.matrixAsk_clk (m t : Nat) (w : Bool) (o n : Nat) : (s.matrixAsk m t w o n).clk = s.clk := rfl
@[simp] theorem State.matrixAsk_pins (m t : Nat) (w : Bool) (o n : Nat) : (s.matrixAsk m t w o n).pins = s.pins := rfl
@[simp] theorem State.matrixAsk_otp (m t : Nat) (w : Bool) (o n : Nat) : (s.matrixAsk m t w o n).otp = s.otp := rfl
@[simp] theorem State.matrixAsk_dev (m t : Nat) (w : Bool) (o n : Nat) : (s.matrixAsk m t w o n).dev = s.dev := rfl
@[simp] theorem State.matrixAsk_aon (m t : Nat) (w : Bool) (o n : Nat) : (s.matrixAsk m t w o n).aon = s.aon := rfl
@[simp] theorem State.matrixAsk_dict (m t : Nat) (w : Bool) (o n : Nat) : (s.matrixAsk m t w o n).dict = s.dict := rfl
@[simp] theorem State.matrixAsk_can (m t : Nat) (w : Bool) (o n : Nat) : (s.matrixAsk m t w o n).can = s.can := rfl
@[simp] theorem State.matrixAsk_img (m t : Nat) (w : Bool) (o n : Nat) : (s.matrixAsk m t w o n).img = s.img := rfl
@[simp] theorem State.matrixAsk_cox (m t : Nat) (w : Bool) (o n : Nat) : (s.matrixAsk m t w o n).cox = s.cox := rfl
@[simp] theorem State.matrixAsk_fabric (m t : Nat) (w : Bool) (o n : Nat) : (s.matrixAsk m t w o n).fabric = s.fabric := rfl
@[simp] theorem State.matrixAsk_nis (m t : Nat) (w : Bool) (o n : Nat) : (s.matrixAsk m t w o n).nis = s.nis := rfl
@[simp] theorem State.matrixAsk_clusters (m t : Nat) (w : Bool) (o n : Nat) : (s.matrixAsk m t w o n).clusters = s.clusters := rfl
@[simp] theorem State.matrixAsk_engines (m t : Nat) (w : Bool) (o n : Nat) : (s.matrixAsk m t w o n).engines = s.engines := rfl
@[simp] theorem State.matrixAsk_eqs (m t : Nat) (w : Bool) (o n : Nat) : (s.matrixAsk m t w o n).eqs = s.eqs := rfl
@[simp] theorem State.matrixAsk_bridges (m t : Nat) (w : Bool) (o n : Nat) : (s.matrixAsk m t w o n).bridges = s.bridges := rfl
@[simp] theorem State.matrixAsk_flt (m t : Nat) (w : Bool) (o n : Nat) : (s.matrixAsk m t w o n).flt = s.flt := rfl
@[simp] theorem State.matrixAsk_pwr (m t : Nat) (w : Bool) (o n : Nat) : (s.matrixAsk m t w o n).pwr = s.pwr := rfl
@[simp] theorem State.matrixAsk_stw (m t : Nat) (w : Bool) (o n : Nat) : (s.matrixAsk m t w o n).stw = s.stw := rfl
@[simp] theorem State.matrixAsk_free (m t : Nat) (w : Bool) (o n : Nat) : (s.matrixAsk m t w o n).free = s.free := rfl
@[simp] theorem State.matrixAsk_pending (m t : Nat) (w : Bool) (o n : Nat) : (s.matrixAsk m t w o n).pending = s.pending := rfl

/-- No object stands in the boot ROM. -/
theorem matrixTarget_ne_zero (i : Nat) : matrixTarget i ≠ 0 := by
  unfold matrixTarget
  dsimp only
  repeat' split
  all_goals omega

/-- The dictionary engine has a path for each access to an object, but for a write to the OTP store, whose objects are read-only (R482). -/
theorem matrixPath_engine (debug write : Bool) (i : Nat) (h : write = true → matrixTarget i ≠ 8) : matrixPath debug 1 (matrixTarget i) write = true := by
  cases write <;> simp_all [matrixPath, matrixTarget_ne_zero]

/-- So has Springhead, which R494 keeps from the objects of that store. -/
theorem matrixPath_springhead (debug write : Bool) (i : Nat) (h : write = true → matrixTarget i ≠ 8) : matrixPath debug 0 (matrixTarget i) write = true := by
  cases write <;> simp_all [matrixPath, matrixTarget_ne_zero]

/-! ### Reading after an update -/

@[simp] theorem State.ni_setNi (n : Nat) (x : NI) : (s.setNi n x).ni n = x := sget_sput_same ..
theorem State.ni_setNi_other {n m : Nat} (x : NI) (h : m ≠ n) : (s.setNi n x).ni m = s.ni m := sget_sput_other _ _ _ h
@[simp] theorem State.ni_modNi (n : Nat) (f : NI → NI) : (s.modNi n f).ni n = f (s.ni n) := sget_sput_same ..
theorem State.ni_modNi_other {n m : Nat} (f : NI → NI) (h : m ≠ n) : (s.modNi n f).ni m = s.ni m := sget_sput_other _ _ _ h
@[simp] theorem State.clu_setClu (n : Nat) (x : Cluster) : (s.setClu n x).clu n = x := sget_sput_same ..
theorem State.clu_setClu_other {n m : Nat} (x : Cluster) (h : m ≠ n) : (s.setClu n x).clu m = s.clu m := sget_sput_other _ _ _ h
@[simp] theorem State.clu_modClu (n : Nat) (f : Cluster → Cluster) : (s.modClu n f).clu n = f (s.clu n) := sget_sput_same ..
theorem State.clu_modClu_other {n m : Nat} (f : Cluster → Cluster) (h : m ≠ n) : (s.modClu n f).clu m = s.clu m := sget_sput_other _ _ _ h
@[simp] theorem State.eng_setEng (n : Nat) (x : Engine) : (s.setEng n x).eng n = x := sget_sput_same ..
theorem State.eng_setEng_other {n m : Nat} (x : Engine) (h : m ≠ n) : (s.setEng n x).eng m = s.eng m := sget_sput_other _ _ _ h
@[simp] theorem State.eng_modEng (n : Nat) (f : Engine → Engine) : (s.modEng n f).eng n = f (s.eng n) := sget_sput_same ..
theorem State.eng_modEng_other {n m : Nat} (f : Engine → Engine) (h : m ≠ n) : (s.modEng n f).eng m = s.eng m := sget_sput_other _ _ _ h
@[simp] theorem State.evq_setEvq (n : Nat) (x : EventQ) : (s.setEvq n x).evq n = x := sget_sput_same ..
theorem State.evq_setEvq_other {n m : Nat} (x : EventQ) (h : m ≠ n) : (s.setEvq n x).evq m = s.evq m := sget_sput_other _ _ _ h
@[simp] theorem State.br_setBr (n : Nat) (x : Bridge) : (s.setBr n x).br n = x := sget_sput_same ..
theorem State.br_setBr_other {n m : Nat} (x : Bridge) (h : m ≠ n) : (s.setBr n x).br m = s.br m := sget_sput_other _ _ _ h
@[simp] theorem State.br_modBr (n : Nat) (f : Bridge → Bridge) : (s.modBr n f).br n = f (s.br n) := sget_sput_same ..
theorem State.br_modBr_other {n m : Nat} (f : Bridge → Bridge) (h : m ≠ n) : (s.modBr n f).br m = s.br m := sget_sput_other _ _ _ h

/-- A stored value is what is read back, whatever the default. -/
@[simp] theorem State.kv_setKv (k v : Nat) : (s.setKv k v).kv k = v := by
  simp only [State.kv, State.setKv]
  by_cases h : v = objDefault s.otp s.pins (keyIdx k) (keySub k)
  · simp [sfind_sdel_same, ← h]
  · simp [if_neg h, sfind_sins_same]

theorem State.kv_setKv_other {k i : Nat} (v : Nat) (h : i ≠ k) : (s.setKv k v).kv i = s.kv i := by
  simp only [State.kv, State.setKv]
  by_cases hv : v = objDefault s.otp s.pins (keyIdx k) (keySub k)
  · simp [if_pos hv, sfind_sdel_other _ h]
  · simp [if_neg hv, sfind_sins_other _ _ h]

@[simp] theorem State.ob_obSet (i sub v : Nat) : (s.obSet i sub v).ob i sub = v := State.kv_setKv ..

theorem State.ob_obSet_other {i sub j t : Nat} (v : Nat) (h : okey j t ≠ okey i sub) : (s.obSet i sub v).ob j t = s.ob j t :=
  State.kv_setKv_other _ _ h

theorem State.kv_obSet_other {i sub k : Nat} (v : Nat) (h : k ≠ okey i sub) : (s.obSet i sub v).kv k = s.kv k :=
  State.kv_setKv_other _ _ h

/-- A counter that counts n events reads its value before plus n, held at its width's greatest. -/
@[simp] theorem State.ob_bumpBy (i sub n : Nat) : (s.bumpBy i sub n).ob i sub = satAdd (counterWidth i sub) (s.ob i sub) n :=
  State.kv_setKv ..

@[simp] theorem State.ob_bump (i sub : Nat) : (s.bump i sub).ob i sub = satAdd (counterWidth i sub) (s.ob i sub) 1 :=
  State.kv_setKv ..

theorem State.ob_bump_other {i sub j t : Nat} (h : okey j t ≠ okey i sub) : (s.bump i sub).ob j t = s.ob j t :=
  State.kv_setKv_other _ _ h

theorem State.ob_bumpBy_other {i sub j t : Nat} (n : Nat) (h : okey j t ≠ okey i sub) : (s.bumpBy i sub n).ob j t = s.ob j t :=
  State.kv_setKv_other _ _ h

/-- Two objects with sub-indices below 256 have the same key only when they are the same. -/
theorem okey_inj {i sub j t : Nat} (hs : sub < 256) (ht : t < 256) : okey i sub = okey j t ↔ i = j ∧ sub = t := by
  simp only [okey]; constructor
  · intro h; omega
  · rintro ⟨rfl, rfl⟩; rfl

/-! ### Answers -/

/-- Every command's answer is a next state that keeps the waiting queue and the OTP. -/
@[simp] theorem done_eq (t : State) : done s t = .next { t with pending := s.pending, otp := s.otp } := rfl

/-- A state that has both already is answered as it is. -/
theorem done_self (t : State) (hp : t.pending = s.pending) (ho : t.otp = s.otp) : done s t = .next t := by
  simp [done, ← hp, ← ho]

end Sys2Proof.Machine
end

