-- ==== Sys2Proof/Laws/Memory.lean ====
section
/-! SUPPORT. Every operation on a memory of the hub keeps its canonical form: the stores of a cluster, the page and sector
operations of the flash, the empty memory, and what updates of the state leave of both. -/

namespace Sys2Proof.Machine

open Sys2Proof.Safety

/-- Writing one byte after another keeps the form. -/
theorem wf_foldl_sput {d : Byte} {at_ : Nat × Byte → Nat} (l : List (Nat × Byte)) {m : List Host.Cell} (h : Memory.wf d m = true) :
    Memory.wf d (l.foldl (fun m x => sput d m (at_ x) x.2) m) = true := by
  induction l generalizing m with
  | nil => exact h
  | cons x l ih => exact ih (swf_sput _ _ h)

theorem store_wf {c : Cluster} (off : Nat) (bs : Bytes) (h : Memory.wf 0 c.mem = true) : Memory.wf 0 (c.store off bs).mem = true :=
  wf_foldl_sput _ h

theorem flashPut_wf {m : List Host.Cell} (addr : Nat) (data : Bytes) (h : Memory.wf 0xFF m = true) : Memory.wf 0xFF (flashPut m addr data) = true :=
  wf_foldl_sput _ h

theorem flashErase_wf {m : List Host.Cell} (addr : Nat) (h : Memory.wf 0xFF m = true) : Memory.wf 0xFF (flashErase m addr) = true :=
  swf_filter _ h

@[simp] theorem wf_nil (d : Byte) : Memory.wf d [] = true := rfl

/-- The form speaks of the clusters and of the flash's bytes alone. -/
theorem canonical_of_eq {s t : State} (hc : t.clusters = s.clusters) (hf : t.boat.flash.mem = s.boat.flash.mem) (h : MemoryCanonical s) :
    MemoryCanonical t := by
  unfold MemoryCanonical State.clu at *
  rw [hc, hf]
  exact h

/-- An update of one cluster keeps the form when the cluster's new memory has it. -/
theorem canonical_setClu {s : State} (k : Nat) {x : Cluster} (hx : Memory.wf 0 x.mem = true) (h : MemoryCanonical s) :
    MemoryCanonical (s.setClu k x) := by
  refine ⟨fun j => ?_, h.2⟩
  by_cases hj : j = k
  · subst hj
    simpa [State.setClu, State.clu] using hx
  · simpa [State.setClu, State.clu, sget_sput_other _ _ _ hj] using h.1 j

theorem canonical_modClu {s : State} (k : Nat) {f : Cluster → Cluster} (hf : Memory.wf 0 (f (s.clu k)).mem = true) (h : MemoryCanonical s) :
    MemoryCanonical (s.modClu k f) := canonical_setClu k hf h

theorem canonical_setFlash {s : State} {f : Flash} (hf : Memory.wf 0xFF f.mem = true) (h : MemoryCanonical s) : MemoryCanonical (s.setFlash f) :=
  ⟨h.1, hf⟩

/-- Reset lists nothing, so the form holds there. -/
theorem canonical_empty {s : State} (hc : s.clusters = []) (hf : s.boat.flash.mem = []) : MemoryCanonical s := by
  unfold MemoryCanonical State.clu
  rw [hc, hf]
  exact ⟨fun _ => rfl, rfl⟩

end Sys2Proof.Machine
end

