-- ==== Sys2Proof/Laws/Ops.lean ====
section
/-! SUPPORT. For each shared operation what it can change, said once: the equation that rebuilds its result from the state
before it and the parts it writes. A proof cites the equation in place of the definition. -/

namespace Sys2Proof.Machine

open Sys2Proof.Safety

variable (s : State)

/-! ### The management bus -/

theorem State.sendFrame_frame (f : CanFrame) :
    s.sendFrame f = { s with can := { s.can with out := if s.can.busOff ∨ s.dev = .standby then s.can.out else s.can.out ++ [f] } } := by
  unfold State.sendFrame; split <;> rfl

theorem State.sdoAbort_frame (i sub code : Nat) : s.sdoAbort i sub code = { s with can := (s.sdoAbort i sub code).can } := by
  unfold State.sdoAbort; rw [State.sendFrame_frame]

theorem State.emcy_frame (code : Nat) (info : Bytes) : s.emcy code info = { s with can := (s.emcy code info).can } := by
  unfold State.emcy
  simp only [State.sendFrame_frame]
  split <;> rfl

theorem State.emcyCleared_frame : s.emcyCleared = { s with can := s.emcyCleared.can } := by
  unfold State.emcyCleared; split
  · rw [State.emcy_frame]
  · rfl

theorem State.collectorEmcy_frame (code : Nat) (info : Bytes) (waits : Bool) :
    s.collectorEmcy code info waits = { s with can := (s.collectorEmcy code info waits).can } := by
  unfold State.collectorEmcy
  split
  · rfl
  · split
    · rw [State.emcy_frame]
    · split <;> rfl

theorem emcys_frame (q : List Emcy) :
    q.foldl (fun s e => s.emcy e.code e.info) s = { s with can := (q.foldl (fun s e => s.emcy e.code e.info) s).can } := by
  induction q generalizing s with
  | nil => rfl
  | cons e q ih =>
    rw [List.foldl_cons, ih, State.emcy_frame]

theorem State.bootUpMessage_frame : s.bootUpMessage = { s with can := s.bootUpMessage.can } := by
  unfold State.bootUpMessage
  simp only [State.sendFrame_frame]
  split
  · rfl
  · rw [emcys_frame]

/-! ### Fault messages -/

/-- A message at the collector's input changes the collector and the count of INPUT_DROPPED, nothing else. -/
theorem State.toCollector_frame (m : FaultMsg) (test : Bool) :
    s.toCollector m test = { s with flt := (s.toCollector m test).flt, dict := { s.dict with objs := (s.toCollector m test).dict.objs } } := by
  unfold State.toCollector
  split
  · rfl
  · dsimp only
    repeat' split
    all_goals rfl

theorem State.toCollector_kv (m : FaultMsg) (test : Bool) {k : Nat} (h : k ≠ okey 0x2400 8) : (s.toCollector m test).kv k = s.kv k := by
  unfold State.toCollector
  split
  · rfl
  · dsimp only
    repeat' split
    all_goals exact State.kv_setKv_other _ _ h

/-- A fault that a block raises changes the collector and the count of INPUT_DROPPED, or the sender's local L7 input, or the
sender NI's queue. -/
theorem State.raise_frame (kind cls source unit addr : Nat) (router : Bool) :
    s.raise kind cls source unit addr router
      = { s with
          flt := (s.raise kind cls source unit addr router).flt
          dict := { s.dict with objs := (s.raise kind cls source unit addr router).dict.objs }
          fabric := { s.fabric with bufs := (s.raise kind cls source unit addr router).fabric.bufs }
          nis := (s.raise kind cls source unit addr router).nis } := by
  unfold State.raise
  split
  · rfl
  · dsimp only
    split
    · rw [State.toCollector_frame]
    · split <;> rfl

theorem State.raise_kv (kind cls source unit addr : Nat) (router : Bool) {k : Nat} (h : k ≠ okey 0x2400 8) :
    (s.raise kind cls source unit addr router).kv k = s.kv k := by
  unfold State.raise
  split
  · rfl
  · dsimp only
    split
    · exact State.toCollector_kv _ _ _ h
    · split <;> rfl

/-- A fault that is held back already is not raised again (R533). -/
theorem State.raise_held (kind cls source unit addr : Nat) (router : Bool) (h : (kind, source, unit) ∈ s.flt.held) :
    s.raise kind cls source unit addr router = s := by
  simp [State.raise, h]

/-! ### Power domains -/

@[simp] theorem State.domain_setDomain (d : Nat) (x : DomainState) : (s.setDomain d x).domain d = x := by
  unfold State.setDomain
  split
  · assumption
  · simp [State.domain, State.modPwr, State.obSet, State.setKv]

theorem State.domain_setDomain_other {d e : Nat} (x : DomainState) (h : e ≠ d) : (s.setDomain d x).domain e = s.domain e := by
  unfold State.setDomain
  split
  · rfl
  · simp [State.domain, State.modPwr, State.obSet, State.setKv, sget_sput_other _ _ _ h]

theorem State.setDomain_frame (d : Nat) (x : DomainState) :
    s.setDomain d x = { s with pwr := { s.pwr with dom := (s.setDomain d x).pwr.dom }, dict := { s.dict with objs := (s.setDomain d x).dict.objs } } := by
  unfold State.setDomain
  split <;> rfl

theorem State.setDomain_kv (d : Nat) (x : DomainState) {k : Nat} (h : k ≠ okey (domIdx d) 9) : (s.setDomain d x).kv k = s.kv k := by
  unfold State.setDomain
  split
  · rfl
  · exact State.kv_setKv_other _ _ h

/-! ### The request queue, late objects, the cluster port, the proxies -/

/-- Queueing a request writes the queue, its arrival notes and the objects of 0x2011, nothing else. -/
theorem State.queueRequest_frame (r : DictReq) :
    s.queueRequest r = { s with dict := { s.dict with queue := s.queueWith r, cameAt := s.mgtCycle, fresh := s.freshCount + 1,
                                                      objs := (s.queueRequest r).dict.objs } } := rfl

/-- A late write stores the object at once and keeps what routers still see. -/
theorem State.putLate_frame (i sub v f : Nat) :
    s.putLate i sub v f = { s with fabric := { s.fabric with late := sins s.fabric.late (okey i sub) (f, s.seenOb i sub) },
                                   dict := { s.dict with objs := (s.putLate i sub v f).dict.objs } } := rfl

/-- A cluster slot that passes changes one cluster's owed grant alone. -/
theorem State.passSlot_frame (k : Nat) : s.passSlot k = { s with clusters := (s.passSlot k).clusters } := by
  unfold State.passSlot; split <;> rfl

/-- A domain whose proxy parked nothing is left as it is when its wake is dropped. -/
theorem State.unpark_none (d : Nat) (h : (sget {} s.pwr.proxies d).parked = []) : s.unpark d = s := by simp [State.unpark, h]

/-- Without waiting domains there is nothing to drop. -/
@[simp] theorem State.dropWakes_nil : s.dropWakes [] = s := rfl

/-- A domain that does not wait keeps its place. -/
theorem State.dropWakes_one (d : Nat) (h : d ∉ s.pwr.waitWake) : s.dropWakes [d] = s := by simp [State.dropWakes, h]

/-! ### Memories under these operations -/

theorem canonical_raise {s : State} (kind cls source unit addr : Nat) (router : Bool) (h : MemoryCanonical s) :
    MemoryCanonical (s.raise kind cls source unit addr router) := by
  rw [State.raise_frame]; exact h

theorem canonical_emcy {s : State} (code : Nat) (info : Bytes) (h : MemoryCanonical s) : MemoryCanonical (s.emcy code info) := by
  rw [State.emcy_frame]; exact h

theorem canonical_setDomain {s : State} (d : Nat) (x : DomainState) (h : MemoryCanonical s) : MemoryCanonical (s.setDomain d x) := by
  rw [State.setDomain_frame]; exact h

end Sys2Proof.Machine
end

