-- ==== Sys2Proof/Laws/Answers.lean ====
section
/-! SUPPORT. What telling the issuers of an access its outcome leaves as it was (Safety.StoresKept), said once for State.finish
and for what it calls, so that the statements about answers need not follow an answer into engines, mailboxes and bridges. -/

namespace Sys2Proof.Safety

open Sys2Proof.Machine

theorem StoresKept.refl (s : State) : StoresKept s s := ⟨rfl, rfl, rfl, rfl, fun _ => ⟨rfl, rfl, rfl, rfl, rfl, rfl⟩, fun _ _ _ => rfl⟩

theorem StoresKept.trans {s t u : State} (h : StoresKept s t) (g : StoresKept t u) : StoresKept s u := by
  obtain ⟨h1, h2, h3, h4, h5, h6⟩ := h
  obtain ⟨g1, g2, g3, g4, g5, g6⟩ := g
  refine ⟨g1.trans h1, g2.trans h2, g3.trans h3, g4.trans h4, fun m => ?_, fun k a b => (g6 k a b).trans (h6 k a b)⟩
  obtain ⟨a1, a2, a3, a4, a5, a6⟩ := h5 m
  obtain ⟨b1, b2, b3, b4, b5, b6⟩ := g5 m
  exact ⟨b1.trans a1, b2.trans a2, b3.trans a3, b4.trans a4, b5.trans a5, b6.trans a6⟩

/-- As trans, with the later step first: it names the state between. -/
theorem StoresKept.after {s t u : State} (g : StoresKept t u) (h : StoresKept s t) : StoresKept s u := h.trans g

theorem StoresKept.foldl {α : Type} {f : State → α → State} (h : ∀ s a, StoresKept s (f s a)) (l : List α) (s : State) :
    StoresKept s (l.foldl f s) := by
  induction l generalizing s with
  | nil => exact .refl s
  | cons a l ih => exact (h s a).trans (ih (f s a))

/-- A step that changes neither clusters, NIs, objects nor what the NIs sent. -/
theorem StoresKept.of_eq {s t : State} (c : t.clusters = s.clusters) (f : t.fabric.fromNi = s.fabric.fromNi) (o : t.otp = s.otp) (p : t.pins = s.pins)
    (n : t.nis = s.nis) (d : t.dict.objs = s.dict.objs) : StoresKept s t := by
  refine ⟨c, f, o, p, fun m => ?_, fun k _ _ => ?_⟩
  · simp [State.ni, n]
  · simp [State.kv, d, o, p]

theorem StoresKept.setNi {s : State} {n : Nat} {x : NI} (h : x.rx = (s.ni n).rx ∧ x.tags = (s.ni n).tags ∧ x.gens = (s.ni n).gens
    ∧ x.pairs = (s.ni n).pairs ∧ x.wins = (s.ni n).wins ∧ x.unreach = (s.ni n).unreach) : StoresKept s (s.setNi n x) := by
  refine ⟨rfl, rfl, rfl, rfl, fun m => ?_, fun _ _ _ => rfl⟩
  by_cases e : m = n
  · subst e; simpa using h
  · simp [State.ni_setNi_other s _ e]

theorem StoresKept.modNi {s : State} {n : Nat} {f : NI → NI} (h : ∀ x, (f x).rx = x.rx ∧ (f x).tags = x.tags ∧ (f x).gens = x.gens
    ∧ (f x).pairs = x.pairs ∧ (f x).wins = x.wins ∧ (f x).unreach = x.unreach) : StoresKept s (s.modNi n f) := .setNi (h _)

theorem StoresKept.setKv {s : State} {k v : Nat} (h : k < 0x380000 ∨ 0x420000 ≤ k) : StoresKept s (s.setKv k v) := by
  refine ⟨rfl, rfl, rfl, rfl, fun _ => ⟨rfl, rfl, rfl, rfl, rfl, rfl⟩, fun i a b => State.kv_setKv_other s _ ?_⟩
  omega

theorem StoresKept.obSet {s : State} {i sub v : Nat} (h : 0x4200 ≤ i) : StoresKept s (s.obSet i sub v) :=
  .setKv (.inr (by unfold okey; omega))

theorem StoresKept.bumpBy {s : State} {i sub n : Nat} (h : 0x4200 ≤ i) : StoresKept s (s.bumpBy i sub n) := .obSet h
theorem StoresKept.bump {s : State} {i sub : Nat} (h : 0x4200 ≤ i) : StoresKept s (s.bump i sub) := .obSet h
theorem StoresKept.highWater {s : State} {i sub v : Nat} (h : 0x4200 ≤ i) : StoresKept s (s.highWater i sub v) := .obSet h

theorem StoresKept.ite {p : Prop} [Decidable p] {s a b : State} (ha : StoresKept s a) (hb : StoresKept s b) : StoresKept s (if p then a else b) := by
  split <;> assumption

theorem StoresKept.pushAccess (s : State) (n : Nat) (a : Access) : StoresKept s (s.pushAccess n a) := .modNi (fun _ => ⟨rfl, rfl, rfl, rfl, rfl, rfl⟩)
theorem StoresKept.modEng (s : State) (e : Nat) (f : Engine → Engine) : StoresKept s (s.modEng e f) := .of_eq rfl rfl rfl rfl rfl rfl
theorem StoresKept.modBr (s : State) (b : Nat) (f : Bridge → Bridge) : StoresKept s (s.modBr b f) := .of_eq rfl rfl rfl rfl rfl rfl

theorem StoresKept.toCollector (s : State) (m : FaultMsg) (test : Bool) : StoresKept s (s.toCollector m test) := by
  unfold State.toCollector
  split
  · exact .of_eq rfl rfl rfl rfl rfl rfl
  · have h : StoresKept s (s.bump 0x2400 8) := .setKv (.inl (by decide))
    dsimp only
    generalize (if test then (s.bump 0x2400 8).flt.held else _) = l
    exact h.trans (.ite (.of_eq rfl rfl rfl rfl rfl rfl) (.of_eq rfl rfl rfl rfl rfl rfl))

theorem StoresKept.raise (s : State) (kind cls source unit addr : Nat) (router : Bool) : StoresKept s (s.raise kind cls source unit addr router) := by
  unfold State.raise
  refine .ite (.refl s) ?_
  dsimp only
  have h (l : List (Nat × Nat × Nat)) : StoresKept s { s with flt := { s.flt with held := l } } := .of_eq rfl rfl rfl rfl rfl rfl
  refine .ite ((h _).trans (.toCollector _ _ _)) (.ite ((h _).trans (.of_eq rfl rfl rfl rfl rfl rfl)) ((h _).trans (.modNi fun _ => ⟨rfl, rfl, rfl, rfl, rfl, rfl⟩)))

/-! ### Answers to packets -/

theorem StoresKept.queueAnswer (s : State) (n : Nat) (q p : Packet) : StoresKept s (s.queueAnswer n q p) := by
  unfold State.queueAnswer
  split
  · exact .modNi (fun _ => ⟨rfl, rfl, rfl, rfl, rfl, rfl⟩)
  · exact .modNi (fun _ => ⟨rfl, rfl, rfl, rfl, rfl, rfl⟩)

theorem StoresKept.releaseAnswers (s : State) (n : Nat) : StoresKept s (s.releaseAnswers n) := by
  unfold State.releaseAnswers
  dsimp only
  suffices h : ∀ (l : List (Nat × Nat)) (u : State) (blocked : List Nat), StoresKept s u →
      StoresKept s (l.foldl _ (u, blocked)).1 from h _ s [] (.refl s)
  intro l
  induction l with
  | nil => exact fun _ _ h => h
  | cons o l ih =>
    intro u blocked h
    rw [List.foldl_cons]
    dsimp only
    split
    · exact ih _ _ h
    · split
      · exact ih _ _ h
      · exact ih _ _ (h.trans (.modNi fun _ => ⟨rfl, rfl, rfl, rfl, rfl, rfl⟩))

theorem StoresKept.answer (s : State) (n : Nat) (q p : Packet) : StoresKept s (s.answer n q p) := by
  unfold State.answer
  exact .ite (.after (.releaseAnswers _ _) (.modNi fun _ => ⟨rfl, rfl, rfl, rfl, rfl, rfl⟩)) (.after (.queueAnswer _ _ _ _) (.ite (.modNi fun _ => ⟨rfl, rfl, rfl, rfl, rfl, rfl⟩) (.refl _)))

theorem StoresKept.reply (s : State) (n : Nat) (q : Packet) (status : Nat) (data : Bytes) : StoresKept s (s.reply n q status data) := by
  unfold State.reply
  exact .after (.answer _ _ _ _) (.ite (.modNi fun _ => ⟨rfl, rfl, rfl, rfl, rfl, rfl⟩) (.refl _))

/-! ### Descriptor queues -/

theorem StoresKept.setDq (s : State) (e q : Nat) (x : DQueue) : StoresKept s (s.setDq e q x) := .modEng _ _ _

theorem StoresKept.qError (s : State) (e q : Nat) (ring : Bool) : StoresKept s (s.qError e q ring) := by
  unfold State.qError
  exact .after (.setDq _ _ _ _) (.ite (.refl s) (.bump (by omega)))

theorem StoresKept.workAnswer (s : State) (e q : Nat) (w : Work) (use : DmaUse) (status : Nat) (data : Bytes) :
    StoresKept s (s.workAnswer e q w use status data) := by
  have moved (n : Nat) : StoresKept s (if status = 0 then s.bumpBy (0x4C00 + e) 0x43 n else s) := .ite (.bumpBy (by omega)) (.refl s)
  have fin (u : State) (v : Work) (l : List Access) (h : StoresKept s u) :
      StoresKept s (l.foldl (fun s a => s.pushAccess (niOfDm e) a) (u.setDq e q ((u.dq e q).putWork v))) :=
    (h.trans (.setDq _ _ _ _)).trans (.foldl (fun _ _ => .pushAccess _ _ _) _ _)
  unfold State.workAnswer
  cases use <;> dsimp only
  case source n off len =>
    exact .ite (fin _ _ _ (moved _)) (.ite (fin _ _ _ (moved _)) (fin _ _ _ (moved _)))
  case dest n off len => exact fin _ _ _ (moved _)
  case result n => exact fin _ _ _ (moved _)
  case barrier => exact fin _ _ _ (.refl s)
  all_goals exact .refl s

theorem StoresKept.recordAnswer (s : State) (e q index status : Nat) : StoresKept s (s.recordAnswer e q index status) := by
  unfold State.recordAnswer
  dsimp only
  split
  · exact .refl s
  · exact .ite (.setDq _ _ _ _) (.after (.raise _ _ _ _ _ _ _) (.after (.qError _ _ _ _) (.setDq _ _ _ _)))

theorem StoresKept.dmaAnswer (s : State) (e q w : Nat) (use : DmaUse) (status : Nat) (data : Bytes) : StoresKept s (s.dmaAnswer e q w use status data) := by
  unfold State.dmaAnswer
  split
  · refine .ite ?_ (.refl s)
    unfold State.ringAnswer
    exact .ite (.setDq _ _ _ _) (.setDq _ _ _ _)
  · exact .recordAnswer _ _ _ _ _
  · split
    · exact .workAnswer _ _ _ _ _ _ _
    · exact .refl s

/-! ### Frames -/

theorem StoresKept.putFrame (s : State) (e : Nat) (f : Frame) : StoresKept s (s.putFrame e f) := .modEng _ _ _
theorem StoresKept.dropFrame (s : State) (e : Nat) (f : Frame) : StoresKept s (s.dropFrame e f) := .modEng _ _ _

theorem StoresKept.answerSend (s : State) (e : Nat) (f : Frame) (status : Nat) : StoresKept s (s.answerSend e f status) := by
  exact .foldl (fun _ _ => .reply _ _ _ _ _) _ _

theorem StoresKept.closeBufs (s : State) (e : Nat) (f : Frame) (trunc : Bool) : StoresKept s (s.closeBufs e f trunc) :=
  .foldl (fun _ _ => .pushAccess _ _ _) _ _

theorem StoresKept.truncate (s : State) (e : Nat) (f : Frame) (count : Nat) : StoresKept s (s.truncate e f count) := by
  unfold State.truncate
  exact (((StoresKept.closeBufs _ _ _ _).trans (.bump (by omega))).trans (.answerSend _ _ _ _)).trans (.ite (.dropFrame _ _ _) (.putFrame _ _ _))

theorem StoresKept.frameWhole (s : State) (e : Nat) (f : Frame) : StoresKept s (s.frameWhole e f) := by
  unfold State.frameWhole
  exact ((((StoresKept.closeBufs _ _ _ _).trans (.bump (by omega))).trans (.ite (.bump (by omega)) (.refl _))).trans (.answerSend _ _ _ _)).trans (.dropFrame _ _ _)

theorem StoresKept.fillBufs (e : Nat) (fuel : Nat) (s : State) (f : Frame) (data : Bytes) : StoresKept s (s.fillBufs e fuel f data).1 := by
  induction fuel generalizing s f data with
  | zero => exact .refl s
  | succ k ih =>
    rw [State.fillBufs.eq_2]
    split
    · exact .refl s
    · rename_i b _
      have h : StoresKept s (if min (b.size - b.fill) data.length = 0 then s
          else s.pushAccess (niOfDm e) { kind := .write, addr := b.addr + b.fill, len := min (b.size - b.fill) data.length, data := data.take (min (b.size - b.fill) data.length), origin := .ring e f.ring (.dest 0 0 (min (b.size - b.fill) data.length)) }) :=
        .ite (.refl s) (.pushAccess _ _ _)
      dsimp only
      split
      · exact h
      · split
        · exact h
        · exact (h.trans (.pushAccess _ _ _)).trans (ih _ _ _)

theorem StoresKept.passParked (s : State) (e : Nat) (f : Frame) : StoresKept s (s.passParked e f) :=
  .after (.releaseAnswers _ _) (.modNi fun _ => ⟨rfl, rfl, rfl, rfl, rfl, rfl⟩)

theorem StoresKept.exhaust (s : State) (e : Nat) (f : Frame) : StoresKept s (s.exhaust e f) := by
  unfold State.exhaust
  split
  · exact .truncate _ _ _ _
  · split
    · exact .ite (.truncate _ _ _ _) (.after (.passParked _ _ _) (.after (.highWater (by omega)) (.after (.putFrame _ _ _) (.modEng _ _ _))))
    · have h := StoresKept.fillBufs e (f.more.length + 1) s f (f.parked.head?.getD [])
      generalize s.fillBufs e (f.more.length + 1) f (f.parked.head?.getD []) = r at h ⊢
      exact .after (.truncate _ _ _ _) h

theorem StoresKept.grant (s : State) (e : Nat) (f : Frame) : StoresKept s (s.grant e f) :=
  ((StoresKept.modEng s _ _).trans (.putFrame _ _ _)).trans (.pushAccess _ _ _)

theorem StoresKept.serveWaiting (e r n : Nat) (s : State) : StoresKept s (s.serveWaiting e r n) := by
  induction n generalizing s with
  | zero => exact .refl s
  | succ k ih =>
    rw [State.serveWaiting.eq_2]
    split
    · exact .refl s
    · exact .ite (.after (ih _) (.grant _ _ _)) (.refl s)

theorem StoresKept.needDesc (s : State) (e : Nat) (f : Frame) : StoresKept s (s.needDesc e f) := by
  unfold State.needDesc
  have h := StoresKept.serveWaiting e f.ring 8 s
  exact .ite (.ite (.exhaust _ _ _) (.truncate _ _ _ _)) (.ite h (.ite (.after (.grant _ _ _) h) (.after (.exhaust _ _ _) h)))

theorem StoresKept.pumpFrame (e ring src id : Nat) (fuel : Nat) (s : State) : StoresKept s (s.pumpFrame e ring src id fuel) := by
  induction fuel generalizing s with
  | zero => exact .refl s
  | succ k ih =>
    rw [State.pumpFrame.eq_2]
    split
    · exact .refl s
    · refine .ite (.refl s) ?_
      split
      · exact .ite (.frameWhole _ _ _) (.refl s)
      · rename_i f _ _ d _ _
        split
        · have h := StoresKept.fillBufs e (f.more.length + 1) s f d
          generalize s.fillBufs e (f.more.length + 1) f d = r at h ⊢
          exact .after (ih _) (.after (.putFrame _ _ _) h)
        · exact .needDesc _ _ _

theorem StoresKept.rxDesc (s : State) (e r index status : Nat) (data : Bytes) : StoresKept s (s.rxDesc e r index status data) := by
  unfold State.rxDesc
  split
  · exact .refl s
  · refine .ite ?_ ((StoresKept.putFrame _ _ _).trans (.pumpFrame _ _ _ _ _ _))
    exact (((StoresKept.modEng s _ _).trans (.raise _ _ _ _ _ _ _)).trans (.putFrame _ _ _)).trans (.exhaust _ _ _)

theorem StoresKept.ringDone (s : State) (e r : Nat) (use : DmaUse) (status : Nat) (data : Bytes) : StoresKept s (s.ringDone e r use status data) := by
  unfold State.ringDone
  split
  · exact .rxDesc _ _ _ _ _ _
  · exact .pushAccess _ _ _
  · exact .ite (.bumpBy (by omega)) (.refl s)
  · exact .refl s

/-! ### Bridges -/

theorem StoresKept.complete (s : State) (b tag len status : Nat) (data : Bytes) : StoresKept s (s.complete b tag len status data) := .modBr _ _ _

theorem StoresKept.completeAll (b : Nat) (a : BarAccess) (status : Nat) (data : Bytes) (fuel : Nat) (s : State) (off : Nat) :
    StoresKept s (s.completeAll b a status data off fuel) := by
  induction fuel generalizing s off with
  | zero => exact .refl s
  | succ k ih =>
    rw [State.completeAll.eq_2]
    exact .ite (.complete _ _ _ _ _ _) (.ite (.complete _ _ _ _ _ _) ((StoresKept.complete _ _ _ _ _ _).trans (ih _ _)))

theorem StoresKept.inboundError (s : State) (b addr status : Nat) : StoresKept s (s.inboundError b addr status) := by
  have h : 0x4200 ≤ brIdx b := by unfold brIdx; split <;> omega
  unfold State.inboundError
  exact .ite (.refl s) ((StoresKept.bumpBy h).trans (.obSet h))

theorem StoresKept.emit (b : Nat) (drop : State → State) (put : State → InReq → State) (hd : ∀ u, StoresKept u (drop u)) (hp : ∀ u q, StoresKept u (put u q))
    (fuel : Nat) (s : State) (q : InReq) : StoresKept s (State.bridgeAnswer.emit b drop put s q fuel) := by
  induction fuel generalizing s q with
  | zero => exact hp _ _
  | succ k ih =>
    unfold State.bridgeAnswer.emit
    dsimp only
    split
    · exact hp _ _
    · exact .ite ((StoresKept.complete _ _ _ _ _ _).trans (hd _)) ((StoresKept.complete _ _ _ _ _ _).trans (ih _ _))

theorem StoresKept.bridgeAnswer (s : State) (b id off len status : Nat) (data : Bytes) : StoresKept s (s.bridgeAnswer b id off len status data) := by
  unfold State.bridgeAnswer
  split
  · exact .refl s
  · rename_i q _
    have h : StoresKept s (if q.counted then s else s.inboundError b q.acc.offset status) := .ite (.refl s) (.inboundError _ _ _ _)
    generalize (if q.counted then s else s.inboundError b q.acc.offset status) = u at h ⊢
    refine .after ?_ h
    dsimp only
    split
    · exact .ite (.modBr _ _ _) (.modBr _ _ _)
    · split
      · exact .ite (.after (.completeAll _ _ _ _ _ _ _) (.modBr _ _ _)) (.modBr _ _ _)
      · exact .emit _ _ _ (fun _ => .modBr _ _ _) (fun _ _ => .modBr _ _ _) _ _ _

theorem StoresKept.answerLocal (s : State) (b : Nat) (a : BarAccess) (status : Nat) (data : Bytes) : StoresKept s (s.answerLocal b a status data) :=
  .ite (.inboundError _ _ _ _) (.after (.completeAll _ _ _ _ _ _ _) (.inboundError _ _ _ _))

theorem StoresKept.msixWrite (s : State) (b off : Nat) (data : Bytes) : StoresKept s (s.msixWrite b off data) := .foldl (fun _ _ => .modBr _ _ _) _ _

/-- What the bridge's own registers can touch: the bridge, and its counters. -/
theorem StoresKept.serveLocal (s : State) (b : Nat) (a : BarAccess) (place : LocalAt) : StoresKept s (s.serveLocal b a place) := by
  unfold State.serveLocal
  cases place <;> dsimp only
  case table => exact .ite (.msixWrite _ _ _ _) (.answerLocal _ _ _ _ _)
  case bits => exact .ite (.refl s) (.answerLocal _ _ _ _ _)
  case page =>
    refine .ite (.answerLocal _ _ _ _ _) (.ite ?_ (.ite ?_ (.ite (.answerLocal _ _ _ _ _) (.answerLocal _ _ _ _ _)))) <;>
      exact .ite (.answerLocal _ _ _ _ _) (.ite (.modBr _ _ _) (.answerLocal _ _ _ _ _))

theorem StoresKept.localAnswer (s : State) (b id : Nat) (place : LocalAt) : StoresKept s (s.localAnswer b id place) := by
  unfold State.localAnswer
  split
  · exact .refl s
  · exact .after (.serveLocal _ _ _ _) (.modBr _ _ _)

/-! ### The issuers of an access -/

/-- What State.finish can touch: not the stores. -/
theorem finish_kept (s : State) (o : Origin) (status : Nat) (data : Bytes) : StoresKept s (s.finish o status data) := by
  unfold State.finish
  cases o <;> dsimp only
  case none => exact .refl s
  case dma => exact .dmaAnswer _ _ _ _ _ _ _
  case ring => exact .ringDone _ _ _ _ _ _
  case bridge => exact .bridgeAnswer _ _ _ _ _ _ _
  case exLoad => exact ((StoresKept.modBr s _ _).trans (.inboundError _ _ _ _)).trans (.complete _ _ _ _ _ _)
  case localReg => exact .localAnswer _ _ _ _
  case exStore => exact .after (.modBr _ _ _) (.inboundError _ _ _ _)

theorem finishAll_kept (l : List Origin) (s : State) (status : Nat) (data : Bytes) : StoresKept s (s.finishAll l status data) :=
  .foldl (fun _ _ => finish_kept _ _ _ _) _ _

/-- Nobody is told of an access that has no issuer. -/
theorem finishAll_none (l : List Origin) (s : State) (status : Nat) (data : Bytes) (h : ∀ o ∈ l, o = .none) : s.finishAll l status data = s := by
  induction l generalizing s with
  | nil => rfl
  | cons o l ih =>
    have ho := h o (.head l)
    subst ho
    exact ih s (fun o ho => h o (.tail _ ho))

/-! ### Accesses that a NI held back -/

theorem StoresKept.atGate (s : State) (n : Nat) (j : Job) : StoresKept s (s.atGate n j) := by
  unfold State.atGate
  exact .ite (.modNi fun _ => ⟨rfl, rfl, rfl, rfl, rfl, rfl⟩) (.after (.bump (by omega)) (.modNi fun _ => ⟨rfl, rfl, rfl, rfl, rfl, rfl⟩))

theorem StoresKept.placeShaper (s : State) (n sh need : Nat) : StoresKept s (s.placeShaper n sh need) := by
  unfold State.placeShaper
  dsimp only
  exact .after (.highWater (by omega)) (.after (.ite (.bump (by omega)) (.refl _)) (.modNi fun _ => ⟨rfl, rfl, rfl, rfl, rfl, rfl⟩))

theorem StoresKept.evalShaper (s : State) (n sh : Nat) : StoresKept s (s.evalShaper n sh) := by
  unfold State.evalShaper
  dsimp only
  split
  · exact .refl s
  · refine .ite (.refl s) (.ite (.after (.atGate _ _ _) (.setNi ⟨rfl, rfl, rfl, rfl, rfl, rfl⟩)) (.ite (.after (.atGate _ _ _) (.setNi ⟨rfl, rfl, rfl, rfl, rfl, rfl⟩)) (.ite (.placeShaper _ _ _ _) ?_)))
    exact .after (.placeShaper _ _ _ _) (.after (.bump (by omega)) (.setNi ⟨rfl, rfl, rfl, rfl, rfl, rfl⟩))

theorem StoresKept.atShape (s : State) (n : Nat) (j : Job) : StoresKept s (s.atShape n j) := by
  unfold State.atShape
  dsimp only
  split
  · exact .ite (.setNi ⟨rfl, rfl, rfl, rfl, rfl, rfl⟩) (.atGate _ _ _)
  · refine .ite (.after (.atGate _ _ _) (.setNi ⟨rfl, rfl, rfl, rfl, rfl, rfl⟩)) ?_
    exact .ite (.after (.evalShaper _ _ _) (.setNi ⟨rfl, rfl, rfl, rfl, rfl, rfl⟩)) (.setNi ⟨rfl, rfl, rfl, rfl, rfl, rfl⟩)

theorem StoresKept.afterBuffer (s : State) (n : Nat) (j : Job) : StoresKept s (s.afterBuffer n j) := by
  unfold State.afterBuffer
  dsimp only
  exact .ite (.modNi fun _ => ⟨rfl, rfl, rfl, rfl, rfl, rfl⟩) (.ite (.modNi fun _ => ⟨rfl, rfl, rfl, rfl, rfl, rfl⟩) (.atShape _ _ _))

theorem releaseHeld_kept (s : State) (n : Nat) : StoresKept s (s.releaseHeld n) := by
  unfold State.releaseHeld
  refine .foldl (fun u j => ?_) _ s
  split
  · exact .after (.afterBuffer _ _ _) (.modNi fun _ => ⟨rfl, rfl, rfl, rfl, rfl, rfl⟩)
  · exact .refl u

/-- An NI that holds nothing back has nothing to release. -/
theorem releaseHeld_none (s : State) (n : Nat) (h : (s.ni n).held = []) : s.releaseHeld n = s := by simp [State.releaseHeld, h]

end Sys2Proof.Safety
end

