-- ==== Sys2Proof/Tests/Slice0.lean ====
section
/-! SUPPORT. The author's tests: ill-formed terms that each check of WellFormed refuses, the spec's worked examples, and
for every obligation with hypotheses a witness of each of its clauses. Proofs are decided by the kernel. -/

namespace Sys2Proof.Tests

open Sys2Proof.Machine Sys2Proof.Safety

set_option Elab.async false

/-- The hub in LAUNCH with every domain on; the CAN path holds the claim. -/
def live : State :=
  { State.reset with
    dev := .launch
    pwr := { dom := (List.range 50).map (fun d => (d, .on)) }
    dict := { owner := some .can }
    cox := { pll := true }
    can := { nmt := .preOperational, bootUp := true }
    boat := { spring := .idle } }

/-- The same with another claim. -/
def free : State := { live with dict := {} }

def moored : State := { live with dev := .moored }

def hosted : State := { live with dict := { owner := some .hb0 } }

/-- A packet with the check sum of its bytes. -/
def checked (p : Packet) : Packet := { p with hdr := { p.hdr with crc := packetCrc p } }

/-- A step that goes on answers a next state. -/
theorem goes {o : Host.Outcome State Fault Refusal} (h : goesOn o = true) : ∃ t, o = .next t := by
  cases o with
  | next t => exact ⟨t, rfl⟩
  | fault _ => cases h
  | refused _ => cases h

/-- A read request of one flit from NI 8 to cluster 0. -/
def readPkt : Packet := checked { lane := 2, hdr := { opcode := 0x01, src := 8, fa := mkFa 0 9 0, len := 64 } }

/-- A flit that is a whole packet. -/
def single : Flit := { ft := .single, lane := 2, hdr := some readPkt.hdr }

/-- The link between routers 0 and 1 in a state. -/
def linked (x : LinkState) : State := { live with fabric := { bonds := [(1, { state := x })] } }

/-- That link with flits at router 0's local input. -/
def loaded (l : Nat) (f : Flit) (outs : List Nat) : State :=
  ((linked .up).setBuf 0 4 l [f]).setRoute 0 4 l (some { outs := outs })

/-- A job of class SC2 with that read. -/
def job : Job := { pkt := readPkt }

/-- A hub whose access tables at NI n let in everything in space 0 to 8 MiB. -/
def letIn (n : Nat) (sp : Nat) (s : State) : State :=
  (((s.obSet (0x4100 + n) 1 (2 ^ 63 ||| sp <<< 62)).obSet (0x4100 + n) 2 0x7FFFFF).obSet (0x4100 + n) 3 (2 ^ 48 - 1)).obSet (0x4100 + n) 4 (2 ^ 48 - 1)

/-- NI 9, cluster 0's, with a packet received from NI 8, whose next request is number 0. -/
def received (p : Packet) : State := (letIn 9 0 live).setNi 9 { rx := [p], wins := [(16, { exp := 0 })] }

/-- A posted write of 8 bytes from NI 8 to cluster 0. -/
def writePkt : Packet := checked { lane := 2, hdr := { opcode := 0x02, src := 8, fa := mkFa 0 9 0, len := 8, inl := List.replicate 32 1 } }

/-- A packet that answers one of NI 8's. -/
def answerPkt (o l : Nat) : Packet := checked { lane := l, hdr := { opcode := o, src := 9, fa := mkFa 0 8 0 } }

/-- A READ_RESP of 64 bytes that is poisoned, an answer to the STCOND of a host bridge, an ACK that refuses. -/
def poisoned : Packet := checked { lane := 3, hdr := { opcode := 0x81, src := 9, fa := mkFa 0 8 0, poison := true } }
def exAnswer : Packet := checked { lane := 3, hdr := { opcode := 0x82, src := 9, fa := mkFa 0 3 0, status := 1 } }
def refusal : Packet := checked { lane := 3, hdr := { opcode := 0x83, src := 9, fa := mkFa 0 8 0, status := 3 } }

/-- Every link up. -/
def netUp : State :=
  { live with fabric := { bonds := (allDirs.filter (fun q => q.2 = 1 ∨ q.2 = 2)).map (fun q => (4 * q.1 + q.2, { state := .up })) } }

/-- Cluster 23 with one line access in bank 3. -/
def banked (a : LineAcc) (left : Nat) : State :=
  live.setClu 23 { banks := [(3, [a])], jobs := [(0, { pkt := readPkt, left := left })] }

/-- Cluster 0 with a control block at 0x1000, pool 7 of two buffers at 0x2000, and an access to that block. -/
def pooled (q : Packet) (l : List Nat) : State :=
  ((live.obSet 0x4800 8 0x1000).obSet 0x4800 0x37 (2 ^ 63 ||| 2 <<< 40 ||| 0x2000)).setClu 0 { poolQ := [q], free := [(7, l)] }

def popPkt : Packet := { lane := 2, hdr := { opcode := 0x01, src := 8, ctrl := true, fa := mkFa 0 9 0x11C0, len := 8 } }
def pushPkt : Packet := { lane := 2, hdr := { opcode := 0x03, src := 8, fa := mkFa 0 9 0x11C8, len := 8, inl := leBytes 0x2100 8 } }
def countPkt : Packet := { lane := 2, hdr := { opcode := 0x01, src := 8, fa := mkFa 0 9 0x11D0, len := 8 } }

/-- A hub whose Steward runs, with the source codes 1 to 6 in queues 8 to 13. -/
def stewarded : State :=
  (List.range 6).foldl (fun s j => s.obSet (0x4E08 + j) 9 (j + 1)) { live with stw := { running := true } }

/-- A hub whose Springhead runs a trap's script of commands. -/
def scripted (l : List SpringCmd) : State := { live with boat := { live.boat with spring := .trap, cmds := l } }

/-- Host bridge 0 with its link up. -/
def bridged (r : Bridge) : State := (live.obSet 0x5000 8 2).setBr 0 r

/-- A frame that waits for a second buffer. -/
def heldBuf : RxBuf := { index := 3, addr := 0x1000, size := 256, fill := 250, first := true }
def heldFrame : Frame :=
  { ring := 15, src := 8, frameId := 0, len := 300, info := 0, holding := true, everHeld := true, anyBuf := true, buf := some heldBuf, parked := [List.replicate 50 7] }

/-- Hops between two routers. -/
def hops (r d : Nat) : Nat := (xOf r - xOf d) + (xOf d - xOf r) + (yOf r - yOf d) + (yOf d - yOf r)

theorem net_up_link : ∀ r, r < 48 → ∀ o, o < 4 → netUp.deadLink r o = ! hasPort r o := by decide +kernel

theorem hops_le : ∀ r, r < 48 → ∀ d, d < 48 → hops r d ≤ 12 := by decide +kernel

/-- An XY hop leads along a port of the mesh. -/
theorem xy_port : ∀ r, r < 48 → ∀ d, d < 48 →
    xyOut r d = 4 ∨ (xyOut r d < 4 ∧ hasPort r (xyOut r d) = true ∧ neighbour r (xyOut r d) < 48) := by decide +kernel

/-- Some odd-even hop leads to a router one hop nearer. -/
def nearer (r d : Nat) (src : Bool) : Bool :=
  (oddEven r d src).any (fun o => decide (o < 4 ∧ neighbour r o < 48 ∧ hops (neighbour r o) d + 1 = hops r d) && bitAt 0xF o && hasPort r o)

theorem odd_even_nearer : ∀ r, r < 48 → ∀ d, d < 48 → r = d ∨ (nearer r d true = true ∧ nearer r d false = true) := by decide +kernel

theorem net_up_xy (f : Nat) : ∀ r d, r < 48 → d < 48 → netUp.xyAlive f r d = true := by
  induction f with
  | zero => exact fun _ _ _ _ => rfl
  | succ f ih =>
    intro r d hr hd
    rcases xy_port r hr d hd with h | ⟨h, hp, hn⟩
    · simp [State.xyAlive, h]
    · simp [State.xyAlive, net_up_link r hr _ h, hp, ih _ d hn hd]

theorem net_up_reaches (f : Nat) : ∀ r d src, r < 48 → d < 48 → hops r d ≤ f →
    netUp.reaches (fun r o => ! netUp.deadLink r o) f r d src = true := by
  induction f with
  | zero =>
    intro r d src hr hd hh
    rcases odd_even_nearer r hr d hd with h | h
    · simp [State.reaches, h]
    · simp only [nearer, List.any_eq_true, Bool.and_eq_true, decide_eq_true_eq] at h
      obtain ⟨_, _, ⟨⟨_, _, h⟩, _⟩, _⟩ := h.1
      omega
  | succ f ih =>
    intro r d src hr hd hh
    rcases odd_even_nearer r hr d hd with h | h
    · simp [State.reaches, h]
    · have h : nearer r d src = true := by cases src <;> simp [h]
      simp only [nearer, List.any_eq_true, Bool.and_eq_true, decide_eq_true_eq] at h
      obtain ⟨o, ho, ⟨⟨h4, hn, h⟩, ha⟩, hp⟩ := h
      simp only [State.reaches, Bool.or_eq_true, List.any_eq_true, Bool.and_eq_true, decide_eq_true_eq]
      exact .inr ⟨o, ho, ⟨⟨⟨by omega, ha⟩, hp⟩, by simp [net_up_link r hr o h4, hp]⟩, ih _ d _ hn hd (by omega)⟩

/-- With every link up, no pair is cut off. -/
theorem net_up_alive (m : Nat) (hm : m < 48) (d : Nat) (hd : d < 48) (c : Nat) : netUp.pairAlive m d c = true := by
  unfold State.pairAlive
  split
  · exact net_up_xy 13 m d hm hd
  · split
    · exact net_up_reaches 13 m d true hm hd (Nat.le_succ_of_le (hops_le m hm d hd))
    · by_cases h : c = 0 <;> simp [h, netUp]
def straps0 : Straps := { ga := 31, refclk := 0, testMode := false }

/-! ### Well-formedness: each list holds a term for each check, and the check refuses it -/

theorem test_ill_formed_node_id :
    (([
      .nmtStartRemoteNode 128,
      .nmtEnterPreOperational 128,
      .nmtStopRemoteNode 128,
      .nmtResetCommunication 128,
      .nmtResetNode 128,
      .heartbeatReceive 128,
      .heartbeatTimeout 128] : List Instr).all (fun i => ! i.wf)) = true := by decide +kernel

theorem test_ill_formed_sdo :
    (([
      .sdoInitiateDownload 65536 0 true [0],
      .sdoInitiateDownload 0 256 true [0],
      .sdoInitiateDownload 0 0 true [],
      .sdoInitiateDownload 0 0 false [0, 0, 0, 0, 0],
      .sdoDownloadSegment false false (List.replicate 8 0),
      .sdoInitiateUpload 65536 0,
      .sdoInitiateUpload 0 256,
      .sdoUnsupportedCommand 65536 0,
      .sdoUnsupportedCommand 0 256] : List Instr).all (fun i => ! i.wf)) = true := by decide +kernel

theorem test_ill_formed_object_write :
    (([
      .objectWrite { path := .can, index := 65536, sub := 0, data := [] },
      .objectWrite { path := .can, index := 0, sub := 256, data := [] },
      .counterClear { path := .can, index := 65536, sub := 0, data := [] }] : List Instr).all (fun i => ! i.wf)) = true := by decide +kernel

theorem test_ill_formed_can_frame :
    (([
      .rpdoReceive 0 (List.replicate 9 0),
      .canErrorPassive (2 ^ 32) 0,
      .canErrorPassive 0 (2 ^ 32),
      .xopen (2 ^ 32),
      .xdata (2 ^ 32) 0 [],
      .xdata 0 256 [],
      .xdata 0 0 (List.replicate 57 0),
      .xclose (2 ^ 32),
      .xabort 256] : List Instr).all (fun i => ! i.wf)) = true := by decide +kernel

theorem test_ill_formed_window_write :
    (([
      .imageStageWrite .hb0 (2 ^ 21) [0],
      .imageStageWrite .hb0 0 [],
      .policyTableWrite .hb0 (2 ^ 21) [0],
      .policyTableWrite .hb0 0 []] : List Instr).all (fun i => ! i.wf)) = true := by decide +kernel

theorem test_ill_formed_tod_frame :
    (([
      .todFrame [],
      .todFrame (List.replicate 17 0)] : List Instr).all (fun i => ! i.wf)) = true := by decide +kernel

theorem test_ill_formed_flit :
    (([
      .flitReceive (.toNi 0) (.beyond (some { ft := .idle, lane := 8 })),
      .flitReceive (.toNi 0) (.beyond (some { ft := .idle, seq := 256 })),
      .flitReceive (.toNi 0) (.beyond (some { ft := .single })),
      .flitReceive (.toNi 0) (.beyond (some { ft := .body, hdr := some {} })),
      .flitReceive (.toNi 0) (.beyond (some { ft := .head, hdr := some { opcode := 256 } }))] : List Instr).all (fun i => ! i.wf)) = true := by decide +kernel

theorem test_ill_formed_ni_operand :
    (([
      .resendTimerExpiry 0 48 true 0,
      .resendTimerExpiry 0 0 true 65536,
      .shaperEntryWrite .can 0 (2 ^ 64)] : List Instr).all (fun i => ! i.wf)) = true := by decide +kernel

theorem test_ill_formed_cluster_operand :
    (([
      .poolEnable .can 0 0 (2 ^ 64),
      .blockLog2Write .can 0 256] : List Instr).all (fun i => ! i.wf)) = true := by decide +kernel

theorem test_ill_formed_engine_operand :
    (([
      .qDoorbell 0 0 (2 ^ 64),
      .mbProducer 0 0 (2 ^ 64),
      .queueEnable .can 0 (2 ^ 32),
      .eqWrite 0 128 0,
      .eqWrite 0 0 (2 ^ 56),
      .telemetrySample 8 false [32768],
      .telemetrySample 8 false [-32769]] : List Instr).all (fun i => ! i.wf)) = true := by decide +kernel

theorem test_ill_formed_bar_access :
    (([
      .hostBar2Access 0 { write := false, offset := 2 ^ 26, len := 1 },
      .bar0Access 0 { write := false, offset := 2 ^ 24, len := 1 },
      .bar4Access 0 { write := false, offset := 0, len := 4097 },
      .bar4Access 0 { write := false, offset := 0, len := 4, tag := 1024 },
      .bar4Access 0 { write := true, offset := 0, len := 4, data := [1] },
      .bar4Access 0 { write := false, offset := 0, len := 1, data := [1] }] : List Instr).all (fun i => ! i.wf)) = true := by decide +kernel

theorem test_ill_formed_pcie :
    (([
      .pcieLinkUp 0 7 1 false,
      .pcieLinkUp 0 1 17 false,
      .downstreamErrorMessage 2 .cor 65536,
      .configRequest 0 false 1024 0 0,
      .configRequest 0 false 0 (2 ^ 32) 0,
      .configRequest 0 false 0 0 1024,
      .flush 0 1024,
      .exLoad 0 0 17 0,
      .exLoad 0 0 16 1024,
      .exStore 0 0 (List.replicate 17 0),
      .intTrigger 0 (2 ^ 64) false,
      .pcieCompletion 0 1024 .sc false [],
      .pcieCompletion 0 0 .sc false (List.replicate 513 0),
      .cfgDataRead 2 .sc (2 ^ 32),
      .cfgDataWrite 2 (2 ^ 32) .sc] : List Instr).all (fun i => ! i.wf)) = true := by decide +kernel

theorem test_ill_formed_springhead :
    (([
      .springEnd { op := 256 },
      .springheadWrite (.script { cond := 16 }),
      .springWait { size := 16 } false,
      .springCall { target := 65536 },
      .springReturn { rsvd := 2 ^ 24 },
      .springCmpBr { value := 2 ^ 64 },
      .springCmpBr { mask := 2 ^ 64 },
      .springDelay { time := 2 ^ 32 },
      .springRaise { code := 65536 },
      .springRaise { index := 65536 },
      .springRaise { sub := 256 }] : List Instr).all (fun i => ! i.wf)) = true := by decide +kernel

theorem test_ill_formed_pin_and_debug :
    (([
      .pinAck .can (2 ^ 64),
      .pinClear .can (2 ^ 64),
      .jtagResponse .can (List.replicate 95 0)] : List Instr).all (fun i => ! i.wf)) = true := by decide +kernel

theorem test_well_formed : (([.sdoInitiateDownload 0x1017 0 true [1, 2], .xdata 0 56 (List.replicate 56 0), .nmtResetNode 127,
      .hostBar2Access 1 { write := true, offset := 2 ^ 26 - 8, len := 8, data := List.replicate 8 0 }] : List Instr).all Instr.wf) = true := by
  decide +kernel

/-! ### The table gives no row bits -/

theorem test_no_word_spells_a_command (n w : Nat) : decodeTableWord n w = none := rfl

/-! ### The spec's worked examples -/

/-- 01_fabric_map.md, one write from DM0 to BM14: its place, domain, fabric address and XY path. -/
theorem test_example_write_to_bm14 :
    niOfDm 0 = 1 ∧ niOfBm 14 = 27 ∧ niDom 27 = 30 ∧ mkFa 0 27 0x41000 = 0x1B0000041000
      ∧ [1, 2, 3, 11, 19, 27].map (fun r => xyOut r 27) = [1, 1, 2, 2, 2, 4] := by decide +kernel

/-- 05_routing.md, an SC3 write from DM0 to BM23: the candidate sets of R201. -/
theorem test_example_candidate_sets :
    oddEven 1 38 true = [2, 1] ∧ oddEven 2 38 false = [1] ∧ oddEven 3 38 false = [2, 1] ∧ oddEven 12 38 false = [1] ∧ oddEven 13 38 false = [2] := by
  decide +kernel

/-- 06_stroke_arbitration.md, one SC0 flow from DM0 to BM14: PATH 0x2A5 and the entry of hop 2. -/
theorem test_example_flow_path :
    pathHops 1 0x2A5 5 = [(1, 1), (2, 1), (3, 2), (11, 2), (19, 2)] ∧ field 0x6A800011 31 30 = 1 ∧ field 0x6A800011 29 27 = 5 := by decide +kernel

/-- 08_network_interfaces.md, a shaped host stream: SHAPER_ENTRY 0x801F_4000_0000_1200 is in range, with RATE 8000 and BURST 4608. -/
theorem test_example_shaper_entry :
    shaperOk 0x801F400000001200 = true ∧ field 0x801F400000001200 57 40 = 8000 ∧ field 0x801F400000001200 20 0 = 4608 := by decide +kernel

/-- 09_buffer_memory.md, pools on BM5: POOL_CONFIG 0xC004_0000_0040_0000. -/
theorem test_example_pool_config :
    poolEnabled 0xC004000000400000 = true ∧ poolSize 0xC004000000400000 = 2048 ∧ poolCount 0xC004000000400000 = 1024
      ∧ poolBase 0xC004000000400000 = 0x400000 := by decide +kernel

/-- 12_boathouse.md, a trap script for link 19.E: commands 0, 1 and 3. -/
theorem test_example_trap_script :
    parseCmd ([0x01, 0x00, 0x13, 0x30, 0x1F, 0, 0, 0] ++ leBytes 2 8 ++ leBytes 0xFF 8 ++ List.replicate 8 0)
        = { op := 1, index := 0x3013, sub := 0x1F, value := 2, mask := 0xFF }
      ∧ parseCmd ([0x02, 0x10, 0x13, 0x30, 0x11, 0, 0, 0] ++ leBytes 3 8 ++ leBytes 0xFF 8 ++ leBytes 3 2 ++ [0, 0] ++ leBytes 10 4)
        = { op := 2, cond := 1, index := 0x3013, sub := 0x11, value := 3, mask := 0xFF, target := 3, time := 10 }
      ∧ (parseCmd ([0x07, 0x20] ++ List.replicate 30 0)).cond = 2 := by decide +kernel

/-- THROTTLE_LEVEL after one thermal sample with a hottest reading, from a level. -/
def levelAfter (max level : Nat) : Nat :=
  match exec .thermalSample (((stewarded.obSet 0x2503 5 level).obSet 0x2503 13 max)) with
  | .next t => t.ob 0x2503 5
  | _ => 99

/-- 15_steward.md, a thermal cap on an FV9648-AC: LEVEL against the readings of its table. -/
theorem test_example_thermal_cap :
    levelAfter 1512 0 = 0 ∧ levelAfter 1522 0 = 1 ∧ levelAfter 1526 1 = 2 ∧ levelAfter 1520 2 = 3 ∧ levelAfter 1473 3 = 3
      ∧ levelAfter 1519 3 = 3 ∧ levelAfter 1470 3 = 2 ∧ levelAfter 1465 1 = 0 := by decide +kernel

/-- R274: CRC-32C; its published check value is that of the nine digits. -/
theorem test_crc32c : crc32c [0x31, 0x32, 0x33, 0x34, 0x35, 0x36, 0x37, 0x38, 0x39] = 0xE3069283 := by decide +kernel

/-! ### Witnesses: states and operands that meet each clause of each obligation -/

theorem test_witness_StepRunsFront :
    ∃ (s : State), s.pending = [] :=
  ⟨live, by decide +kernel⟩

theorem test_witness_QueueStaysWellFormed :
    ∃ (s : State) (t : State), QueueOk s ∧ step s = .next t :=
  let ⟨t, h⟩ := goes (o := step { live with pending := [.xtal32OscillatorStart, .sync] }) (by decide +kernel); ⟨_, t, by unfold QueueOk; decide +kernel, h⟩

theorem test_witness_MemoryStaysCanonical :
    ∃ (s : State) (t : State), MemoryCanonical s ∧ step s = .next t :=
  let ⟨t, h⟩ := goes (o := step { live with clusters := [(23, { mem := [(0, 1), (8388607, 255)] })], pending := [.xtal32OscillatorStart] }) (by decide +kernel); ⟨_, t, ⟨fun k => by simp only [State.clu, sget]; split <;> rfl, rfl⟩, h⟩

theorem test_witness_ClusterMemory :
    (∃ (c : Cluster), Memory.wf 0 c.mem = true)
    ∧ (∃ (m : Cluster) (n : Cluster), Memory.wf 0 m.mem = true ∧ Memory.wf 0 n.mem = true ∧ (∀ a, sget (0 : Byte) m.mem a = sget (0 : Byte) n.mem a)) := by
  refine ⟨?_, ?_⟩
  · exact ⟨{ mem := [(0, 1), (16777215, 255)] }, by decide +kernel⟩
  · exact ⟨{ mem := [(5, 1)] }, { mem := [(5, 1)], nextId := 1 }, by decide +kernel, by decide +kernel, fun _ => rfl⟩

theorem test_witness_PowerUpPath :
    (∃ (s : State), s.aon.vaux = false)
    ∧ (∃ (s : State) (wakeIn : _), s.dev = .standby ∧ s.aon.vaux = true ∧ s.aon.pwrReq = false ∧ s.aon.fails < 3 ∧ (s.ob 0x2300 1 = 0 ∨ wakeIn = true))
    ∧ (∃ (s : State), s.dev = .standby ∧ s.aon.pwrReq = true ∧ s.pins.rstLow = false)
    ∧ (∃ (s : State), s.dev = .standby ∧ s.aon.pwrReq = true ∧ s.aon.pwrGood = false)
    ∧ (∃ (s : State), s.dev = .standby ∧ s.aon.retryDue = true ∧ s.pins.ejectOpen = false)
    ∧ (∃ (s : State), s.pins.ejectOpen = true)
    ∧ (∃ (s : State), s.dev ≠ .standby ∧ s.aon.pwrReq = true)
    ∧ (∃ (s : State), s.aon.vaux = true) := by
  refine ⟨?_, ?_, ?_, ?_, ?_, ?_, ?_, ?_⟩
  · exact ⟨{ live with aon := { vaux := false } }, by decide +kernel⟩
  · exact ⟨{ live with dev := .standby, aon := { pwrReq := false, fails := 2 } }, true, by decide +kernel⟩
  · exact ⟨{ live with dev := .standby }, by decide +kernel⟩
  · exact ⟨{ live with dev := .standby, aon := { pwrGood := false } }, by decide +kernel⟩
  · exact ⟨{ live with dev := .standby, aon := { pwrReq := false, retryDue := true } }, by decide +kernel⟩
  · exact ⟨{ live with pins := { ejectOpen := true } }, by decide +kernel⟩
  · exact ⟨live, by decide +kernel⟩
  · exact ⟨live, by decide +kernel⟩

theorem test_witness_ChipReset :
    (∃ (s : State), s.aon.rstMasked = false ∧ s.aon.resetting = none ∧ s.dev ≠ .standby)
    ∧ (∃ (s : State), s.aon.rstMasked = true)
    ∧ (∃ (s : State), s.aon.resetting = some 1)
    ∧ (∃ (s : State) (c : _), s.aon.resetting = some c ∧ c ≠ 1 ∧ s.pins.rstLow = false)
    ∧ (∃ (s : State) (c : _), s.aon.resetting = some c ∧ c ≠ 1 ∧ s.pins.rstLow = true ∧ s.aon.rstMasked = false)
    ∧ (∃ (s : State), s.pins.rstLow = true ∧ s.aon.rstMasked = false ∧ s.dev ≠ .standby ∧ s.ob 0x2301 2 = 0 ∧ s.can.inhibit = false ∧ s.can.busOff = false) := by
  refine ⟨?_, ?_, ?_, ?_, ?_, ?_⟩
  · exact ⟨live, by decide +kernel⟩
  · exact ⟨{ live with aon := { rstMasked := true } }, by decide +kernel⟩
  · exact ⟨{ live with aon := { resetting := some 1 } }, by decide +kernel⟩
  · exact ⟨{ live with aon := { resetting := some 2 } }, 2, by decide +kernel⟩
  · exact ⟨{ live with aon := { resetting := some 3 }, pins := { rstLow := true } }, 3, by decide +kernel⟩
  · exact ⟨{ live with pins := { rstLow := true } }, by decide +kernel⟩

theorem test_witness_EasyPath :
    (∃ (s : State), (s.dev = .moored ∨ s.dev = .launch ∨ s.dev = .afloat) ∧ s.cox.running = true)
    ∧ (∃ (s : State), s.dev = .easy ∧ s.pwr.stage = .draining ∧ (∀ d, 4 ≤ d → d < 50 → s.domain d = .off))
    ∧ (∃ (s : State), s.dev = .easy ∧ s.pwr.stage = .stopping ∧ s.cox.running = true)
    ∧ (∃ (s : State), s.boat.spring = .boot ∧ s.aon.resetting = none ∧ s.dev = .muster ∧ s.ob 0x2610 0xA = 7 ∧ s.domain 48 ≠ .waking ∧ s.domain 49 ≠ .waking) := by
  refine ⟨?_, ?_, ?_, ?_⟩
  · exact ⟨{ live with cox := { pll := true, running := true } }, by decide +kernel⟩
  · exact ⟨{ live with dev := .easy, pwr := { dom := [(0, .on), (1, .on), (2, .on), (3, .on)], stage := .draining } }, by decide +kernel, by decide +kernel, fun d a b => (by decide +kernel : ∀ d, d < 50 → 4 ≤ d → ({ live with dev := .easy, pwr := { dom := [(0, .on), (1, .on), (2, .on), (3, .on)], stage := .draining } } : State).domain d = .off) d b a⟩
  · exact ⟨{ live with dev := .easy, pwr := { live.pwr with stage := .stopping }, cox := { pll := true, running := true } }, by decide +kernel⟩
  · exact ⟨State.reset.obSet 0x2610 0xA 7, by decide +kernel⟩

theorem test_witness_DomainTransitions :
    (∃ (s : State) (d : DomainId), s.domain d.val = .fencing ∧ s.dev ≠ .easy)
    ∧ (∃ (s : State) (d : DomainId), 16 ≤ d.val ∧ d.val < 40 ∧ s.domain d.val = .draining ∧ s.drained d.val = true ∧ s.dev ≠ .easy ∧ sget (.off, false) s.pwr.goal d.val = (.retain, false))
    ∧ (∃ (s : State) (d : DomainId), 16 ≤ d.val ∧ d.val < 40 ∧ s.domain d.val = .draining ∧ s.drained d.val = true ∧ s.dev ≠ .easy ∧ sget (.off, false) s.pwr.goal d.val = (.off, false))
    ∧ (∃ (s : State) (d : DomainId), 16 ≤ d.val ∧ d.val < 40 ∧ s.domain d.val = .draining ∧ s.dev ≠ .easy ∧ sget (.off, false) s.pwr.goal d.val = (.off, false))
    ∧ (∃ (s : State) (d : DomainId), d.val ∈ s.pwr.waitWake ∧ (∀ x ∈ s.pwr.waitWake, d.val ≤ x) ∧ s.wakingCount < s.ob 0x2200 2)
    ∧ (∃ (s : State) (d : DomainId), 40 ≤ d.val ∧ d.val < 48 ∧ s.domain d.val = .waking ∧ s.dev ≠ .easy) := by
  refine ⟨?_, ?_, ?_, ?_, ?_, ?_⟩
  · exact ⟨{ live with pwr := { live.pwr with dom := (List.range 50).map (fun d => (d, if d = 4 then .fencing else .on)), goal := [(4, (.off, false))] } }, 4, by decide +kernel⟩
  · exact ⟨{ live with pwr := { live.pwr with dom := (List.range 50).map (fun d => (d, if d = 16 then .draining else .on)), goal := [(16, (.retain, false))] } }, 16, by decide +kernel⟩
  · exact ⟨{ live with pwr := { live.pwr with dom := (List.range 50).map (fun d => (d, if d = 39 then .draining else .on)), goal := [(39, (.off, false))] } }, 39, by decide +kernel⟩
  · exact ⟨{ live with pwr := { live.pwr with dom := (List.range 50).map (fun d => (d, if d = 16 then .draining else .on)), goal := [(16, (.off, false))] } }, 16, by decide +kernel⟩
  · exact ⟨{ live with pwr := { live.pwr with waitWake := [47, 16] } }, 16, by decide +kernel⟩
  · exact ⟨{ live with pwr := { live.pwr with dom := (List.range 50).map (fun d => (d, if d = 47 then .waking else .on)), goal := [(47, (.off, false))] } }, 47, by decide +kernel⟩

theorem test_witness_TodFrames :
    (∃ (s : State) (f : Bytes), s.cox.pll = true ∧ s.domain 2 = .on ∧ s.ob 0x2110 7 = 1 ∧ s.cox.todPartial = [] ∧ s.todIdle f.length = true ∧ f.head? = some 0xC5 ∧ f.length < 16)
    ∧ (∃ (s : State) (f : Bytes), s.cox.pll = true ∧ s.domain 2 = .on ∧ s.ob 0x2110 7 = 1 ∧ s.cox.todPartial = [] ∧ s.todIdle f.length = true ∧ f.head? = some 0xC5 ∧ f.length = 16 ∧ crc8 (f.take 15) ≠ leAt f 15 1)
    ∧ (∃ (s : State) (f : Bytes) (e : _), s.cox.pll = true ∧ s.domain 2 = .on ∧ s.ob 0x2110 7 = 1 ∧ s.cox.todPartial = [] ∧ s.todIdle f.length = true ∧ f.head? = some 0xC5 ∧ f.length = 16 ∧ crc8 (f.take 15) = leAt f 15 1 ∧ s.cox.state = .unanchored ∧ s.cox.edge = some e ∧ leAt f 1 1 = 1 ∧ leAt f 14 1 = 0 ∧ leAt f 8 4 < 1000000000 ∧ leAt f 8 4 % 2000 = 0 ∧ 3072000 ≤ s.clk.fab - e.fab ∧ s.clk.fab - e.fab ≤ 2764800000)
    ∧ (∃ (s : State) (f : Bytes), s.cox.pll = true ∧ s.domain 2 = .on ∧ s.ob 0x2110 7 = 1 ∧ s.cox.todPartial = [] ∧ s.todIdle f.length = false ∧ f ≠ []) := by
  refine ⟨?_, ?_, ?_, ?_⟩
  · exact ⟨(({ live with cox := { live.cox with edge := some { fab := 0 } }, clk := { now := 3072000, fab := 3072000 } }).obSet 0x2110 7 1), ([0xC5] : Bytes), by decide +kernel⟩
  · exact ⟨(({ live with cox := { live.cox with edge := some { fab := 0 } }, clk := { now := 3072000, fab := 3072000 } }).obSet 0x2110 7 1), ([0xC5, 1, 5, 0, 0, 0, 0, 0, 0, 0, 0, 0, 0, 0, 0] ++ leBytes (crc8 [0xC5, 1, 5, 0, 0, 0, 0, 0, 0, 0, 0, 0, 0, 0, 0] + 1) 1 : Bytes), by decide +kernel⟩
  · exact ⟨(({ live with cox := { live.cox with edge := some { fab := 0 } }, clk := { now := 3072000, fab := 3072000 } }).obSet 0x2110 7 1), ([0xC5, 1, 5, 0, 0, 0, 0, 0, 0, 0, 0, 0, 0, 0, 0] ++ leBytes (crc8 [0xC5, 1, 5, 0, 0, 0, 0, 0, 0, 0, 0, 0, 0, 0, 0]) 1 : Bytes), { fab := 0 }, by decide +kernel⟩
  · exact ⟨(({ live with cox := { live.cox with todAt := some 0 }, clk := { now := 4000, fab := 1000 } }).obSet 0x2110 7 1), ([0xC5] : Bytes), by decide +kernel⟩

theorem test_witness_OwnershipAndWrites :
    (∃ (s : State) (p : Path), Accepted s p 0x2010 2 1 ∧ s.dict.owner = none ∧ s.can.inhibit = false ∧ s.can.busOff = false ∧ s.dev ≠ .standby)
    ∧ (∃ (s : State) (p : Path), Accepted s p 0x2010 2 0 ∧ s.dict.owner = some p)
    ∧ (∃ (s : State) (p : Path) (v : _), v < 65536 ∧ Accepted s p 0x1017 0 v)
    ∧ (∃ (s : State) (w : ObjWrite), w.index = 0x2400 ∧ w.sub = 0xF ∧ s.writeRefused { who := .path w.path, index := 0x2400, sub := 0xF, data := w.data } = none) := by
  refine ⟨?_, ?_, ?_, ?_⟩
  · exact ⟨free, .can, by unfold Accepted; decide +kernel⟩
  · exact ⟨live, .can, by unfold Accepted; decide +kernel⟩
  · exact ⟨live, .can, 65535, by unfold Accepted; decide +kernel⟩
  · exact ⟨live, { path := .can, index := 0x2400, sub := 0xF, data := [1] }, by decide +kernel⟩

theorem test_witness_CoxCommands :
    (∃ (s : State) (p : Path), Accepted s p 0x2110 1 0)
    ∧ (∃ (s : State) (p : Path), Accepted s p 0x2110 1 1)
    ∧ (∃ (s : State) (p : Path), Accepted s p 0x2110 9 1)
    ∧ (∃ (s : State) (p : Path), Accepted s p 0x2120 4 1 ∧ s.armRefused = false)
    ∧ (∃ (s : State) (p : Path), Accepted s p 0x2120 4 0 ∧ s.cox.armed.isSome = true)
    ∧ (∃ (s : State) (p : Path), Accepted s p 0x34F0 1 1)
    ∧ (∃ (s : State) (p : Path), s.readRefused (.path p) 0x2101 1 = none ∧ s.objAnswers 0x2101 1 = true) := by
  refine ⟨?_, ?_, ?_, ?_, ?_, ?_, ?_⟩
  · exact ⟨live, .can, by unfold Accepted; decide +kernel⟩
  · exact ⟨live, .can, by unfold Accepted; decide +kernel⟩
  · exact ⟨live, .can, by unfold Accepted; decide +kernel⟩
  · exact ⟨(live.obSet 0x2120 2 1500).obSet 0x2120 3 2, .can, by unfold Accepted; decide +kernel⟩
  · exact ⟨{ live with cox := { live.cox with armed := some { seconds := 9, stroke := 0, start := false } } }, .can, by unfold Accepted; decide +kernel⟩
  · exact ⟨live, .can, by unfold Accepted; decide +kernel⟩
  · exact ⟨live, .can, by decide +kernel⟩

theorem test_witness_ResetMask :
    (∃ (s : State) (p : Path), Accepted s p 0x2302 1 0x5A5A)
    ∧ (∃ (s : State) (p : Path) (at_ : _), Accepted s p 0x2302 1 0xA5A5 ∧ s.aon.unlockAt = some at_ ∧ s.clk.now ≤ at_ + 3072000000 ∧ s.aon.resetting = none)
    ∧ (∃ (s : State) (p : Path) (at_ : _), Accepted s p 0x2302 1 0xA5A5 ∧ s.aon.unlockAt = some at_ ∧ at_ + 3072000000 < s.clk.now)
    ∧ (∃ (s : State) (p : Path), Accepted s p 0x2302 3 1 ∧ s.pins.rstLow = false) := by
  refine ⟨?_, ?_, ?_, ?_⟩
  · exact ⟨live, .can, by unfold Accepted; decide +kernel⟩
  · exact ⟨{ live with aon := { unlockAt := some 0 }, clk := { now := 3072000000 } }, .can, 0, by unfold Accepted; decide +kernel⟩
  · exact ⟨{ live with aon := { unlockAt := some 0 }, clk := { now := 3072000001 } }, .can, 0, by unfold Accepted; decide +kernel⟩
  · exact ⟨live, .can, by unfold Accepted; decide +kernel⟩

theorem test_witness_PowerRequests :
    (∃ (s : State) (p : Path) (d : DomainId), Accepted s p (domIdx d.val) 2 0 ∧ s.domain d.val = .on)
    ∧ (∃ (s : State) (p : Path) (d : DomainId), Accepted s p (domIdx d.val) 2 1 ∧ s.domain d.val = .off ∧ d.val ∉ s.pwr.failed ∧ s.pwr.waitWake = [] ∧ s.wakingCount < s.ob 0x2200 2)
    ∧ (∃ (s : State) (p : Path) (d : DomainId), Accepted s p (domIdx d.val) 2 2 ∧ s.domain d.val = .on)
    ∧ (∃ (s : State) (p : Path) (d : DomainId), Accepted s p (domIdx d.val) 4 1 ∧ s.domain d.val = .on)
    ∧ (∃ (s : State) (p : Path), Accepted s p 0x2303 1 1 ∧ s.cox.running = true)
    ∧ (∃ (s : State) (p : Path), Accepted s p 0x2303 1 2 ∧ s.cox.running = true) := by
  refine ⟨?_, ?_, ?_, ?_, ?_, ?_⟩
  · exact ⟨live, .can, 16, by unfold Accepted; decide +kernel⟩
  · exact ⟨{ live with pwr := { live.pwr with dom := (List.range 50).map (fun d => (d, if d = 47 then .off else .on)) } }, .can, 47, by unfold Accepted; decide +kernel⟩
  · exact ⟨live, .can, 39, by unfold Accepted; decide +kernel⟩
  · exact ⟨live, .can, 4, by unfold Accepted; decide +kernel⟩
  · exact ⟨{ live with cox := { live.cox with running := true } }, .can, by unfold Accepted; decide +kernel⟩
  · exact ⟨{ live with cox := { live.cox with running := true } }, .can, by unfold Accepted; decide +kernel⟩

theorem test_witness_CollectorCommands :
    (∃ (s : State) (p : Path) (x : _), Accepted s p 0x2420 5 1 ∧ sfind s.flt.list (s.ob 0x2420 1) = some x ∧ x.state = .raised)
    ∧ (∃ (s : State) (p : Path) (x : _), Accepted s p 0x2420 5 2 ∧ sfind s.flt.list (s.ob 0x2420 1) = some x)
    ∧ (∃ (s : State) (p : Path), Accepted s p 0x2420 5 3)
    ∧ (∃ (s : State) (p : Path), Accepted s p 0x2420 5 4)
    ∧ (∃ (s : State) (p : Path) (m : _), m < 2 ^ 32 ∧ Accepted s p 0x2428 4 m)
    ∧ (∃ (s : State) (p : Path) (m : _), m < 2 ^ 32 ∧ Accepted s p 0x2428 5 m)
    ∧ (∃ (s : State) (p : Path), Accepted s p 0x2430 3 1)
    ∧ (∃ (s : State) (p : Path) (data : Bytes), data.length = 8 ∧ s.writeRefused { who := .path p, index := 0x2411, sub := 0, data := data, off := 0 } = none)
    ∧ (∃ (s : State) (p : Path), Accepted s p 0x2440 3 1)
    ∧ (∃ (s : State) (p : Path), Accepted s p 0x2440 3 2 ∧ s.flt.inject = .armed)
    ∧ (∃ (s : State) (p : Path), Accepted s p 0x2441 3 1 ∧ s.flt.input.length < 64) := by
  refine ⟨?_, ?_, ?_, ?_, ?_, ?_, ?_, ?_, ?_, ?_, ?_⟩
  · exact ⟨({ live with flt := { list := [(0, { state := .raised })] } }), .can, { state := .raised }, by unfold Accepted; decide +kernel⟩
  · exact ⟨({ live with flt := { list := [(0, { state := .raised })] } }), .can, { state := .raised }, by unfold Accepted; decide +kernel⟩
  · exact ⟨live, .can, by unfold Accepted; decide +kernel⟩
  · exact ⟨live, .can, by unfold Accepted; decide +kernel⟩
  · exact ⟨live, .can, 4294967295, by unfold Accepted; decide +kernel⟩
  · exact ⟨live, .can, 4294967295, by unfold Accepted; decide +kernel⟩
  · exact ⟨live, .can, by unfold Accepted; decide +kernel⟩
  · exact ⟨live, .can, [250, 0, 0, 0, 0, 0, 1, 1], by decide +kernel⟩
  · exact ⟨live.obSet 0x2440 1 0x14000001, .can, by unfold Accepted; decide +kernel⟩
  · exact ⟨{ live with flt := { inject := .armed } }, .can, by unfold Accepted; decide +kernel⟩
  · exact ⟨({ live with pins := { testMode := true } }.obSet 0x2441 1 (1 <<< 48)).obSet 0x2441 2 0x0101, .can, by unfold Accepted; decide +kernel⟩

theorem test_witness_BlockCommands :
    (∃ (s : State) (p : Path) (n : RouterId), Accepted s p (0x4000 + n.val) 0x81 1)
    ∧ (∃ (s : State) (p : Path) (n : RouterId) (v : _), v < 2 ^ 64 ∧ v &&& 0xC3FFFF00001FFFFF = v ∧ Accepted s p (0x4200 + n.val) 3 v ∧ (s.ni n.val).shape = [])
    ∧ (∃ (s : State) (p : Path) (n : RouterId), Accepted s p (0x4300 + n.val) 5 1)
    ∧ (∃ (s : State) (p : Path) (n : RouterId), Accepted s p (0x4300 + n.val) 5 2 ∧ (s.ni n.val).pendGates.isSome = true)
    ∧ (∃ (s : State) (p : Path) (k : ClusterId) (pool : Fin 8) (config : _), config < 2 ^ 63 ∧ Accepted s p (0x4800 + k.val) (0x30 + pool.val) (config ||| 2 ^ 63) ∧ poolEnabled (s.poolCfg k.val pool.val) = false)
    ∧ (∃ (s : State) (p : Path) (k : ClusterId) (pool : Fin 8), Accepted s p (0x4800 + k.val) (0x30 + pool.val) (s.poolCfg k.val pool.val % 2 ^ 63) ∧ poolEnabled (s.poolCfg k.val pool.val) = true)
    ∧ (∃ (s : State) (p : Path) (k : ClusterId) (v : _), v < 256 ∧ Accepted s p (0x4800 + k.val) 1 v)
    ∧ (∃ (s : State) (p : Path) (e : EngineId) (config : _), config < 2 ^ 31 ∧ Accepted s p (0x4C00 + e.val) 4 (config ||| 2 ^ 31) ∧ bitAt (qConfig s e.val (s.ob (0x4C00 + e.val) 1)) 31 = false)
    ∧ (∃ (s : State) (p : Path) (e : EngineId), Accepted s p (0x4C00 + e.val) 4 (qConfig s e.val (s.ob (0x4C00 + e.val) 1) % 2 ^ 31) ∧ bitAt (qConfig s e.val (s.ob (0x4C00 + e.val) 1)) 31 = true)
    ∧ (∃ (s : State) (p : Path) (e : EngineId), Accepted s p (0x4C00 + e.val) 0x14 1 ∧ (s.ring e.val (s.ob (0x4C00 + e.val) 0x10)).state = .error)
    ∧ (∃ (s : State) (p : Path) (i : Fin 16), Accepted s p (0x4E00 + i.val) 8 1) := by
  refine ⟨?_, ?_, ?_, ?_, ?_, ?_, ?_, ?_, ?_, ?_, ?_⟩
  · exact ⟨live, .can, 47, by unfold Accepted; decide +kernel⟩
  · exact ⟨live, .can, 0, 0x8200000000100000, by unfold Accepted; decide +kernel⟩
  · exact ⟨live, .can, 0, by unfold Accepted; decide +kernel⟩
  · exact ⟨live.setNi 47 { pendGates := some ({}, 3072000) }, .can, 47, by unfold Accepted; decide +kernel⟩
  · exact ⟨live, .can, 0, 7, (1 <<< 40), by unfold Accepted; decide +kernel⟩
  · exact ⟨live.obSet 0x4800 0x30 (2 ^ 63), .can, 0, 0, by unfold Accepted; decide +kernel⟩
  · exact ⟨live, .can, 23, 12, by unfold Accepted; decide +kernel⟩
  · exact ⟨live, .can, 7, 0x03100000, by unfold Accepted; decide +kernel⟩
  · exact ⟨live.setKv (skey 0x4C00 4 0) 0x83100000, .can, 0, by unfold Accepted; decide +kernel⟩
  · exact ⟨live.setRing 0 0 { state := .error }, .can, 0, by unfold Accepted; decide +kernel⟩
  · exact ⟨live, .can, 15, by unfold Accepted; decide +kernel⟩

theorem test_witness_LinkCommands :
    (∃ (s : State) (p : Path) (r : RouterId) (q : Port), Accepted s p (0x3000 + r.val) (16 * portNum q + 15) 1 ∧ s.linkState r.val (portNum q) = .up)
    ∧ (∃ (s : State) (p : Path) (r : RouterId) (q : Port), Accepted s p (0x3000 + r.val) (16 * portNum q + 15) 2 ∧ s.linkState r.val (portNum q) = .up)
    ∧ (∃ (s : State) (p : Path) (r : RouterId) (q : Port), Accepted s p (0x3000 + r.val) (16 * portNum q + 15) 3 ∧ s.linkState r.val (portNum q) = .up)
    ∧ (∃ (s : State) (p : Path) (b : BridgeId), Accepted s p (brIdx b.val) 0xC 1 ∧ (s.br b.val).state = .up)
    ∧ (∃ (s : State) (p : Path) (b : BridgeId), Accepted s p (brIdx b.val) 0xC 2)
    ∧ (∃ (s : State) (p : Path) (b : BridgeId), Accepted s p (brIdx b.val) 0xC 3)
    ∧ (∃ (s : State) (p : Path) (b : BridgeId), Accepted s p (brIdx b.val) 0xC 4 ∧ 2 ≤ b.val ∧ (s.br b.val).state = .recovery) := by
  refine ⟨?_, ?_, ?_, ?_, ?_, ?_, ?_⟩
  · exact ⟨{ live with fabric := { bonds := [(4 * 0 + 1, { state := .up })], act := { maintPeriod := 1500, maintOffset := [(1, 0)] } } }, .can, 0, .E, by unfold Accepted; decide +kernel⟩
  · exact ⟨{ live with fabric := { bonds := [(4 * 0 + 1, { state := .up })], act := { maintPeriod := 1500, maintOffset := [(1, 0)] } } }, .can, 0, .E, by unfold Accepted; decide +kernel⟩
  · exact ⟨{ live with fabric := { bonds := [(4 * 0 + 1, { state := .up })], act := { maintPeriod := 1500, maintOffset := [(1, 0)] } } }, .can, 0, .E, by unfold Accepted; decide +kernel⟩
  · exact ⟨live.setBr 13 { state := .up }, .can, 13, by unfold Accepted; decide +kernel⟩
  · exact ⟨live, .can, 0, by unfold Accepted; decide +kernel⟩
  · exact ⟨live, .can, 0, by unfold Accepted; decide +kernel⟩
  · exact ⟨(live.setBr 2 { state := .recovery }).obSet 0x5100 0x20 1, .can, 2, by unfold Accepted; decide +kernel⟩

theorem test_witness_BoathouseCommands :
    (∃ (s : State) (p : Path), Accepted s p 0x2601 4 1 ∧ s.boat.jtag ≠ .lockedOut)
    ∧ (∃ (s : State) (p : Path), Accepted s p 0x2601 4 2 ∧ s.boat.jtag ≠ .lockedOut)
    ∧ (∃ (s : State) (p : Path) (sig : Bytes), sig.length = 96 ∧ s.boat.response = [] ∧ s.writeRefused { who := .path p, index := 0x2601, sub := 3, data := sig } = none ∧ s.boat.jtag = .challenged)
    ∧ (∃ (s : State), s.boat.jtag = .challenged)
    ∧ (∃ (s : State) (p : Path), Accepted s p 0x2602 2 1)
    ∧ (∃ (s : State) (p : Path), Accepted s p 0x2602 2 2)
    ∧ (∃ (s : State) (p : Path) (slotB : _), Accepted s p 0x2620 4 (1 + b2n slotB))
    ∧ (∃ (s : State) (p : Path) (slotB : _), Accepted s p 0x2620 4 (3 + b2n slotB)) := by
  refine ⟨?_, ?_, ?_, ?_, ?_, ?_, ?_, ?_⟩
  · exact ⟨live, .can, by unfold Accepted; decide +kernel⟩
  · exact ⟨live, .can, by unfold Accepted; decide +kernel⟩
  · exact ⟨{ live with boat := { live.boat with jtag := .challenged } }, .can, List.replicate 96 0, by decide +kernel⟩
  · exact ⟨{ live with boat := { live.boat with jtag := .challenged } }, by decide +kernel⟩
  · exact ⟨({ moored with img := { state := .validated } }).obSet 0x2602 3 1, .can, by unfold Accepted; decide +kernel⟩
  · exact ⟨{ live with img := { state := .staged } }, .can, by unfold Accepted; decide +kernel⟩
  · exact ⟨{ live with img := { state := .staged }, boat := { live.boat with flash := { state := .ready } } }, .can, true, by unfold Accepted; decide +kernel⟩
  · exact ⟨{ live with boat := { live.boat with flash := { state := .ready } } }, .can, false, by unfold Accepted; decide +kernel⟩

theorem test_witness_NmtCommands :
    (∃ (s : State) (node : Nat), s.named node = true ∧ (s.dev = .moored ∨ s.dev = .launch))
    ∧ (∃ (s : State) (node : Nat), s.named node = true ∧ s.dev = .afloat)
    ∧ (∃ (s : State) (node : Nat), s.named node = true ∧ (s.dev = .easy ∨ s.dev = .halted))
    ∧ (∃ (s : State) (node : Nat), s.named node = true)
    ∧ (∃ (s : State) (node : Nat), s.named node = true ∧ s.can.busOff = false)
    ∧ (∃ (s : State) (node : Nat), s.named node = true ∧ s.ob 0x2000 5 = 1 ∧ s.aon.resetting = none)
    ∧ (∃ (s : State) (node : Nat), s.named node = true ∧ s.ob 0x2000 5 ≠ 1)
    ∧ (∃ (s : State) (node : Nat), s.named node = false) := by
  refine ⟨?_, ?_, ?_, ?_, ?_, ?_, ?_, ?_⟩
  · exact ⟨live, 0, by decide +kernel⟩
  · exact ⟨{ live with dev := .afloat }, 0x5F, by decide +kernel⟩
  · exact ⟨{ live with dev := .halted }, 0x5F, by decide +kernel⟩
  · exact ⟨live, 0x5F, by decide +kernel⟩
  · exact ⟨live, 0x5F, by decide +kernel⟩
  · exact ⟨live.obSet 0x2000 5 1, 0x5F, by decide +kernel⟩
  · exact ⟨live.obSet 0x2000 5 0, 0, by decide +kernel⟩
  · exact ⟨live, 127, by decide +kernel⟩

theorem test_witness_SdoRequests :
    (∃ (s : State), s.sdoServed = true ∧ s.dict.sdo = none ∧ s.dict.queue.length < 16)
    ∧ (∃ (s : State), s.sdoServed = true ∧ s.dict.sdo = none ∧ s.dict.queue.length < 16)
    ∧ (∃ (s : State) (x : _) (toggle : _), s.sdoServed = true ∧ s.dict.sdo = some x ∧ x.download = true ∧ s.nextToggle x = toggle ∧ s.dict.queue.length < 16)
    ∧ (∃ (s : State) (x : _) (toggle : _), s.sdoServed = true ∧ s.dict.sdo = some x ∧ x.download = false ∧ s.nextToggle x = toggle ∧ s.dict.queue.length < 16)
    ∧ (∃ (s : State) (x : _) (toggle : _), s.sdoServed = true ∧ s.dict.sdo = some x ∧ s.nextToggle x ≠ toggle ∧ s.can.busOff = false ∧ x.download = true)
    ∧ (∃ (s : State) (x : _) (toggle : _), s.sdoServed = true ∧ s.dict.sdo = some x ∧ s.nextToggle x ≠ toggle ∧ s.can.busOff = false ∧ x.download = false)
    ∧ (∃ (s : State), s.sdoServed = true ∧ s.dict.sdo = none ∧ 16 ≤ s.dict.queue.length ∧ s.freshCount = 0 ∧ s.can.busOff = false)
    ∧ (∃ (s : State), s.sdoServed = true)
    ∧ (∃ (s : State), s.sdoServed = true ∧ s.dict.sdo = none ∧ s.can.busOff = false)
    ∧ (∃ (s : State) (x : _), s.sdoServed = true ∧ s.dict.sdo = some x ∧ s.can.busOff = false) := by
  refine ⟨?_, ?_, ?_, ?_, ?_, ?_, ?_, ?_, ?_, ?_⟩
  · exact ⟨{ live with dict := { owner := some .can, queue := List.replicate 15 (.sdo (.initUpload 0x1000 0)), sdo := none } }, by decide +kernel⟩
  · exact ⟨{ live with dict := { owner := some .can, queue := List.replicate 15 (.sdo (.initUpload 0x1000 0)), sdo := none } }, by decide +kernel⟩
  · exact ⟨{ live with dict := { owner := some .can, queue := List.replicate 15 (.sdo (.initUpload 0x1000 0)), sdo := some { download := true, index := 0x1008, sub := 0, toggle := true } } }, { download := true, index := 0x1008, sub := 0, toggle := true }, true, by decide +kernel⟩
  · exact ⟨{ live with dict := { owner := some .can, queue := List.replicate 15 (.sdo (.initUpload 0x1000 0)), sdo := some { download := false, index := 0x1008, sub := 0, buf := List.replicate 8 1 } } }, { download := false, index := 0x1008, sub := 0, buf := List.replicate 8 1 }, false, by decide +kernel⟩
  · exact ⟨{ live with dict := { owner := some .can, queue := [], sdo := some { download := true, index := 0x1008, sub := 0, toggle := true } } }, { download := true, index := 0x1008, sub := 0, toggle := true }, false, by decide +kernel⟩
  · exact ⟨{ live with dict := { owner := some .can, queue := [], sdo := some { download := false, index := 0x1008, sub := 0, buf := List.replicate 8 1 } } }, { download := false, index := 0x1008, sub := 0, buf := List.replicate 8 1 }, true, by decide +kernel⟩
  · exact ⟨{ live with dict := { owner := some .can, queue := List.replicate 16 (.sdo (.initUpload 0x1000 0)), sdo := none } }, by decide +kernel⟩
  · exact ⟨live, by decide +kernel⟩
  · exact ⟨live, by decide +kernel⟩
  · exact ⟨{ live with dict := { owner := some .can, queue := [], sdo := some { download := true, index := 0x1008, sub := 0, toggle := true } } }, { download := true, index := 0x1008, sub := 0, toggle := true }, by decide +kernel⟩

theorem test_witness_RequestService :
    (∃ (s : State) (rest : _) (i : _) (j : _) (c : _), s.can.busOff = false ∧ s.dev ≠ .standby ∧ s.dict.queue = .sdo (.initUpload i j) :: rest ∧ s.dict.sdo = none ∧ s.readRefused (.path .can) i j = some c)
    ∧ (∃ (s : State) (rest : _), s.can.busOff = false ∧ s.dev ≠ .standby ∧ s.dict.queue = .sdo (.initUpload 0x1017 0) :: rest ∧ s.dict.sdo = none)
    ∧ (∃ (s : State) (rest : _) (v : _), s.can.busOff = false ∧ s.dev ≠ .standby ∧ v < 65536 ∧ s.dict.queue = .sdo (.initDownload 0x1017 0 true (leBytes v 2)) :: rest ∧ s.dict.sdo = none ∧ Accepted s .can 0x1017 0 v)
    ∧ (∃ (s : State) (rest : _) (x : _) (last : _) (data : Bytes), s.can.busOff = false ∧ s.dev ≠ .standby ∧ s.dict.queue = .sdo (.segDownload x.toggle last data) :: rest ∧ s.dict.sdo = some x ∧ x.download = true ∧ last = false)
    ∧ (∃ (s : State) (rest : _) (x : _), s.can.busOff = false ∧ s.dev ≠ .standby ∧ s.dict.queue = .sdo (.segUpload x.toggle) :: rest ∧ s.dict.sdo = some x ∧ x.download = false ∧ 7 < x.buf.length)
    ∧ (∃ (s : State), s.can.busOff = false ∧ s.dev ≠ .standby ∧ s.dict.queue = []) := by
  refine ⟨?_, ?_, ?_, ?_, ?_, ?_⟩
  · exact ⟨{ live with dict := { owner := some .can, queue := [.sdo (.initUpload 0x1FFF 0)], sdo := none } }, [], 0x1FFF, 0, 0x06020000, by decide +kernel⟩
  · exact ⟨{ live with dict := { owner := some .can, queue := [.sdo (.initUpload 0x1017 0)], sdo := none } }, [], by decide +kernel⟩
  · exact ⟨{ live with dict := { owner := some .can, queue := [.sdo (.initDownload 0x1017 0 true (leBytes 65535 2))], sdo := none } }, [], 65535, by unfold Accepted; decide +kernel⟩
  · exact ⟨{ live with dict := { owner := some .can, queue := [.sdo (.segDownload true false [1, 2, 3, 4, 5, 6, 7])], sdo := some { download := true, index := 0x1008, sub := 0, toggle := true } } }, [], { download := true, index := 0x1008, sub := 0, toggle := true }, false, [1, 2, 3, 4, 5, 6, 7], by decide +kernel⟩
  · exact ⟨{ live with dict := { owner := some .can, queue := [.sdo (.segUpload false)], sdo := some { download := false, index := 0x1008, sub := 0, buf := List.replicate 8 1 } } }, [], { download := false, index := 0x1008, sub := 0, buf := List.replicate 8 1 }, by decide +kernel⟩
  · exact ⟨live, by decide +kernel⟩

theorem test_witness_PdosAndSync :
    (∃ (s : State), s.can.busOff = false ∧ s.onBus = true ∧ s.dev ≠ .halted ∧ s.can.nmt = .preOperational ∧ s.can.reported = false)
    ∧ (∃ (s : State), s.can.busOff = false ∧ s.onBus = true ∧ (s.dev = .halted ∨ s.can.nmt = .stopped))
    ∧ (∃ (s : State) (k : _), s.can.busOff = false ∧ s.onBus = true ∧ k < 4 ∧ s.dev ≠ .halted ∧ s.can.nmt = .operational ∧ s.can.reported = false ∧ s.can.rpdo = [] ∧ s.pdoValid (0x1800 + k) = true ∧ 1 ≤ s.ob (0x1800 + k) 2 ∧ s.ob (0x1800 + k) 2 ≤ 240 ∧ s.ob (0x1800 + k) 2 ≤ sget 0 s.can.tpdoAge k + 1 ∧ (∀ j, j < 4 → j ≠ k → s.pdoValid (0x1800 + j) = false))
    ∧ (∃ (s : State), s.can.busOff = false ∧ s.onBus = true ∧ s.dev ≠ .halted ∧ s.can.nmt = .operational ∧ s.can.reported = false ∧ s.can.outState = .holding ∧ s.can.hold = some 2 ∧ s.ob 0x2022 3 = 0 ∧ s.can.timedOut ≠ [] ∧ (∀ j, j < 4 → s.pdoValid (0x1800 + j) = false))
    ∧ (∃ (s : State) (k : Fin 4) (data : Bytes), s.can.busOff = false ∧ s.onBus = true ∧ s.can.nmt = .operational ∧ s.pdoValid (0x1400 + k.val) = true ∧ data.length = ((s.mapping (0x1600 + k.val)).map (fun e => e.2.2)).sum)
    ∧ (∃ (s : State) (k : Fin 4) (data : Bytes), s.can.busOff = false ∧ s.onBus = true ∧ s.can.nmt = .operational ∧ s.pdoValid (0x1400 + k.val) = true ∧ data.length ≠ ((s.mapping (0x1600 + k.val)).map (fun e => e.2.2)).sum ∧ s.can.inhibit = false)
    ∧ (∃ (s : State) (k : Fin 4), s.can.busOff = false ∧ s.onBus = true ∧ s.can.nmt = .operational ∧ s.pdoValid (0x1800 + k.val) = true ∧ s.ob (0x1800 + k.val) 2 = 254 ∧ s.ob (0x1800 + k.val) 5 ≠ 0)
    ∧ (∃ (s : State), s.can.busOff = false ∧ s.onBus = true ∧ s.ob 0x1006 0 ≠ 0 ∧ s.can.syncLost = false ∧ s.can.outState = .live ∧ s.can.inhibit = false)
    ∧ (∃ (s : State) (c : _), s.can.busOff = false ∧ s.onBus = true ∧ s.can.outState = .holding ∧ s.can.hold = some c ∧ s.can.inhibit = false ∧ (∀ j, j < 4 → s.pdoValid (0x1400 + j) = false)) := by
  refine ⟨?_, ?_, ?_, ?_, ?_, ?_, ?_, ?_, ?_⟩
  · exact ⟨live, by decide +kernel⟩
  · exact ⟨{ live with can := { live.can with nmt := .stopped } }, by decide +kernel⟩
  · exact ⟨({ live with can := { live.can with nmt := .operational, tpdoAge := [(3, 239)] } }.obSet 0x1803 1 0x4DF).obSet 0x1803 2 240, 3, by decide +kernel⟩
  · exact ⟨{ live with can := { live.can with nmt := .operational, outState := .holding, hold := some 2, timedOut := [1] } }, by decide +kernel⟩
  · exact ⟨(({ live with can := { live.can with nmt := .operational } }.obSet 0x1403 1 0x51F).obSet 0x1603 0 1).obSet 0x1603 1 0x21100208, 3, [1], by decide +kernel⟩
  · exact ⟨{ live with can := { live.can with nmt := .operational } }.obSet 0x1400 1 0x21F, 0, [1], by decide +kernel⟩
  · exact ⟨(({ live with can := { live.can with nmt := .operational } }.obSet 0x1800 1 0x19F).obSet 0x1800 2 254).obSet 0x1800 5 1, 0, by decide +kernel⟩
  · exact ⟨live.obSet 0x1006 0 1000, by decide +kernel⟩
  · exact ⟨{ live with can := { live.can with outState := .holding, hold := some 2 } }, 2, by decide +kernel⟩

theorem test_witness_HeartbeatsAndErrors :
    (∃ (s : State), s.dev ≠ .standby ∧ s.dev ≠ .muster ∧ s.can.busOff = false ∧ s.can.bootUp = true ∧ s.ob 0x1017 0 ≠ 0)
    ∧ (∃ (s : State) (node : _), s.dev ≠ .standby ∧ s.dev ≠ .muster ∧ node ∈ s.stations)
    ∧ (∃ (s : State) (node : _), s.dev ≠ .standby ∧ node ∈ s.can.watched ∧ s.dict.owner ≠ some .can ∧ s.can.inhibit = false ∧ s.can.busOff = false)
    ∧ (∃ (s : State) (node : _), s.dev ≠ .standby ∧ node ∈ s.can.watched ∧ s.dict.owner = some .can ∧ s.ob 0x2010 4 = node ∧ node ≠ 0)
    ∧ (∃ (s : State), s.dev ≠ .standby ∧ s.can.emcyQ = [])
    ∧ (∃ (s : State) (e : _) (rest : _), s.dev ≠ .standby ∧ s.can.emcyQ = e :: rest ∧ s.can.busOff = false ∧ s.ob 0x1015 0 ≠ 0)
    ∧ (∃ (s : State), s.dev ≠ .standby ∧ s.can.busOff = false)
    ∧ (∃ (s : State), s.dev ≠ .standby ∧ s.can.busOff = true ∧ s.can.inhibit = false ∧ s.can.emcyQ = [])
    ∧ (∃ (s : State), s.dev ≠ .standby ∧ s.can.busOff = false ∧ s.can.errPassive = false ∧ s.can.inhibit = false)
    ∧ (∃ (s : State), s.dev ≠ .standby ∧ s.can.errPassive = true)
    ∧ (∃ (s : State), s.dev ≠ .standby ∧ s.can.busOff = false ∧ s.can.inhibit = false) := by
  refine ⟨?_, ?_, ?_, ?_, ?_, ?_, ?_, ?_, ?_, ?_, ?_⟩
  · exact ⟨live, by decide +kernel⟩
  · exact ⟨live.obSet 0x1016 8 0x7F0001, 0x7F, by decide +kernel⟩
  · exact ⟨{ live with dict := { owner := none }, can := { live.can with watched := [1] } }, 1, by decide +kernel⟩
  · exact ⟨({ live with can := { live.can with watched := [1] } }).obSet 0x2010 4 1, 1, by decide +kernel⟩
  · exact ⟨live, by decide +kernel⟩
  · exact ⟨({ live with can := { live.can with emcyQ := [{ code := 0x1000 }] } }).obSet 0x1015 0 1, { code := 0x1000 }, [], by decide +kernel⟩
  · exact ⟨live, by decide +kernel⟩
  · exact ⟨{ live with can := { live.can with busOff := true } }, by decide +kernel⟩
  · exact ⟨live, by decide +kernel⟩
  · exact ⟨{ live with can := { live.can with errPassive := true } }, by decide +kernel⟩
  · exact ⟨live, by decide +kernel⟩

theorem test_witness_ImageTransfer :
    (∃ (s : State) (n : _), s.transferServed = true ∧ s.can.busOff = false ∧ 0 < n ∧ n ≤ 2097152 ∧ s.dict.owner = some .can ∧ s.xferState = 0)
    ∧ (∃ (s : State) (n : _), s.transferServed = true ∧ s.can.busOff = false ∧ 0 < n ∧ n ≤ 2097152 ∧ s.dict.owner ≠ some .can)
    ∧ (∃ (s : State) (off : _) (n : _), s.transferServed = true ∧ s.can.busOff = false ∧ s.img.xfer = .openCan ∧ off = s.ob 0x2080 3 ∧ 0 < n ∧ n ≤ 56 ∧ off + n ≤ s.ob 0x2080 2)
    ∧ (∃ (s : State) (off : _) (n : _), s.transferServed = true ∧ s.can.busOff = false ∧ s.img.xfer = .openCan ∧ off ≠ s.ob 0x2080 3 ∧ 0 < n ∧ n ≤ 56 ∧ off + n ≤ s.ob 0x2080 2)
    ∧ (∃ (s : State) (crc : _), s.transferServed = true ∧ s.can.busOff = false ∧ s.img.xfer = .openCan ∧ s.ob 0x2080 3 = s.ob 0x2080 2 ∧ crc = crc32c s.staged)
    ∧ (∃ (s : State) (crc : _), s.transferServed = true ∧ s.can.busOff = false ∧ s.img.xfer = .openCan ∧ s.ob 0x2080 3 = s.ob 0x2080 2 ∧ crc ≠ crc32c s.staged)
    ∧ (∃ (s : State), s.transferServed = true ∧ s.can.busOff = false ∧ s.img.xfer = .openCan)
    ∧ (∃ (s : State), s.transferServed = true ∧ s.can.busOff = false ∧ s.img.xfer ≠ .openCan)
    ∧ (∃ (s : State), s.transferServed = true ∧ s.can.busOff = false)
    ∧ (∃ (s : State), s.transferServed = true ∧ s.can.busOff = false ∧ s.img.xfer = .openCan ∧ s.can.ackTimer = true)
    ∧ (∃ (s : State), s.transferServed = true ∧ s.can.busOff = false ∧ s.img.xfer = .openCan)
    ∧ (∃ (s : State), s.transferServed = true ∧ s.can.busOff = false ∧ s.can.ackTimer = false) := by
  refine ⟨?_, ?_, ?_, ?_, ?_, ?_, ?_, ?_, ?_, ?_, ?_, ?_⟩
  · exact ⟨live, 2097152, by decide +kernel⟩
  · exact ⟨free, 1, by decide +kernel⟩
  · exact ⟨(({ live with img := { xfer := .openCan } }).obSet 0x2080 2 2097152).obSet 0x2080 3 2097096, 2097096, 56, by decide +kernel⟩
  · exact ⟨(({ live with img := { xfer := .openCan } }).obSet 0x2080 2 2097152).obSet 0x2080 3 56, 2097096, 56, by decide +kernel⟩
  · exact ⟨{ live with img := { xfer := .openCan } }, crc32c [], by decide +kernel⟩
  · exact ⟨{ live with img := { xfer := .openCan } }, crc32c [] + 1, by decide +kernel⟩
  · exact ⟨{ live with img := { xfer := .openCan } }, by decide +kernel⟩
  · exact ⟨live, by decide +kernel⟩
  · exact ⟨live, by decide +kernel⟩
  · exact ⟨{ live with img := { xfer := .openCan }, can := { live.can with ackTimer := true } }, by decide +kernel⟩
  · exact ⟨{ live with img := { xfer := .openCan } }, by decide +kernel⟩
  · exact ⟨live, by decide +kernel⟩

theorem test_witness_HostImageTransfer :
    (∃ (s : State) (p : Path), Accepted s p 0x2080 6 1)
    ∧ (∃ (s : State) (p : Path) (off : _) (data : Bytes), data ≠ [] ∧ s.writeRefused { who := .path p, index := 0x2081, sub := 0, data := data, off := off } = none)
    ∧ (∃ (s : State) (p : Path), Accepted s p 0x2080 6 2 ∧ s.img.staging.length = s.ob 0x2080 2)
    ∧ (∃ (s : State) (p : Path), Accepted s p 0x2080 6 2 ∧ s.img.staging.length ≠ s.ob 0x2080 2)
    ∧ (∃ (s : State) (p : Path), Accepted s p 0x2080 6 3 ∧ s.img.xfer = .openHost) := by
  refine ⟨?_, ?_, ?_, ?_, ?_⟩
  · exact ⟨hosted.obSet 0x2080 7 2097152, .hb0, by unfold Accepted; decide +kernel⟩
  · exact ⟨({ hosted with img := { xfer := .openHost, staging := [(0, 7)] } }).obSet 0x2080 2 1, .hb0, 0, [7], by decide +kernel⟩
  · exact ⟨({ hosted with img := { xfer := .openHost, staging := [(0, 7)] } }).obSet 0x2080 2 1, .hb0, by unfold Accepted; decide +kernel⟩
  · exact ⟨({ hosted with img := { xfer := .openHost } }).obSet 0x2080 2 1, .hb0, by unfold Accepted; decide +kernel⟩
  · exact ⟨({ hosted with img := { xfer := .openHost, staging := [(0, 7)] } }).obSet 0x2080 2 1, .hb0, by unfold Accepted; decide +kernel⟩

theorem test_witness_LinkFlits :
    (∃ (s : State) (r : RouterId) (p : Port) (f : _) (rest : _), hasPort r.val (portNum p) = true ∧ (s.dir r.val (portNum p)).wire = f :: rest ∧ f.inj = 0 ∧ f.rrq = false ∧ isPacketFlit f = true ∧ f.seq = (s.dir r.val (portNum p)).expected ∧ s.linkState r.val (portNum p) ≠ .down ∧ s.route (neighbour r.val (portNum p)) (opposite (portNum p)) f.lane = none ∧ (s.dir (neighbour r.val (portNum p)) (opposite (portNum p))).fifth = none)
    ∧ (∃ (s : State) (r : RouterId) (p : Port) (f : _) (rest : _), hasPort r.val (portNum p) = true ∧ (s.dir r.val (portNum p)).wire = f :: rest ∧ f.inj = 0 ∧ (s.dir (neighbour r.val (portNum p)) (opposite (portNum p))).fifth = none)
    ∧ (∃ (s : State) (r : RouterId) (f : _) (rest : _), sget [] s.fabric.toNi r.val = f :: rest ∧ f.inj = 0 ∧ f.ft = .single ∧ sget [] (s.ni r.val).asm f.lane = [] ∧ s.answers (niDom r.val) = true)
    ∧ (∃ (s : State) (r : RouterId) (f : _) (rest : _), sget [] s.fabric.fromNi r.val = f :: rest ∧ f.inj = 0 ∧ s.route r.val 4 f.lane = none)
    ∧ (∃ (s : State) (r : RouterId) (o : Fin 5) (prec : _) (l : _) (i : _) (idx : _) (f : _) (x : _), o.val < 4 ∧ s.linkState r.val o.val = .up ∧ (s.dir r.val o.val).fifth = none ∧ (s.dir r.val o.val).replayPos = none ∧ (s.dir r.val o.val).replay.length < 32 ∧ s.chooseLink r.val o.val = some (prec, l, i) ∧ s.offer r.val o.val i l = some (idx, f, x))
    ∧ (∃ (s : State) (r : RouterId) (o : Fin 5), o.val < 4 ∧ s.linkState r.val o.val ≠ .up ∧ (s.dir r.val o.val).fifth = none)
    ∧ (∃ (s : State) (r : RouterId) (o : Fin 5) (prec : _) (l : _) (i : _) (idx : _) (f : _) (x : _), o.val = 4 ∧ s.chooseLocal r.val = some (prec, l, i) ∧ s.offer r.val 4 i l = some (idx, f, x))
    ∧ (∃ (s : State) (r : RouterId) (p : Port), s.linkState r.val (portNum p) = .up ∧ (s.dir r.val (portNum p)).replay ≠ [] ∧ (s.dir r.val (portNum p)).replayedAt s.clk.fab = false ∧ (s.dir r.val (portNum p)).fifth = none ∧ (s.dir r.val (portNum p)).oldest < 4)
    ∧ (∃ (s : State) (r : RouterId) (p : Port), s.linkState r.val (portNum p) = .up ∧ (s.dir r.val (portNum p)).replay ≠ [] ∧ (s.dir r.val (portNum p)).replayedAt s.clk.fab = false ∧ (s.dir r.val (portNum p)).fifth = none ∧ 4 ≤ (s.dir r.val (portNum p)).oldest)
    ∧ (∃ (s : State) (r : RouterId) (p : Port) (t0 : _), s.linkState r.val (portNum p) = .up ∧ (s.dir r.val (portNum p)).fifth = some t0 ∧ t0 < s.clk.fab ∧ (s.bond r.val (portNum p)).forced = []) := by
  refine ⟨?_, ?_, ?_, ?_, ?_, ?_, ?_, ?_, ?_, ?_⟩
  · exact ⟨{ linked .up with fabric := { (linked .up).fabric with dirs := [(1, { wire := [single] })] } }, 0, .E, single, [], by decide +kernel⟩
  · exact ⟨{ linked .up with fabric := { (linked .up).fabric with dirs := [(1, { wire := [single] })] } }, 0, .E, single, [], by decide +kernel⟩
  · exact ⟨{ live with fabric := { toNi := [(47, [single])] } }, 47, single, [], by decide +kernel⟩
  · exact ⟨{ live with fabric := { fromNi := [(47, [single])] } }, 47, single, [], by decide +kernel⟩
  · exact ⟨loaded 2 single [1], 0, 1, 6, 2, 4, 0, single, { outs := [1] }, by decide +kernel⟩
  · exact ⟨linked .init, 0, 1, by decide +kernel⟩
  · exact ⟨loaded 2 single [4], 0, 4, 6, 2, 4, 0, single, { outs := [4] }, by decide +kernel⟩
  · exact ⟨{ linked .up with fabric := { (linked .up).fabric with dirs := [(1, { replay := [single], oldest := 3 })] } }, 0, .E, by decide +kernel⟩
  · exact ⟨{ linked .up with fabric := { (linked .up).fabric with dirs := [(1, { replay := [single], oldest := 4 })] } }, 0, .E, by decide +kernel⟩
  · exact ⟨{ linked .up with clk := { now := 100000, fab := 100000 }, fabric := { (linked .up).fabric with dirs := [(1, { replay := [single], oldest := 4, fifth := some 99999 })] } }, 0, .E, 99999, by decide +kernel⟩

theorem test_witness_LinkRecovery :
    (∃ (s : State) (r : RouterId) (p : Port), s.linkState r.val (portNum p) = .up ∧ (s.bond r.val (portNum p)).planned = true ∧ s.maintBegins r.val (portNum p) = true)
    ∧ (∃ (s : State) (r : RouterId) (p : Port), ((s.bond r.val (portNum p)).planned = false ∨ s.maintBegins r.val (portNum p) = false))
    ∧ (∃ (s : State) (r : RouterId) (p : Port) (v : VerifiedPort), v.port = p ∧ verifyPasses v.there = true ∧ verifyPasses v.back = true ∧ s.linkState r.val (portNum p) = .init)
    ∧ (∃ (s : State) (r : RouterId) (p : Port) (v : VerifiedPort), v.port = p ∧ verifyPasses v.there = true ∧ verifyPasses v.back = true ∧ s.linkState r.val (portNum p) = .retrain)
    ∧ (∃ (s : State) (r : RouterId) (p : Port), (s.linkState r.val (portNum p) = .init ∨ s.linkState r.val (portNum p) = .retrain))
    ∧ (∃ (s : State) (r : RouterId) (p : Port) (v : VerifiedPort), v.port = p ∧ (verifyPasses v.there = false ∨ verifyPasses v.back = false) ∧ (s.linkState r.val (portNum p) = .init ∨ s.linkState r.val (portNum p) = .retrain)) := by
  refine ⟨?_, ?_, ?_, ?_, ?_, ?_⟩
  · exact ⟨{ live with fabric := { bonds := [(1, { state := .up, planned := true })], act := { maintPeriod := 150, maintOffset := [(1, 0)] } } }, 0, .E, by decide +kernel⟩
  · exact ⟨linked .up, 1, .W, by decide +kernel⟩
  · exact ⟨linked .init, 0, .E, { port := .E, there := { corrected := 4 } }, by decide +kernel⟩
  · exact ⟨linked .retrain, 0, .E, { port := .E, back := { corrected := 4 } }, by decide +kernel⟩
  · exact ⟨linked .retrain, 0, .E, by decide +kernel⟩
  · exact ⟨linked .retrain, 0, .E, { port := .E, back := { corrected := 5 } }, by decide +kernel⟩

theorem test_witness_HeadRouting :
    (∃ (s : State) (r : RouterId) (i : Fin 5) (l : Lane) (f : _) (rest : _) (h : _), s.buf r.val i.val l.val = f :: rest ∧ isHeadFlit f = true ∧ f.hdr = some h ∧ s.route r.val i.val l.val = none ∧ (l.val ≠ 7 → (s.governing r.val i.val h.pkey).isSome = true) ∧ s.fabric.act.confined = false ∧ (l.val = 2 ∨ l.val = 3) ∧ (xyOut r.val (faTarget h.fa) = 4 ∨ s.linkState r.val (xyOut r.val (faTarget h.fa)) ≠ .down))
    ∧ (∃ (s : State) (r : RouterId) (i : Fin 5) (l : Lane) (f : _) (rest : _) (h : _), s.buf r.val i.val l.val = f :: rest ∧ isHeadFlit f = true ∧ f.hdr = some h ∧ s.route r.val i.val l.val = none ∧ (l.val ≠ 7 → (s.governing r.val i.val h.pkey).isSome = true) ∧ s.fabric.act.confined = false ∧ l.val = 7 ∧ (l7Out r.val (faTarget h.fa) = 4 ∨ s.linkState r.val (l7Out r.val (faTarget h.fa)) ≠ .down))
    ∧ (∃ (s : State) (r : RouterId) (i : Fin 5) (l : Lane) (f : _) (rest : _) (h : _) (o : _), s.buf r.val i.val l.val = f :: rest ∧ isHeadFlit f = true ∧ f.hdr = some h ∧ s.route r.val i.val l.val = none ∧ (l.val ≠ 7 → (s.governing r.val i.val h.pkey).isSome = true) ∧ s.fabric.act.confined = false ∧ (l.val = 4 ∨ l.val = 5) ∧ s.adaptive r.val l.val (s.permitted r.val (faTarget h.fa) (decide (xOf r.val = xOf h.src)) none) = some o)
    ∧ (∃ (s : State) (r : RouterId) (i : Fin 5) (l : Lane) (f : _) (rest : _) (h : _), s.buf r.val i.val l.val = f :: rest ∧ isHeadFlit f = true ∧ f.hdr = some h ∧ s.route r.val i.val l.val = none ∧ (l.val ≠ 7 → (s.governing r.val i.val h.pkey).isSome = true) ∧ s.fabric.act.confined = false ∧ l.val = 6 ∧ maskTree r.val h.src (field h.mask 47 0) (opposite i.val) ≠ [])
    ∧ (∃ (s : State) (r : RouterId) (i : Fin 5) (l : Lane) (f : _) (rest : _) (h : _), s.buf r.val i.val l.val = f :: rest ∧ f.ft = .single ∧ f.hdr = some h ∧ s.route r.val i.val l.val = none ∧ l.val ≠ 7 ∧ s.governing r.val i.val h.pkey = none)
    ∧ (∃ (s : State) (r : RouterId) (i : Fin 5) (o : Fin 5) (x : _), s.route r.val i.val 6 = some x ∧ x.drop = false ∧ o.val ∈ x.outs ∧ o.val ∉ x.granted ∧ (o.val = 4 ∨ s.linkState r.val o.val = .up) ∧ s.branchReserved r.val o.val + (x.hdr.dflits + 1) ≤ s.credits r.val o.val 6)
    ∧ (∃ (s : State) (r : RouterId) (i : Fin 5) (o : Fin 5) (x : _), s.route r.val i.val 6 = some x ∧ x.drop = false ∧ o.val ∈ x.outs ∧ o.val ∉ x.granted ∧ o.val < 4 ∧ s.linkState r.val o.val ≠ .up ∧ without x.outs o.val ≠ [])
    ∧ (∃ (r : RouterId) (o : _), hasPort r.val o = true) := by
  refine ⟨?_, ?_, ?_, ?_, ?_, ?_, ?_, ?_⟩
  · exact ⟨({ live with fabric := { act := { pairs := [(40 * 9 + 8 * 4, 2 ^ 63)] }, bonds := [(4 * 9 + 1, { state := .up })] } }).setBuf 9 4 2 [{ ft := .single, lane := 2, hdr := some { fa := mkFa 0 10 0, src := 9 } }], 9, 4, 2, { ft := .single, lane := 2, hdr := some { fa := mkFa 0 10 0, src := 9 } }, [], { fa := mkFa 0 10 0, src := 9 }, by decide +kernel⟩
  · exact ⟨({ live with fabric := { act := { pairs := [(40 * 9 + 8 * 4, 2 ^ 63)] }, bonds := [(4 * 9 + 1, { state := .up })] } }).setBuf 9 4 7 [{ ft := .single, lane := 7, hdr := some { fa := mkFa 0 43 0, src := 9 } }], 9, 4, 7, { ft := .single, lane := 7, hdr := some { fa := mkFa 0 43 0, src := 9 } }, [], { fa := mkFa 0 43 0, src := 9 }, by decide +kernel⟩
  · exact ⟨({ live with fabric := { act := { pairs := [(40 * 9 + 8 * 4, 2 ^ 63)] }, bonds := [(4 * 9 + 1, { state := .up })] } }).setBuf 9 4 4 [{ ft := .single, lane := 4, hdr := some { fa := mkFa 0 10 0, src := 9 } }], 9, 4, 4, { ft := .single, lane := 4, hdr := some { fa := mkFa 0 10 0, src := 9 } }, [], { fa := mkFa 0 10 0, src := 9 }, 1, by decide +kernel⟩
  · exact ⟨({ live with fabric := { act := { pairs := [(40 * 9 + 8 * 4, 2 ^ 63)] }, bonds := [(4 * 9 + 1, { state := .up })] } }).setBuf 9 4 6 [{ ft := .single, lane := 6, hdr := some { src := 9, mask := 1 <<< 10 } }], 9, 4, 6, { ft := .single, lane := 6, hdr := some { src := 9, mask := 1 <<< 10 } }, [], { src := 9, mask := 1 <<< 10 }, by decide +kernel⟩
  · exact ⟨live.setBuf 9 4 2 [{ ft := .single, lane := 2, hdr := some { src := 9 } }], 9, 4, 2, { ft := .single, lane := 2, hdr := some { src := 9 } }, [], { src := 9 }, by decide +kernel⟩
  · exact ⟨(linked .up).setRoute 0 4 6 (some { hdr := { dflits := 15 }, outs := [1, 4], multi := true }), 0, 4, 1, { hdr := { dflits := 15 }, outs := [1, 4], multi := true }, by decide +kernel⟩
  · exact ⟨(linked .init).setRoute 0 4 6 (some { outs := [1, 4], multi := true }), 0, 4, 1, { outs := [1, 4], multi := true }, by decide +kernel⟩
  · exact ⟨47, 0, by decide +kernel⟩

theorem test_witness_AccessAccept :
    (∃ (s : State) (n : RouterId) (a : Access) (rest : List Access) (fa : _) (key : _) (tg : _), (s.ni n.val).inbox = a :: rest ∧ (s.ni n.val).cur = none ∧ (s.ni n.val).barrier = none ∧ a.kind = .read ∧ a.np = false ∧ a.mcast = none ∧ a.direct = some (fa, key) ∧ (s.ni n.val).newTag = some tg ∧ s.domain (niDom n.val) ≠ .fencing ∧ s.domain (niDom n.val) ≠ .draining ∧ faSpace fa < 2 ∧ validNi (faTarget fa) = true ∧ spaceAccepted (faTarget fa) (faSpace fa) = true ∧ 0 < a.len ∧ a.len ≤ 512 ∧ fa % 4096 + a.len ≤ 4096 ∧ 4 * faTarget fa + 2 ∉ (s.ni n.val).unreach ∧ (s.ni n.val).held = [] ∧ (s.ni n.val).wb = [] ∧ (s.ni n.val).shape = [] ∧ (s.ni n.val).gate = [])
    ∧ (∃ (s : State) (n : RouterId) (a : Access) (rest : List Access), (s.ni n.val).inbox = a :: rest ∧ (s.ni n.val).cur = none ∧ (s.ni n.val).barrier = none ∧ a.kind = .write ∧ a.np = false ∧ a.origin = .none ∧ (s.domain (niDom n.val) = .fencing ∨ s.domain (niDom n.val) = .draining))
    ∧ (∃ (s : State) (n : RouterId) (a : Access) (rest : List Access), (s.ni n.val).inbox = a :: rest ∧ (s.ni n.val).cur = none ∧ (s.ni n.val).barrier = none ∧ a.kind = .write ∧ a.np = false ∧ a.origin = .none ∧ a.direct = none ∧ s.fabricRuns = false ∧ s.domain (niDom n.val) ≠ .fencing ∧ s.domain (niDom n.val) ≠ .draining) := by
  refine ⟨?_, ?_, ?_⟩
  · exact ⟨live.setNi 8 { inbox := [{ len := 512, direct := some (mkFa 0 9 3584, 0) }] }, 8, { len := 512, direct := some (mkFa 0 9 3584, 0) }, [], mkFa 0 9 3584, 0, 0, by decide +kernel⟩
  · exact ⟨({ live with pwr := { dom := [(2, .on), (4, .fencing)] } }).setNi (niOfPb 0) { inbox := [{ kind := .write }] }, ⟨niOfPb 0, by decide⟩, { kind := .write }, [], by decide +kernel⟩
  · exact ⟨({ live with dev := .moored }).setNi 8 { inbox := [{ kind := .write }] }, 8, { kind := .write }, [], by decide +kernel⟩

theorem test_witness_ShapersAndGates :
    (∃ (s : State) (n : RouterId) (sh : Fin 256) (j : _), (s.ni n.val).shape = [j] ∧ (s.ni n.val).gate = [] ∧ j.shaper = some sh.val ∧ bitAt (s.shaperEntry n.val sh.val) 63 = true ∧ sfind (s.ni n.val).wheel sh.val = none ∧ (s.ni n.val).gates.enable = false ∧ charge j ≤ sget 0 (s.ni n.val).tokens sh.val)
    ∧ (∃ (s : State) (n : RouterId) (sh : Fin 256) (j : _), (s.ni n.val).shape = [j] ∧ (s.ni n.val).gate = [] ∧ j.shaper = some sh.val ∧ bitAt (s.shaperEntry n.val sh.val) 63 = true ∧ sfind (s.ni n.val).wheel sh.val = none ∧ sget 0 (s.ni n.val).tokens sh.val < charge j)
    ∧ (∃ (s : State) (n : RouterId), (s.ni n.val).shape = [])
    ∧ (∃ (s : State) (n : RouterId) (j : _), s.gateOut n.val = some j)
    ∧ (∃ (s : State) (n : RouterId), s.gateOut n.val = none)
    ∧ (∃ (s : State) (n : RouterId), (s.ni n.val).gate.length ≤ 4096)
    ∧ (∃ (s : State) (n : RouterId) (g : _) (at_ : _), (s.ni n.val).pendGates = some (g, at_) ∧ at_ ≤ s.netCount) := by
  refine ⟨?_, ?_, ?_, ?_, ?_, ?_, ?_⟩
  · exact ⟨(live.setKv (skey 0x4208 3 255) (2 ^ 63 ||| 1 <<< 40)).setNi 8 { shape := [{ job with shaper := some 255 }], tokens := [(255, 65536)] }, 8, 255, { job with shaper := some 255 }, by decide +kernel⟩
  · exact ⟨(live.setKv (skey 0x4208 3 255) (2 ^ 63 ||| 1 <<< 40)).setNi 8 { shape := [{ job with shaper := some 255 }], tokens := [(255, 65535)] }, 8, 255, { job with shaper := some 255 }, by decide +kernel⟩
  · exact ⟨live, 47, by decide +kernel⟩
  · exact ⟨live.setNi 8 { gate := [job] }, 8, job, by decide +kernel⟩
  · exact ⟨live, 8, by decide +kernel⟩
  · exact ⟨live.setNi 8 { gate := List.replicate 8 job }, 8, by decide +kernel⟩
  · exact ⟨live.setNi 8 { pendGates := some ({ enable := true }, 0) }, 8, { enable := true }, 0, by decide +kernel⟩

theorem test_witness_PacketSend :
    (∃ (s : State) (n : RouterId) (j : _), s.firstSend n.val [] (s.ni n.val).sendQ = some j ∧ j.paired = true ∧ j.pkt.hdr.retx = false)
    ∧ (∃ (s : State) (n : RouterId) (j : _), s.firstSend n.val [] (s.ni n.val).sendQ = some j ∧ opKind j.pkt.hdr.opcode = .response)
    ∧ (∃ (s : State) (n : RouterId), s.firstSend n.val [] (s.ni n.val).sendQ = none ∧ s.circuitSend n.val = none) := by
  refine ⟨?_, ?_, ?_⟩
  · exact ⟨live.setNi 8 { sendQ := [job] }, 8, job, by decide +kernel⟩
  · exact ⟨live.setNi 8 { sendQ := [{ pkt := { lane := 3, hdr := { opcode := 0x81 } } }] }, 8, { pkt := { lane := 3, hdr := { opcode := 0x81 } } }, by decide +kernel⟩
  · exact ⟨live, 8, by decide +kernel⟩

theorem test_witness_WriteBuffer :
    (∃ (s : State) (n : RouterId) (w : _), (s.ni n.val).wb = [w] ∧ w.closed = true ∧ w.cls = 2 ∧ w.shaper = none ∧ w.bytes.length = 64 ∧ w.bytes.all Option.isSome = true ∧ (s.ni n.val).gates.enable = false ∧ (s.ni n.val).shape = [] ∧ (s.ni n.val).gate = [] ∧ (s.ni n.val).held = [])
    ∧ (∃ (s : State) (n : RouterId) (full : _) (a : _) (rest : _), (s.ni n.val).barrier = none ∧ (s.ni n.val).inbox = a :: rest ∧ a.kind = (if full = true then .barFull else .barW))
    ∧ (∃ (s : State) (n : RouterId) (full : _), (s.ni n.val).barrier = some (full, .none) ∧ (s.ni n.val).quiet full = true)
    ∧ (∃ (s : State) (n : RouterId) (full : _) (o : _), (s.ni n.val).barrier = some (full, o) ∧ (s.ni n.val).quiet full = false) := by
  refine ⟨?_, ?_, ?_, ?_⟩
  · exact ⟨live.setNi 8 { wb := [{ fa := mkFa 0 9 0, cls := 2, pkey := 0, bytes := List.replicate 64 (some 7), closed := true }] }, 8, { fa := mkFa 0 9 0, cls := 2, pkey := 0, bytes := List.replicate 64 (some 7), closed := true }, by decide +kernel⟩
  · exact ⟨live.setNi 8 { inbox := [{ kind := .barFull }] }, 8, true, { kind := .barFull }, [], by decide +kernel⟩
  · exact ⟨live.setNi 8 { barrier := some (true, .none) }, 8, true, by decide +kernel⟩
  · exact ⟨live.setNi 8 { barrier := some (true, .none), tags := [(511, job)] }, 8, true, .none, by decide +kernel⟩

theorem test_witness_CompiledSources :
    (∃ (s : State) (n : RouterId) (flow : Fin 1024) (j : _), (s.ni n.val).sc0 = [j] ∧ j.pkt.hdr.flow = flow.val ∧ j.cls = 0 ∧ j.pkt.lane = 0 ∧ s.sc0Runs = true ∧ s.laneRuns 0 = true ∧ s.cox.inStep = false ∧ flow.val ∉ (s.ni n.val).sc0Done ∧ s.pathInMaint true (sget 0 s.fabric.act.flows flow.val) = false ∧ flitCount j.pkt ≤ flowFlits (sget 0 s.fabric.act.flows flow.val) ∧ flitCount j.pkt ≤ s.portRoom n.val 0)
    ∧ (∃ (s : State) (n : RouterId) (flow : Fin 1024), flow.val ∈ (s.ni n.val).sc0Done)
    ∧ (∃ (s : State) (c : Fin 64), s.cox.running = true ∧ circDefined (sget 0 s.fabric.act.circuits c.val) = true ∧ s.cox.inStep = false ∧ s.pathInMaint false (sget 0 s.fabric.act.circuits c.val) = false)
    ∧ (∃ (s : State) (c : Fin 64), c.val ∈ (s.ni (circSrc (sget 0 s.fabric.act.circuits c.val))).openWin ∧ c.val ∉ (s.ni (circSrc (sget 0 s.fabric.act.circuits c.val))).burst ∧ sget 0 (s.ni (circSrc (sget 0 s.fabric.act.circuits c.val))).ending c.val ≤ s.clk.fab)
    ∧ (∃ (s : State) (c : Fin 64), c.val ∈ (s.ni (circSrc (sget 0 s.fabric.act.circuits c.val))).openWin ∧ (c.val ∈ (s.ni (circSrc (sget 0 s.fabric.act.circuits c.val))).burst ∨ s.clk.fab < sget 0 (s.ni (circSrc (sget 0 s.fabric.act.circuits c.val))).ending c.val)) := by
  refine ⟨?_, ?_, ?_, ?_, ?_⟩
  · exact ⟨({ live with dev := .afloat, cox := { live.cox with running := true, state := .anchored }, fabric := { act := { flows := [(1023, 1 <<< 30 ||| 8 <<< 22 ||| 9 <<< 16 ||| 1 <<< 12)] } } }).setNi 8 { sc0 := [{ pkt := { lane := 0, hdr := { opcode := 0x02, flow := 1023 } }, cls := 0 }] }, 8, 1023, { pkt := { lane := 0, hdr := { opcode := 0x02, flow := 1023 } }, cls := 0 }, by decide +kernel⟩
  · exact ⟨live.setNi 8 { sc0Done := [1023] }, 8, 1023, by decide +kernel⟩
  · exact ⟨{ live with cox := { live.cox with running := true }, fabric := { act := { circuits := [(63, 1 <<< 30 ||| 8 <<< 22 ||| 9 <<< 16)] } } }, 63, by decide +kernel⟩
  · exact ⟨live.setNi 0 { openWin := [63] }, 63, by decide +kernel⟩
  · exact ⟨live.setNi 0 { openWin := [63], burst := [63] }, 63, by decide +kernel⟩

theorem test_witness_RequestsAtCluster :
    (∃ (s : State) (n : RouterId) (k : Nat) (p : Packet) (rest : List Packet) (oc : _), endpointOf n.val = .bm k ∧ oc ∈ [(0x01, Instr.read n), (0x02, Instr.write n), (0x03, Instr.writeNp n), (0x04, Instr.ldres (.arrive n)), (0x05, Instr.stcond (.arrive n)), (0x06, Instr.atomic (.arrive n))] ∧ Welcome s n.val p rest ∧ p.hdr.opcode = oc.1)
    ∧ (∃ (s : State) (n : RouterId) (k : Nat) (p : Packet) (rest : List Packet) (oc : _), endpointOf n.val = .bm k ∧ oc ∈ [(0x01, Instr.read n), (0x02, Instr.write n), (0x03, Instr.writeNp n), (0x04, Instr.ldres (.arrive n)), (0x05, Instr.stcond (.arrive n)), (0x06, Instr.atomic (.arrive n))] ∧ (s.ni n.val).rx = p :: rest ∧ p.hdr.opcode = oc.1 ∧ (opLanes oc.1).contains p.lane = true ∧ pairLane p = true ∧ p.hdr.crc ≠ packetCrc p)
    ∧ (∃ (s : State) (n : RouterId) (k : Nat) (p : Packet) (rest : List Packet) (w : _), endpointOf n.val = .bm k ∧ (s.ni n.val).rx = p :: rest ∧ p.hdr.opcode = 0x02 ∧ p.lane = 2 ∧ p.hdr.crc = packetCrc p ∧ p.hdr.poison = false ∧ malformed p = false ∧ p.hdr.wsync = false ∧ sfind (s.ni n.val).wins (2 * p.hdr.src) = some w ∧ 32768 ≤ (p.hdr.pseq + 65536 - w.exp) % 65536)
    ∧ (∃ (s : State) (n : RouterId) (k : Nat) (p : Packet) (rest : List Packet) (w : _), endpointOf n.val = .bm k ∧ (s.ni n.val).rx = p :: rest ∧ p.hdr.opcode = 0x02 ∧ p.lane = 2 ∧ p.hdr.crc = packetCrc p ∧ p.hdr.poison = false ∧ malformed p = false ∧ p.hdr.wsync = false ∧ sfind (s.ni n.val).wins (2 * p.hdr.src) = some w ∧ 1 ≤ (p.hdr.pseq + 65536 - w.exp) % 65536 ∧ (p.hdr.pseq + 65536 - w.exp) % 65536 < 64)
    ∧ (∃ (s : State) (n : RouterId) (p : Packet) (rest : List Packet), (s.ni n.val).rx = p :: rest ∧ (opLanes p.hdr.opcode).contains p.lane = false ∧ opKind p.hdr.opcode ≠ .nonPosted ∧ (pairClass p = true → p.hdr.crc = packetCrc p) ∧ p.hdr.poison = false ∧ malformed p = false)
    ∧ (∃ (s : State) (n : RouterId) (p : Packet) (rest : List Packet), (s.ni n.val).rx = p :: rest ∧ (opLanes p.hdr.opcode).contains p.lane = false ∧ opKind p.hdr.opcode = .nonPosted ∧ pairLane p = false ∧ p.lane ≠ 0 ∧ (pairClass p = true → p.hdr.crc = packetCrc p) ∧ p.hdr.poison = false ∧ malformed p = false)
    ∧ (∃ (s : State) (n : RouterId) (p : Packet) (rest : List Packet), (s.ni n.val).rx = p :: rest ∧ (opLanes p.hdr.opcode).contains p.lane = false ∧ pairClass p = true ∧ p.hdr.crc ≠ packetCrc p) := by
  refine ⟨?_, ?_, ?_, ?_, ?_, ?_, ?_⟩
  · exact ⟨received readPkt, 9, 0, readPkt, [], (0x01, .read 9), by unfold Welcome; decide +kernel⟩
  · exact ⟨received ({ writePkt with hdr := { writePkt.hdr with crc := writePkt.hdr.crc + 1 } }), 9, 0, { writePkt with hdr := { writePkt.hdr with crc := writePkt.hdr.crc + 1 } }, [], (0x02, .write 9), by decide +kernel⟩
  · exact ⟨received (checked { writePkt with hdr := { writePkt.hdr with pseq := 32768 } }), 9, 0, checked { writePkt with hdr := { writePkt.hdr with pseq := 32768 } }, [], { exp := 0 }, by decide +kernel⟩
  · exact ⟨received (checked { writePkt with hdr := { writePkt.hdr with pseq := 63 } }), 9, 0, checked { writePkt with hdr := { writePkt.hdr with pseq := 63 } }, [], { exp := 0 }, by decide +kernel⟩
  · exact ⟨received (checked { writePkt with lane := 7 }), 9, checked { writePkt with lane := 7 }, [], by decide +kernel⟩
  · exact ⟨received (checked { readPkt with lane := 3 }), 9, checked { readPkt with lane := 3 }, [], by decide +kernel⟩
  · exact ⟨received { readPkt with lane := 3, hdr := { readPkt.hdr with crc := readPkt.hdr.crc + 1 } }, 9, { readPkt with lane := 3, hdr := { readPkt.hdr with crc := readPkt.hdr.crc + 1 } }, [], by decide +kernel⟩

theorem test_witness_AnswersAtInitiator :
    (∃ (s : State) (n : RouterId) (p : Packet) (rest : List Packet) (oc : _) (j : _), oc ∈ [(0x81, Instr.readResp n), (0x82, Instr.statusResp n)] ∧ Answered s n.val oc.1 p rest ∧ sfind (s.ni n.val).tags p.hdr.tag = some j ∧ j.pkt.hdr.gen = p.hdr.gen ∧ j.paired = true ∧ (∀ o ∈ j.origins, o = .none) ∧ (s.ni n.val).held = [])
    ∧ (∃ (s : State) (n : RouterId) (p : Packet) (rest : List Packet) (oc : _), oc ∈ [(0x81, Instr.readResp n), (0x82, Instr.statusResp n)] ∧ Answered s n.val oc.1 p rest ∧ (∀ j, sfind (s.ni n.val).tags p.hdr.tag = some j → j.pkt.hdr.gen ≠ p.hdr.gen))
    ∧ (∃ (s : State) (n : RouterId) (p : Packet) (rest : List Packet) (cls : _) (j : _), Answered s n.val 0x83 p rest ∧ cls = (if p.lane = 3 then 2 else 3) ∧ ((s.ni n.val).pair p.hdr.src cls).unacked.find? (fun j => decide (j.pkt.hdr.pseq = p.hdr.pseq) && opKind j.pkt.hdr.opcode = .posted) = some j ∧ (∀ o ∈ j.origins, o = .none) ∧ (s.ni n.val).held = [] ∧ p.hdr.status = 0)
    ∧ (∃ (s : State) (n : RouterId) (p : Packet) (rest : List Packet) (cls : _) (j : _), Answered s n.val 0x84 p rest ∧ cls = (if p.lane = 3 then 2 else 3) ∧ ((s.ni n.val).pair p.hdr.src cls).unacked = [j] ∧ (s.ni n.val).gates.enable = false ∧ (s.ni n.val).gate = [] ∧ (s.ni n.val).sendQ = [])
    ∧ (∃ (s : State) (p : Packet) (rest : List Packet) (hb : Fin 2) (j : _), Answered s (niOfBridge hb.val) 0x8A p rest ∧ sfind (s.ni (niOfBridge hb.val)).tags p.hdr.tag = some j ∧ j.pkt.hdr.gen = p.hdr.gen ∧ (∀ o ∈ j.origins, o = .none) ∧ (s.ni (niOfBridge hb.val)).held = [])
    ∧ (∃ (s : State) (n : RouterId) (p : Packet) (rest : List Packet) (j : _), (s.ni n.val).rx = p :: rest ∧ p.hdr.opcode = 0x81 ∧ (opLanes 0x81).contains p.lane = true ∧ ((p.lane = 3 ∨ p.lane = 5) → p.hdr.crc = packetCrc p) ∧ (p.hdr.poison = true ∨ malformed p = true) ∧ sfind (s.ni n.val).tags p.hdr.tag = some j ∧ j.pkt.hdr.gen = p.hdr.gen)
    ∧ (∃ (s : State) (n : RouterId) (p : Packet) (rest : List Packet) (j : _) (b : Nat) (slot : Nat) (addr : Nat), Answered s n.val 0x82 p rest ∧ sfind (s.ni n.val).tags p.hdr.tag = some j ∧ j.pkt.hdr.gen = p.hdr.gen ∧ j.origins = [.exStore b slot addr] ∧ (s.ni n.val).held = [])
    ∧ (∃ (s : State) (n : RouterId) (p : Packet) (rest : List Packet), Answered s n.val 0x83 p rest ∧ (p.hdr.status = 2 ∨ p.hdr.status = 3 ∨ p.hdr.status = 4) ∧ ∃ j, ((s.ni n.val).pair p.hdr.src (if p.lane = 3 then 2 else 3)).unacked.find? (fun j => decide (j.pkt.hdr.pseq = p.hdr.pseq) && opKind j.pkt.hdr.opcode = .posted) = some j)
    ∧ (∃ (s : State) (n : RouterId) (p : Packet) (rest : List Packet), Answered s n.val 0x83 p rest ∧ ∀ k ∈ ((s.ni n.val).pair p.hdr.src (if p.lane = 3 then 2 else 3)).unacked, k.pkt.hdr.pseq ≠ p.hdr.pseq)
    ∧ (∃ (s : State) (n : RouterId) (p : Packet) (rest : List Packet), Answered s n.val 0x84 p rest)
    ∧ (∃ (s : State) (n : RouterId) (p : Packet) (rest : List Packet) (oc : _), oc ∈ [(0x81, Instr.readResp n), (0x82, Instr.statusResp n), (0x83, Instr.ack n), (0x84, Instr.resyncReq n)] ∧ (s.ni n.val).rx = p :: rest ∧ p.hdr.opcode = oc.1 ∧ (opLanes oc.1).contains p.lane = true ∧ (p.lane = 3 ∨ p.lane = 5) ∧ p.hdr.crc ≠ packetCrc p)
    ∧ (∃ (s : State) (p : Packet) (rest : List Packet) (hb : Fin 2), Answered s (niOfBridge hb.val) 0x8A p rest ∧ ∀ j, sfind (s.ni (niOfBridge hb.val)).tags p.hdr.tag = some j → j.pkt.hdr.gen ≠ p.hdr.gen) := by
  refine ⟨?_, ?_, ?_, ?_, ?_, ?_, ?_, ?_, ?_, ?_, ?_, ?_⟩
  · exact ⟨({ live with fabric := {} }).setNi 8 { rx := [answerPkt 0x82 3], tags := [(0, job)] }, 8, answerPkt 0x82 3, [], (0x82, .statusResp 8), job, by unfold Answered; decide +kernel⟩
  · exact ⟨({ live with fabric := {} }).setNi 8 { rx := [answerPkt 0x82 3], tags := [] }, 8, answerPkt 0x82 3, [], (0x82, .statusResp 8), by decide, by unfold Answered; decide +kernel, fun j h => by cases h⟩
  · exact ⟨({ live with fabric := {} }).setNi 8 { rx := [answerPkt 0x83 3], pairs := [(18, { unacked := [{ pkt := writePkt }] })] }, 8, answerPkt 0x83 3, [], 2, { pkt := writePkt }, by unfold Answered; decide +kernel⟩
  · exact ⟨({ live with fabric := {} }).setNi 8 { rx := [answerPkt 0x84 3], pairs := [(18, { unacked := [{ pkt := writePkt }] })] }, 8, answerPkt 0x84 3, [], 2, { pkt := writePkt }, by unfold Answered; decide +kernel⟩
  · exact ⟨live.setNi (niOfBridge 0) { rx := [answerPkt 0x8A 7], tags := [(0, job)] }, answerPkt 0x8A 7, [], 0, job, by unfold Answered; decide +kernel⟩
  · exact ⟨live.setNi 8 { rx := [poisoned], tags := [(0, job)] }, 8, poisoned, [], job, by decide +kernel⟩
  · exact ⟨live.setNi 3 { rx := [exAnswer], tags := [(0, { job with origins := [.exStore 0 15 64] })] }, 3, exAnswer, [], { job with origins := [.exStore 0 15 64] }, 0, 15, 64, by unfold Answered; decide +kernel⟩
  · exact ⟨live.setNi 8 { rx := [refusal], pairs := [(18, { unacked := [{ pkt := writePkt }] })] }, 8, refusal, [], by unfold Answered; decide +kernel, by decide, { pkt := writePkt }, by decide +kernel⟩
  · exact ⟨live.setNi 8 { rx := [answerPkt 0x83 3] }, 8, answerPkt 0x83 3, [], by unfold Answered; decide +kernel⟩
  · exact ⟨live.setNi 47 { rx := [answerPkt 0x84 5] }, 47, answerPkt 0x84 5, [], by unfold Answered; decide +kernel⟩
  · exact ⟨live.setNi 8 { rx := [{ answerPkt 0x81 5 with hdr := { (answerPkt 0x81 5).hdr with crc := 0 } }] }, 8, { answerPkt 0x81 5 with hdr := { (answerPkt 0x81 5).hdr with crc := 0 } }, [], (0x81, .readResp 8), by decide +kernel⟩
  · exact ⟨live.setNi (niOfBridge 1) { rx := [answerPkt 0x8A 7] }, answerPkt 0x8A 7, [], 1, by unfold Answered; decide +kernel, fun j h => by cases h⟩

theorem test_witness_PacketsAtMp :
    (∃ (s : State) (p : Packet) (rest : List Packet) (oc : _) (h : _), (s.ni 43).rx = p :: rest ∧ p.lane = 7 ∧ p.hdr.poison = false ∧ malformed p = false ∧ oc ∈ [(0x0A, Instr.mgmtRead), (0x0B, Instr.mgmtWrite)] ∧ p.hdr.opcode = oc.1 ∧ hostPath p.hdr.src = some h ∧ s.dict.queue.length < 16)
    ∧ (∃ (s : State) (p : Packet) (rest : List Packet) (oc : _) (h : _), (s.ni 43).rx = p :: rest ∧ p.lane = 7 ∧ p.hdr.poison = false ∧ malformed p = false ∧ oc ∈ [(0x0A, Instr.mgmtRead), (0x0B, Instr.mgmtWrite)] ∧ p.hdr.opcode = oc.1 ∧ hostPath p.hdr.src = some h ∧ 16 ≤ s.dict.queue.length ∧ s.freshCount = 0)
    ∧ (∃ (s : State) (p : Packet) (rest : List Packet), (s.ni 43).rx = p :: rest ∧ p.lane = 7 ∧ p.hdr.poison = false ∧ malformed p = false ∧ p.hdr.opcode = 0x0C ∧ s.flt.input.length < 64) := by
  refine ⟨?_, ?_, ?_⟩
  · exact ⟨({ live with dict := { owner := some .can, queue := List.replicate 15 (.sdo (.initUpload 0x1000 0)) } }).setNi 43 { rx := [{ lane := 7, hdr := { opcode := 0x0A, src := niOfBridge 1 } }] }, { lane := 7, hdr := { opcode := 0x0A, src := niOfBridge 1 } }, [], (0x0A, .mgmtRead), .hb1, by decide +kernel⟩
  · exact ⟨({ live with dict := { owner := some .can, queue := List.replicate 16 (.sdo (.initUpload 0x1000 0)) } }).setNi 43 { rx := [{ lane := 7, hdr := { opcode := 0x0A, src := niOfBridge 1 } }] }, { lane := 7, hdr := { opcode := 0x0A, src := niOfBridge 1 } }, [], (0x0A, .mgmtRead), .hb1, by decide +kernel⟩
  · exact ⟨({ live with flt := { input := List.replicate 63 ({}, false) } }).setNi 43 { rx := [{ lane := 7, hdr := { opcode := 0x0C, src := 8, len := 16 } }] }, { lane := 7, hdr := { opcode := 0x0C, src := 8, len := 16 } }, [], by decide +kernel⟩

theorem test_witness_NiTimers :
    (∃ (s : State) (n : RouterId) (target : _) (pseq : _) (j : _), ((s.ni n.val).pair target 2).unacked = [j] ∧ j.pkt.hdr.pseq = pseq ∧ j.resent < s.ob (0x3800 + n.val) 2 ∧ (s.ni n.val).gates.enable = false ∧ (s.ni n.val).gate = [] ∧ (s.ni n.val).sendQ = [])
    ∧ (∃ (s : State) (n : RouterId) (target : _) (pseq : _) (j : _), ((s.ni n.val).pair target 2).unacked = [j] ∧ j.pkt.hdr.pseq = pseq ∧ s.ob (0x3800 + n.val) 2 ≤ j.resent ∧ opKind j.pkt.hdr.opcode = .posted ∧ (∀ o ∈ j.origins, o = .none) ∧ (s.ni n.val).held = [] ∧ (0x0403, n.val, target) ∈ s.flt.held)
    ∧ (∃ (s : State) (n : RouterId) (target : _) (sc3 : _), ((s.ni n.val).pair target (if sc3 = true then 3 else 2)).unacked = [])
    ∧ (∃ (s : State), (∀ m d c, m < 48 → d < 48 → c < 4 → s.pairAlive m d c = true) ∧ (∀ m, (s.ni m).held = []))
    ∧ (∃ (s : State) (n : RouterId) (d : _) (c : _), validNi n.val = true ∧ d < 48 ∧ validNi d = true ∧ c < 4 ∧ s.pairAlive n.val d c = false) := by
  refine ⟨?_, ?_, ?_, ?_, ?_⟩
  · exact ⟨live.setNi 8 { pairs := [(18, { unacked := [{ pkt := writePkt, resent := 5 }] })] }, 8, 9, 0, { pkt := writePkt, resent := 5 }, by decide +kernel⟩
  · exact ⟨({ live with flt := { held := [(0x0403, 8, 9)] } }).setNi 8 { pairs := [(18, { unacked := [{ pkt := writePkt, resent := 6 }] })] }, 8, 9, 0, { pkt := writePkt, resent := 6 }, by decide +kernel⟩
  · exact ⟨live, 8, 9, true, by decide +kernel⟩
  · exact ⟨netUp, fun m d c hm hd hc => net_up_alive m hm d hd c, fun _ => rfl⟩
  · exact ⟨linked .down, 0, 1, 3, by decide +kernel⟩

theorem test_witness_ClusterAccess :
    (∃ (s : State) (k : ClusterId) (q : _), s.portOwner k.val = some q ∧ s.inPoolBlock k.val (faOffset q.hdr.fa) (span q) = false ∧ lineParts (faOffset q.hdr.fa) (span q) ≠ [])
    ∧ (∃ (s : State) (k : ClusterId), s.portOwner k.val = none ∧ (s.clu k.val).scrubOwed = none ∧ (s.clusRanking k.val).find? (fun c => if c = 8 then s.scrubReady k.val else (s.portLane k.val c).isSome) = none)
    ∧ (∃ (s : State) (k : ClusterId) (b : Fin 4) (a : _) (rest : _) (j : _), sget [] (s.clu k.val).banks b.val = a :: rest ∧ sfind (s.clu k.val).jobs a.id = some j ∧ a.op = .read ∧ 1 < j.left ∧ (s.clu k.val).ecc = [])
    ∧ (∃ (s : State) (k : ClusterId) (b : Fin 4) (a : _) (rest : _) (j : _), sget [] (s.clu k.val).banks b.val = a :: rest ∧ sfind (s.clu k.val).jobs a.id = some j ∧ a.op = .write ∧ a.data.length = a.len ∧ (s.clu k.val).badWord ((wordsOf a.off a.len).filter (fun w => ! coversWord a.off a.len w)) = false)
    ∧ (∃ (s : State) (k : ClusterId) (b : Fin 4) (a : _) (rest : _) (j : _), sget [] (s.clu k.val).banks b.val = a :: rest ∧ sfind (s.clu k.val).jobs a.id = some j ∧ a.op = .write ∧ a.data.length = a.len ∧ (s.clu k.val).badWord ((wordsOf a.off a.len).filter (fun w => ! coversWord a.off a.len w)) = true)
    ∧ (∃ (s : State) (k : ClusterId) (q : _), s.portOwner k.val = some q ∧ s.inPoolBlock k.val (faOffset q.hdr.fa) (span q) = false ∧ lineParts (faOffset q.hdr.fa) (span q) ≠ [] ∧ 2 ≤ q.lane)
    ∧ (∃ (s : State) (k : ClusterId) (c : _) (q : _), s.portOwner k.val = none ∧ (s.clu k.val).scrubOwed = none ∧ (s.clusRanking k.val).find? (fun c => if c = 8 then s.scrubReady k.val else (s.portLane k.val c).isSome) = some c ∧ c ≠ 8 ∧ s.portLane k.val c = some q ∧ s.inPoolBlock k.val (faOffset q.hdr.fa) (span q) = false ∧ lineParts (faOffset q.hdr.fa) (span q) ≠ [])
    ∧ (∃ (s : State) (k : ClusterId), s.portOwner k.val = none ∧ (s.clu k.val).scrubOwed = none ∧ (s.clusRanking k.val).find? (fun c => if c = 8 then s.scrubReady k.val else (s.portLane k.val c).isSome) = some 8) := by
  refine ⟨?_, ?_, ?_, ?_, ?_, ?_, ?_, ?_⟩
  · exact ⟨({ live with cox := { live.cox with running := true, state := .anchored }, fabric := { act := { clusTab := [(256 * 23, 1 <<< 30 ||| 5)] } } }).setClu 23 { port := [{ lane := 0, hdr := { opcode := 0x02, flow := 5, fa := mkFa 0 38 0, len := 64 } }] }, 23, { lane := 0, hdr := { opcode := 0x02, flow := 5, fa := mkFa 0 38 0, len := 64 } }, by decide +kernel⟩
  · exact ⟨live, 23, by decide +kernel⟩
  · exact ⟨banked { op := .read, off := 192, len := 64, id := 0 } 2, 23, 3, { op := .read, off := 192, len := 64, id := 0 }, [], { pkt := readPkt, left := 2 }, by decide +kernel⟩
  · exact ⟨banked { op := .write, off := 193, len := 1, data := [9], id := 0 } 1, 23, 3, { op := .write, off := 193, len := 1, data := [9], id := 0 }, [], { pkt := readPkt, left := 1 }, by decide +kernel⟩
  · exact ⟨live.setClu 23 { banks := [(3, [{ op := .write, off := 193, len := 1, data := [9], id := 0 }])], jobs := [(0, { pkt := readPkt, left := 1 })], ecc := [(24, 2)] }, 23, 3, { op := .write, off := 193, len := 1, data := [9], id := 0 }, [], { pkt := readPkt, left := 1 }, by decide +kernel⟩
  · exact ⟨({ live with cox := { live.cox with running := true, state := .anchored }, fabric := { act := { clusTab := [(256 * 23, 3 <<< 30)] } } }).setClu 23 { port := [{ readPkt with lane := 7 }] }, 23, { readPkt with lane := 7 }, by decide +kernel⟩
  · exact ⟨live.setClu 23 { port := [readPkt] }, 23, 2, readPkt, by decide +kernel⟩
  · exact ⟨live.setClu 23 { scrubWaiting := true }, 23, by decide +kernel⟩

theorem test_witness_Exclusives :
    (∃ (s : State) (k : ClusterId) (b : Fin 4) (a : LineAcc) (rest : List LineAcc) (j : ClJob), sget [] (s.clu k.val).banks b.val = a :: rest ∧ sfind (s.clu k.val).jobs a.id = some j ∧ (s.clu k.val).badWord (wordsOf a.off a.len) = false ∧ a.op = .ldres ∧ (s.clu k.val).trackers = [])
    ∧ (∃ (s : State) (k : ClusterId) (b : Fin 4) (a : LineAcc) (rest : List LineAcc) (j : ClJob), sget [] (s.clu k.val).banks b.val = a :: rest ∧ sfind (s.clu k.val).jobs a.id = some j ∧ (s.clu k.val).badWord (wordsOf a.off a.len) = false ∧ a.op = .stcond ∧ (∀ x ∈ (s.clu k.val).trackers, x.src ≠ j.pkt.hdr.src ∨ x.block ≠ s.blockOf k.val a.off))
    ∧ (∃ (s : State) (k : ClusterId) (b : Fin 4) (a : LineAcc) (rest : List LineAcc) (j : ClJob), sget [] (s.clu k.val).banks b.val = a :: rest ∧ sfind (s.clu k.val).jobs a.id = some j ∧ (s.clu k.val).badWord (wordsOf a.off a.len) = false ∧ a.op = .stcond ∧ (∃ x ∈ (s.clu k.val).trackers, x.src = j.pkt.hdr.src ∧ x.block = s.blockOf k.val a.off) ∧ s.failedOnce k.val (s.blockOf k.val a.off) = true)
    ∧ (∃ (s : State) (k : ClusterId) (b : Fin 4) (a : LineAcc) (rest : List LineAcc) (j : ClJob), sget [] (s.clu k.val).banks b.val = a :: rest ∧ sfind (s.clu k.val).jobs a.id = some j ∧ (s.clu k.val).badWord (wordsOf a.off a.len) = false ∧ a.op = .atomic)
    ∧ (∃ (s : State) (k : ClusterId) (b : Fin 4) (a : LineAcc) (rest : List LineAcc) (j : ClJob), sget [] (s.clu k.val).banks b.val = a :: rest ∧ sfind (s.clu k.val).jobs a.id = some j ∧ (s.clu k.val).badWord (wordsOf a.off a.len) = false) := by
  refine ⟨?_, ?_, ?_, ?_, ?_⟩
  · exact ⟨banked { op := .ldres, off := 192, len := 16, data := List.replicate 16 3, id := 0 } 1, 23, 3, { op := .ldres, off := 192, len := 16, data := List.replicate 16 3, id := 0 }, [], { pkt := readPkt, left := 1 }, by decide +kernel⟩
  · exact ⟨banked { op := .stcond, off := 192, len := 16, data := List.replicate 16 3, id := 0 } 1, 23, 3, { op := .stcond, off := 192, len := 16, data := List.replicate 16 3, id := 0 }, [], { pkt := readPkt, left := 1 }, by decide +kernel⟩
  · exact ⟨live.setClu 23 { banks := [(3, [{ op := .stcond, off := 192, len := 16, data := List.replicate 16 3, id := 0 }])], jobs := [(0, { pkt := readPkt, left := 1 })], trackers := [{ src := 8, block := 1, set := 1 }], spurious := [192] }, 23, 3, { op := .stcond, off := 192, len := 16, data := List.replicate 16 3, id := 0 }, [], { pkt := readPkt, left := 1 }, by decide +kernel⟩
  · exact ⟨banked { op := .atomic, off := 192, len := 16, data := List.replicate 16 3, id := 0 } 1, 23, 3, { op := .atomic, off := 192, len := 16, data := List.replicate 16 3, id := 0 }, [], { pkt := readPkt, left := 1 }, by decide +kernel⟩
  · exact ⟨banked { op := .atomic, off := 192, len := 16, data := List.replicate 16 3, id := 0 } 1, 23, 3, { op := .atomic, off := 192, len := 16, data := List.replicate 16 3, id := 0 }, [], { pkt := readPkt, left := 1 }, by decide +kernel⟩

theorem test_witness_PatrolScrub :
    (∃ (s : State) (k : ClusterId), s.ob (0x4800 + k.val) 2 ≠ 0 ∧ s.domain (16 + k.val) = .on ∧ (s.clu k.val).scrubWaiting = false ∧ (s.clu k.val).scrubBusy = false)
    ∧ (∃ (s : State) (k : ClusterId), s.ob (0x4800 + k.val) 2 ≠ 0 ∧ s.domain (16 + k.val) = .on ∧ (s.clu k.val).scrubWaiting = true ∧ (s.clu k.val).scrubSlip = false)
    ∧ (∃ (s : State) (k : ClusterId), s.ob (0x4800 + k.val) 2 = 0)
    ∧ (∃ (s : State) (k : ClusterId) (a : _) (rest : _), sget [] (s.clu k.val).banks (bankOf (s.scrubOff k.val)) = a :: rest ∧ a.op = .scrub ∧ (s.clu k.val).ecc = [])
    ∧ (∃ (s : State) (k : ClusterId), (s.clu k.val).scrubWaiting = true ∧ (s.clu k.val).scrubOwed = none)
    ∧ (∃ (s : State) (k : ClusterId), ((s.clu k.val).scrubWaiting = false ∨ (s.clu k.val).scrubOwed.isSome = true))
    ∧ (∃ (s : State) (k : ClusterId), s.ob (0x4800 + k.val) 2 ≠ 0 ∧ s.domain (16 + k.val) = .on ∧ (s.clu k.val).scrubWaiting = false ∧ (s.clu k.val).scrubBusy = true) := by
  refine ⟨?_, ?_, ?_, ?_, ?_, ?_, ?_⟩
  · exact ⟨live, 23, by decide +kernel⟩
  · exact ⟨live.setClu 23 { scrubWaiting := true }, 23, by decide +kernel⟩
  · exact ⟨live.obSet 0x4817 2 0, 23, by decide +kernel⟩
  · exact ⟨live.setClu 23 { banks := [(0, [{ op := .scrub, off := 0, len := 64, id := 0 }])] }, 23, { op := .scrub, off := 0, len := 64, id := 0 }, [], by decide +kernel⟩
  · exact ⟨live.setClu 23 { scrubWaiting := true }, 23, by decide +kernel⟩
  · exact ⟨live, 23, by decide +kernel⟩
  · exact ⟨live.setClu 23 { scrubBusy := true }, 23, by decide +kernel⟩

theorem test_witness_BufferPools :
    (∃ (s : State) (k : ClusterId) (q : Packet) (rest : List Packet) (p : Nat) (i : _) (more : _), (s.clu k.val).poolQ = q :: rest ∧ s.poolOp k.val q = .pop p ∧ (s.clu k.val).freeList p = i :: more ∧ (s.clu k.val).ecc = [])
    ∧ (∃ (s : State) (k : ClusterId) (q : Packet) (rest : List Packet) (p : Nat), (s.clu k.val).poolQ = q :: rest ∧ s.poolOp k.val q = .pop p ∧ (s.clu k.val).freeList p = [] ∧ (s.clu k.val).ecc = [])
    ∧ (∃ (s : State) (k : ClusterId) (q : Packet) (rest : List Packet) (p : Nat) (i : _), (s.clu k.val).poolQ = q :: rest ∧ s.poolOp k.val q = .push p ∧ i < poolCount (s.poolCfg k.val p) ∧ i ∉ (s.clu k.val).freeList p ∧ leAt (payloadOf q) 4 4 = 0 ∧ leAt (payloadOf q) 0 4 = poolBase (s.poolCfg k.val p) + i * poolSize (s.poolCfg k.val p))
    ∧ (∃ (s : State) (k : ClusterId) (q : Packet) (rest : List Packet) (p : Nat) (i : _), (s.clu k.val).poolQ = q :: rest ∧ s.poolOp k.val q = .push p ∧ i ∈ (s.clu k.val).freeList p ∧ leAt (payloadOf q) 0 4 = poolBase (s.poolCfg k.val p) + i * poolSize (s.poolCfg k.val p))
    ∧ (∃ (s : State) (k : ClusterId) (q : Packet) (rest : List Packet) (p : Nat), (s.clu k.val).poolQ = q :: rest ∧ s.poolOp k.val q = .count p)
    ∧ (∃ (s : State) (k : ClusterId) (q : Packet) (rest : List Packet) (p : Nat), (s.clu k.val).poolQ = q :: rest ∧ s.poolOp k.val q = .count p ∧ q.lane = 2 ∧ q.hdr.src < 64 ∧ (s.ni (niOfBm k.val)).order = [(q.hdr.src, q.hdr.pseq)] ∧ (s.ni (niOfBm k.val)).ready = []) := by
  refine ⟨?_, ?_, ?_, ?_, ?_, ?_⟩
  · exact ⟨pooled popPkt [0, 1], 0, popPkt, [], 7, 0, [1], by decide +kernel⟩
  · exact ⟨pooled popPkt [], 0, popPkt, [], 7, by decide +kernel⟩
  · exact ⟨pooled pushPkt [0], 0, pushPkt, [], 7, 1, by decide +kernel⟩
  · exact ⟨pooled pushPkt [0, 1], 0, pushPkt, [], 7, 1, by decide +kernel⟩
  · exact ⟨pooled countPkt [0, 1], 0, countPkt, [], 7, by decide +kernel⟩
  · exact ⟨(pooled countPkt [0, 1]).setNi 9 { order := [(8, 0)] }, 0, countPkt, [], 7, by decide +kernel⟩

theorem test_witness_DoorbellsAndItems :
    (∃ (s : State) (e : EngineId), s.flt.inject ≠ .armed ∧ s.engineOn e.val = true ∧ (s.evq e.val).late = 0 ∧ (s.evq e.val).items.length < 14)
    ∧ (∃ (s : State) (e : EngineId), s.flt.inject ≠ .armed ∧ s.engineOn e.val = true ∧ (s.evq e.val).late = 0 ∧ (s.evq e.val).items.length < 14)
    ∧ (∃ (s : State) (e : EngineId), s.flt.inject ≠ .armed ∧ s.engineOn e.val = true ∧ (s.evq e.val).late = 0 ∧ (s.evq e.val).items.length < 14)
    ∧ (∃ (s : State) (e : EngineId) (h : _) (rest : _) (q : _) (p : _), (s.evq e.val).items = h :: rest ∧ h.errs = 0 ∧ field h.value 62 56 = 1 ∧ h.scanned = false ∧ q = field h.value 21 16 ∧ p = field h.value 15 0 ∧ (s.dq e.val q).state = .idle ∧ p ≠ (s.dq e.val q).consumer ∧ ahead p (s.dq e.val q).consumer ≤ 2 ^ qLog s e.val q)
    ∧ (∃ (s : State) (e : EngineId) (h : _) (rest : _) (q : _) (p : _), (s.evq e.val).items = h :: rest ∧ h.errs = 0 ∧ field h.value 62 56 = 1 ∧ h.scanned = false ∧ q = field h.value 21 16 ∧ p = field h.value 15 0 ∧ (s.dq e.val q).state = .idle ∧ 2 ^ qLog s e.val q < ahead p (s.dq e.val q).consumer)
    ∧ (∃ (s : State) (e : EngineId) (h : _) (rest : _) (q : _), (s.evq e.val).items = h :: rest ∧ h.errs = 0 ∧ field h.value 62 56 = 2 ∧ q = field h.value 21 16 ∧ (s.dq e.val q).state = .running ∧ (s.dq e.val q).producer ≠ (s.dq e.val q).consumer ∧ ahead (s.dq e.val q).producer (s.dq e.val q).consumer ≤ 2 ^ qLog s e.val q)
    ∧ (∃ (s : State) (e : EngineId) (h : _) (rest : _) (q : _), (s.evq e.val).items = h :: rest ∧ h.errs = 0 ∧ field h.value 62 56 = 2 ∧ q = field h.value 21 16 ∧ (s.dq e.val q).state = .idle ∧ (s.dq e.val q).producer = (s.dq e.val q).consumer)
    ∧ (∃ (s : State) (e : EngineId) (h : _) (rest : _) (q : _), (s.evq e.val).items = h :: rest ∧ h.errs = 0 ∧ field h.value 62 56 = 3 ∧ q = field h.value 21 16 ∧ ((s.dq e.val q).state = .stopped ∨ (s.dq e.val q).state = .error) ∧ ahead (s.dq e.val q).producer (s.dq e.val q).consumer ≤ 2 ^ qLog s e.val q)
    ∧ (∃ (s : State) (e : EngineId) (h : _) (rest : _) (q : _), (s.evq e.val).items = h :: rest ∧ h.errs = 0 ∧ q = field h.value 21 16 ∧ 2 ^ qLog s e.val q < ahead (s.dq e.val q).producer (s.dq e.val q).consumer ∧ field h.value 62 56 = 2 ∧ ((s.dq e.val q).state = .idle ∨ (s.dq e.val q).state = .running))
    ∧ (∃ (s : State) (e : EngineId) (h : _) (rest : _) (q : _), (s.evq e.val).items = h :: rest ∧ h.errs = 0 ∧ q = field h.value 21 16 ∧ 2 ^ qLog s e.val q < ahead (s.dq e.val q).producer (s.dq e.val q).consumer ∧ field h.value 62 56 = 3 ∧ ((s.dq e.val q).state = .stopped ∨ (s.dq e.val q).state = .error))
    ∧ (∃ (s : State) (e : EngineId) (h : _) (rest : _) (r : _), (s.evq e.val).items = h :: rest ∧ h.errs = 0 ∧ field h.value 62 56 = 4 ∧ h.scanned = false ∧ r = field h.value 19 16 ∧ (s.eng e.val).frames = [])
    ∧ (∃ (s : State) (e : EngineId), (s.eng e.val).scanDue = true ∧ (s.eng e.val).frames = [])
    ∧ (∃ (s : State) (e : EngineId), (s.eng e.val).scanDue = false)
    ∧ (∃ (s : State) (e : EngineId), s.engineOn e.val = false)
    ∧ (∃ (s : State) (e : EngineId) (h : _) (rest : _), (s.evq e.val).items = h :: rest ∧ h.errs = 0 ∧ h.scanned = true ∧ field h.value 62 56 = 1)
    ∧ (∃ (s : State) (e : EngineId) (h : _) (rest : _), (s.evq e.val).items = h :: rest ∧ h.errs = 0 ∧ h.scanned = true ∧ field h.value 62 56 = 4) := by
  refine ⟨?_, ?_, ?_, ?_, ?_, ?_, ?_, ?_, ?_, ?_, ?_, ?_, ?_, ?_, ?_, ?_⟩
  · exact ⟨live.setEvq 7 { items := List.replicate 13 { value := 0 } }, 7, by decide +kernel⟩
  · exact ⟨live.setEvq 7 { items := List.replicate 13 { value := 0 } }, 7, by decide +kernel⟩
  · exact ⟨live.setEvq 7 { items := List.replicate 13 { value := 0 } }, 7, by decide +kernel⟩
  · exact ⟨(live.setDq 7 63 { state := .idle }).setEvq 7 { items := [{ value := (1 <<< 56 ||| 63 <<< 16 ||| 8) }] }, 7, { value := (1 <<< 56 ||| 63 <<< 16 ||| 8) }, [], 63, 8, by decide +kernel⟩
  · exact ⟨(live.setDq 7 63 { state := .idle }).setEvq 7 { items := [{ value := (1 <<< 56 ||| 63 <<< 16 ||| 9) }] }, 7, { value := (1 <<< 56 ||| 63 <<< 16 ||| 9) }, [], 63, 9, by decide +kernel⟩
  · exact ⟨(live.setDq 7 63 { state := .running, producer := 1 }).setEvq 7 { items := [{ value := (2 <<< 56 ||| 63 <<< 16 ||| 0) }] }, 7, { value := (2 <<< 56 ||| 63 <<< 16 ||| 0) }, [], 63, by decide +kernel⟩
  · exact ⟨(live.setDq 7 63 { state := .idle }).setEvq 7 { items := [{ value := (2 <<< 56 ||| 63 <<< 16 ||| 0) }] }, 7, { value := (2 <<< 56 ||| 63 <<< 16 ||| 0) }, [], 63, by decide +kernel⟩
  · exact ⟨(live.setDq 7 63 { state := .error }).setEvq 7 { items := [{ value := (3 <<< 56 ||| 63 <<< 16 ||| 0) }] }, 7, { value := (3 <<< 56 ||| 63 <<< 16 ||| 0) }, [], 63, by decide +kernel⟩
  · exact ⟨(live.setDq 7 63 { state := .running, producer := 65535 }).setEvq 7 { items := [{ value := (2 <<< 56 ||| 63 <<< 16 ||| 0) }] }, 7, { value := (2 <<< 56 ||| 63 <<< 16 ||| 0) }, [], 63, by decide +kernel⟩
  · exact ⟨(live.setDq 7 63 { state := .stopped, producer := 9 }).setEvq 7 { items := [{ value := (3 <<< 56 ||| 63 <<< 16 ||| 0) }] }, 7, { value := (3 <<< 56 ||| 63 <<< 16 ||| 0) }, [], 63, by decide +kernel⟩
  · exact ⟨(live.setDq 7 63 { state := .idle }).setEvq 7 { items := [{ value := (4 <<< 56 ||| 15 <<< 16 ||| 0) }] }, 7, { value := (4 <<< 56 ||| 15 <<< 16 ||| 0) }, [], 15, by decide +kernel⟩
  · exact ⟨live.setEng 7 { scanDue := true }, 7, by decide +kernel⟩
  · exact ⟨live, 7, by decide +kernel⟩
  · exact ⟨{ live with pwr := { dom := [(1, .on), (2, .on), (47, .retain)] } }, 7, by decide +kernel⟩
  · exact ⟨live.setEvq 7 { items := [{ value := 1 <<< 56, scanned := true }] }, 7, { value := 1 <<< 56, scanned := true }, [], by decide +kernel⟩
  · exact ⟨live.setEvq 7 { items := [{ value := 4 <<< 56, scanned := true }] }, 7, { value := 4 <<< 56, scanned := true }, [], by decide +kernel⟩

theorem test_witness_Descriptors :
    (∃ (s : State) (e : EngineId) (q : Fin 64) (n : _), ((s.dq e.val q.val).state = .running) ∧ (s.dq e.val q.val).fetching = none ∧ (s.dq e.val q.val).descs = [] ∧ (s.dq e.val q.val).abortTo = none ∧ ahead (s.dq e.val q.val).seen (s.dq e.val q.val).fetch ≤ 2 ^ qLog s e.val q.val ∧ 0 < n ∧ n = min (min 8 (ahead (s.dq e.val q.val).seen (s.dq e.val q.val).fetch)) (min (2 ^ qLog s e.val q.val - (s.dq e.val q.val).fetch % 2 ^ qLog s e.val q.val) (128 - (s.dq e.val q.val).fetch % 128)))
    ∧ (∃ (s : State) (e : EngineId) (q : Fin 64) (d : _) (rest : _) (oc : _), (s.dq e.val q.val).descs = d :: rest ∧ (s.dq e.val q.val).mayStart = true ∧ s.turnOf e.val = some q.val ∧ d.bad = false ∧ d.barrier = 0 ∧ oc ∈ [(0, Instr.nop e q), (1, Instr.copy e q), (4, Instr.sendDescriptor e q), (5, Instr.mcastPut e q)] ∧ d.op = oc.1)
    ∧ (∃ (s : State) (e : EngineId) (q : Fin 64) (d : _) (rest : _), (s.dq e.val q.val).descs = d :: rest ∧ (s.dq e.val q.val).mayStart = true ∧ s.turnOf e.val = some q.val ∧ d.bad = false ∧ d.barrier = 0 ∧ d.op = 2)
    ∧ (∃ (s : State) (e : EngineId) (q : Fin 64) (d : _) (rest : _), (s.dq e.val q.val).descs = d :: rest ∧ (s.dq e.val q.val).mayStart = true ∧ s.turnOf e.val = some q.val ∧ d.bad = false ∧ d.barrier = 0 ∧ d.op = 3)
    ∧ (∃ (s : State) (e : EngineId) (q : Fin 64) (d : _) (rest : _), (s.dq e.val q.val).descs = d :: rest ∧ (s.dq e.val q.val).mayStart = true ∧ s.turnOf e.val = some q.val ∧ d.bad = false ∧ d.barrier = 0 ∧ d.op = 6 ∧ d.aop ≠ 5)
    ∧ (∃ (s : State) (e : EngineId) (q : Fin 64) (d : _) (rest : _) (oc : _), (s.dq e.val q.val).descs = d :: rest ∧ (s.dq e.val q.val).mayStart = true ∧ s.turnOf e.val = some q.val ∧ d.bad = true ∧ oc ∈ [(0, Instr.nop e q), (1, Instr.copy e q), (2, Instr.put e q), (3, Instr.get e q), (4, Instr.sendDescriptor e q), (5, Instr.mcastPut e q), (6, Instr.atomicDescriptor e q)] ∧ d.op = oc.1)
    ∧ (∃ (s : State) (e : EngineId) (q : Fin 64) (w : _) (len : _), (s.dq e.val q.val).chunkWork = some w ∧ (s.dq e.val q.val).state = .running ∧ s.turnOf e.val = some q.val ∧ s.chunksUsed e.val < 16 ∧ len = min (w.desc.length - w.next) (min (4096 - (w.desc.src + w.next) % 4096) (4096 - (w.desc.dst + w.next) % 4096))) := by
  refine ⟨?_, ?_, ?_, ?_, ?_, ?_, ?_⟩
  · exact ⟨live.setDq 7 63 { state := .running, seen := 135, fetch := 127 }, 7, 63, 1, by decide +kernel⟩
  · exact ⟨live.setDq 7 63 { state := .running, descs := [{ op := 5, aop := 0, bad := false }] }, 7, 63, { op := 5, aop := 0, bad := false }, [], (5, .mcastPut 7 63), by decide +kernel⟩
  · exact ⟨live.setDq 7 63 { state := .running, descs := [{ op := 2, aop := 0, bad := false }] }, 7, 63, { op := 2, aop := 0, bad := false }, [], by decide +kernel⟩
  · exact ⟨live.setDq 7 63 { state := .running, descs := [{ op := 3, aop := 0, bad := false }] }, 7, 63, { op := 3, aop := 0, bad := false }, [], by decide +kernel⟩
  · exact ⟨live.setDq 7 63 { state := .running, descs := [{ op := 6, aop := 0, bad := false }] }, 7, 63, { op := 6, aop := 0, bad := false }, [], by decide +kernel⟩
  · exact ⟨live.setDq 7 63 { state := .running, descs := [{ op := 6, aop := 0, bad := true }] }, 7, 63, { op := 6, aop := 0, bad := true }, [], (6, .atomicDescriptor 7 63), by decide +kernel⟩
  · exact ⟨live.setDq 7 63 { state := .running, works := [{ id := 0, desc := { op := 1, length := 5000, src := 0x10FFF, dst := 0x20FFE } }] }, 7, 63, { id := 0, desc := { op := 1, length := 5000, src := 0x10FFF, dst := 0x20FFE } }, 1, by decide +kernel⟩

theorem test_witness_Records :
    (∃ (s : State) (e : EngineId) (q : Fin 64) (w : _) (rest : _), (s.dq e.val q.val).state = .running ∧ (s.dq e.val q.val).works = w :: rest ∧ w.complete = true)
    ∧ (∃ (s : State) (e : EngineId) (q : Fin 64) (irq : _) (rest : _), (s.dq e.val q.val).acked = irq :: rest)
    ∧ (∃ (s : State) (e : EngineId) (q : Fin 64), (s.dq e.val q.val).state = .aborting ∧ (s.dq e.val q.val).works = [] ∧ (s.dq e.val q.val).abortTo = some (s.dq e.val q.val).consumer)
    ∧ (∃ (s : State) (e : EngineId) (q : Fin 64) (w : _), (s.dq e.val q.val).state = .aborting ∧ (s.dq e.val q.val).works = [w] ∧ w.pending = 0 ∧ (s.dq e.val q.val).abortTo = some (((s.dq e.val q.val).consumer + 1) % 65536)) := by
  refine ⟨?_, ?_, ?_, ?_⟩
  · exact ⟨live.setDq 7 63 { state := .running, works := [{ id := 0, desc := {} }] }, 7, 63, { id := 0, desc := {} }, [], by decide +kernel⟩
  · exact ⟨live.setDq 7 63 { state := .running, acked := [true] }, 7, 63, true, [], by decide +kernel⟩
  · exact ⟨live.setDq 7 63 { state := .aborting, abortTo := some 0 }, 7, 63, by decide +kernel⟩
  · exact ⟨live.setDq 7 63 { state := .aborting, consumer := 65535, abortTo := some 0, works := [{ id := 0, desc := {} }] }, 7, 63, { id := 0, desc := {} }, by decide +kernel⟩

theorem test_witness_EventQueues :
    (∃ (s : State) (i : Fin 16) (kind : _) (data : Nat), s.eqOn i.val = true ∧ s.flt.inject ≠ .armed ∧ (s.evq i.val).late = 0 ∧ kind < 128 ∧ data < 2 ^ 48 ∧ (s.evq i.val).items.length + 2 < eqCap i.val ∧ (8 ≤ i.val → (s.evq i.val).bank ≠ []))
    ∧ (∃ (s : State) (i : Fin 16), s.eqOn i.val = true ∧ s.flt.inject ≠ .armed ∧ i.val < 8 ∧ eqCap i.val ≤ (s.evq i.val).items.length)
    ∧ (∃ (s : State) (i : Fin 16) (h : _) (rest : _), s.eqOn i.val = true ∧ i.val < 8 ∧ (s.evq i.val).items = h :: rest ∧ h.errs = 0 ∧ h.at_ + 9 < s.clk.now)
    ∧ (∃ (s : State) (i : Fin 16) (h : _) (rest : _), 8 ≤ i.val ∧ s.dictReads i.val = true ∧ (s.evq i.val).bank = h :: rest ∧ rest ≠ [] ∧ h.errs = 0 ∧ h.at_ + 36 < s.clk.now)
    ∧ (∃ (s : State) (i : Fin 16) (how : EqRead), ((how = .named) ∨ (how = .dict8)) ∧ (s.evq i.val).readable i.val = [])
    ∧ (∃ (s : State) (i : Fin 16), 8 ≤ i.val ∧ (s.evq i.val).bank = [] ∧ 256 ≤ (s.evq i.val).items.length)
    ∧ (∃ (s : State) (i : Fin 16), (i.val < 8 ∨ (s.evq i.val).bank ≠ []))
    ∧ (∃ (s : State) (i : Fin 16) (sensors : List Int), (s.evq i.val).slipped = none ∧ (s.evq i.val).late = 0 ∧ 8 ≤ i.val ∧ field (s.ob (0x4E00 + i.val) 9) 7 0 = 4 ∧ s.stw.running = true ∧ s.queueOf 4 = some i.val ∧ s.mode 3 ≠ 0 ∧ s.flt.inject ≠ .armed ∧ (s.evq i.val).items.length + 10 < 256 ∧ (s.evq i.val).bank ≠ [] ∧ (∀ j < 8, lget 0 sensors j < s.otp.maxTj + 160))
    ∧ (∃ (s : State) (i : Fin 16), s.eqOn i.val = false)
    ∧ (∃ (s : State) (i : Fin 16) (sensors : List Int) (j : Nat), j < 8 ∧ s.otp.maxTj + 160 ≤ lget 0 sensors j ∧ (∀ k < 8, k ≠ j → lget 0 sensors k < s.otp.maxTj + 160) ∧ (s.evq i.val).slipped = none
        ∧ field (s.ob (0x4E00 + i.val) 9) 7 0 = 4 ∧ s.pinWatched (16 + j) = true ∧ s.dev ≠ .standby ∧ sfind s.flt.pins (16 + j) = none ∧ (s.policy (0x1010 + j)).reaction = 2
        ∧ (∀ x ∈ s.uncleared, x.state = .raised → x.msg.cls ≠ 3)) := by
  refine ⟨?_, ?_, ?_, ?_, ?_, ?_, ?_, ?_, ?_, ?_⟩
  · exact ⟨(live).setEvq 15 { items := List.replicate 253 { value := 0 }, bank := [{ value := 0 }] }, 15, 127, 2 ^ 48 - 1, by decide +kernel⟩
  · exact ⟨(live).setEvq 7 { items := List.replicate 16 { value := 0 } }, 7, by decide +kernel⟩
  · exact ⟨({ live with clk := { now := 100 } }).setEvq 7 { items := [{ value := 5, at_ := 90 }] }, 7, { value := 5, at_ := 90 }, [], by decide +kernel⟩
  · exact ⟨(({ live with clk := { now := 100 } }).setEvq 15 { bank := [{ value := 5, at_ := 63 }, { value := 6 }] }).obSet 0x4E0F 9 0x8000, 15, { value := 5, at_ := 63 }, [{ value := 6 }], by decide +kernel⟩
  · exact ⟨live, 15, .dict8, by decide +kernel⟩
  · exact ⟨(live).setEvq 8 { items := List.replicate 256 { value := 0 } }, 8, by decide +kernel⟩
  · exact ⟨live, 7, by decide +kernel⟩
  · exact ⟨((({ live with stw := { running := true } }).setEvq 8 { items := List.replicate 245 { value := 0 }, bank := [{ value := 0 }] }).obSet 0x4E08 9 4), 8, [], by decide +kernel⟩
  · exact ⟨{ live with pwr := {} }, 7, by decide +kernel⟩
  · exact ⟨live.obSet 0x4E0F 9 4, 15, [0, 0, 0, 0, 0, 0, 0, 5000], 7, by decide +kernel⟩

theorem test_witness_PcieLinks :
    (∃ (s : State) (hb : Fin 2), s.domain (48 + hb.val) = .on ∧ (s.br hb.val).disabled = false ∧ (s.br hb.val).contained = false ∧ s.dev ≠ .standby ∧ s.dev ≠ .muster ∧ (s.br hb.val).state = .down)
    ∧ (∃ (s : State) (b : BridgeId), (s.br b.val).state = .training)
    ∧ (∃ (s : State) (b : BridgeId), (s.br b.val).state = .recovery)
    ∧ (∃ (s : State) (b : BridgeId), (s.br b.val).state = .up)
    ∧ (∃ (s : State) (b : BridgeId), (s.br b.val).state ≠ .up)
    ∧ (∃ (s : State) (b : BridgeId) (c : _), s.role b.val = 2 ∧ s.answers (bridgeDom b.val) = true ∧ c ∈ [Instr.flr b, Instr.hotResetReceived b])
    ∧ (∃ (s : State) (b : BridgeId), s.containable b.val = true ∧ s.dpcEnable b.val ≠ 0 ∧ (s.br b.val).state = .up)
    ∧ (∃ (s : State) (b : BridgeId), s.dpcEnable b.val = 0)
    ∧ (∃ (s : State) (b : BridgeId), s.containable b.val = true ∧ 1 ≤ s.dpcEnable b.val ∧ s.dpcEnable b.val ≤ 2)
    ∧ (∃ (s : State) (b : BridgeId), 2 ≤ b.val ∧ s.role b.val = 1 ∧ s.dpcEnable b.val = 0)
    ∧ (∃ (s : State) (w : Fin 3) (k : _), k < 12 ∧ k / 4 = w.val ∧ s.fabricRuns = true ∧ s.role (2 + k) ≠ 0 ∧ s.domain (bridgeDom (2 + k)) = .on)
    ∧ (∃ (s : State) (k : Fin 12), s.role (2 + k.val) = 1 ∧ (s.br (2 + k.val)).waveDone = true ∧ s.domain (bridgeDom (2 + k.val)) = .on ∧ s.fabricRuns = true ∧ (s.br (2 + k.val)).disabled = false ∧ (s.br (2 + k.val)).contained = false ∧ (s.br (2 + k.val)).state = .idle) := by
  refine ⟨?_, ?_, ?_, ?_, ?_, ?_, ?_, ?_, ?_, ?_, ?_, ?_⟩
  · exact ⟨(live).setBr 1 { state := .down }, 1, by decide +kernel⟩
  · exact ⟨(live).setBr 13 { state := .training }, 13, by decide +kernel⟩
  · exact ⟨(live).setBr 13 { state := .recovery }, 13, by decide +kernel⟩
  · exact ⟨(live).setBr 13 { state := .up }, 13, by decide +kernel⟩
  · exact ⟨live, 13, by decide +kernel⟩
  · exact ⟨live, 1, .hotResetReceived 1, by decide +kernel⟩
  · exact ⟨((live.obSet 0x5100 0x20 1)).setBr 2 { state := .up, cfg := [(0x61, 0x10000)] }, 2, by decide +kernel⟩
  · exact ⟨live, 13, by decide +kernel⟩
  · exact ⟨((live.obSet 0x510B 0x20 1)).setBr 13 { state := .up, cfg := [(0x61, 0x20000)] }, 13, by decide +kernel⟩
  · exact ⟨(live.obSet 0x5100 0x20 1), 2, by decide +kernel⟩
  · exact ⟨live.obSet 0x510B 0x20 1, 2, 11, by decide +kernel⟩
  · exact ⟨(live.obSet 0x510B 0x20 1).setBr 13 { state := .idle, waveDone := true }, 11, by decide +kernel⟩

theorem test_witness_PcieInbound :
    (∃ (s : State) (b : BridgeId), s.cfgReady b.val = false)
    ∧ (∃ (s : State) (b : BridgeId), s.cfgReady b.val = true ∧ s.role b.val = 2)
    ∧ (∃ (s : State) (b : BridgeId), s.cfgReady b.val = true ∧ s.role b.val = 2)
    ∧ (∃ (s : State) (b : BridgeId) (a : BarAccess), s.linkCarries b.val = true ∧ s.ob (brIdx b.val) 8 = 2 ∧ b.val < 2 ∧ a.form = .memory ∧ s.fabricRuns = true ∧ (s.br b.val).d3 = false ∧ a.write = true ∧ a.offset < 0x800000 ∧ a.offset % 0x100000 + max 1 a.data.length ≤ 0x50000)
    ∧ (∃ (s : State) (b : BridgeId) (a : BarAccess), s.linkCarries b.val = true ∧ s.ob (brIdx b.val) 8 = 2 ∧ b.val < 2 ∧ a.form = .memory ∧ s.dev ≠ .halted ∧ (s.br b.val).d3 = false ∧ a.write = true ∧ a.offset + max 1 a.data.length ≤ 2 ^ (s.br b.val).bar4)
    ∧ (∃ (s : State) (b : BridgeId) (hb : Fin 2) (a : BarAccess), s.linkCarries b.val = true ∧ s.ob (brIdx b.val) 8 = 2 ∧ b.val = hb.val ∧ a.form = .memory ∧ (s.br b.val).d3 = false ∧ a.write = false ∧ a.offset + 8 ≤ 2 ^ 26 ∧ a.len = 8 ∧ a.offset % 8 = 0)
    ∧ (∃ (s : State) (b : BridgeId), s.linkCarries b.val = true ∧ s.bridgeFenced b.val = false ∧ s.localServed = true ∧ (s.br b.val).d3 = false)
    ∧ (∃ (s : State) (b : BridgeId) (slot : Fin 16) (len : _), s.linkCarries b.val = true ∧ s.bridgeFenced b.val = false ∧ s.fabricRuns = true ∧ (s.br b.val).d3 = false ∧ len = (s.exSlot b.val slot.val).bytes)
    ∧ (∃ (s : State) (b : BridgeId) (slot : Fin 16) (data : Bytes), s.linkCarries b.val = true ∧ s.bridgeFenced b.val = false ∧ s.fabricRuns = true ∧ (s.br b.val).d3 = false ∧ data.length = (s.exSlot b.val slot.val).bytes ∧ (s.exSlot b.val slot.val).state ≠ 1 ∧ (s.br b.val).simple = none)
    ∧ (∃ (s : State) (b : BridgeId) (slot : Fin 16) (data : Bytes), s.linkCarries b.val = true ∧ s.bridgeFenced b.val = false ∧ (s.exSlot b.val slot.val).state = 1 ∧ data.length = (s.exSlot b.val slot.val).bytes)
    ∧ (∃ (s : State) (b : BridgeId), s.linkCarries b.val = true ∧ s.bridgeFenced b.val = true ∧ s.fabricRuns = true ∧ (s.br b.val).d3 = false)
    ∧ (∃ (s : State) (b : BridgeId) (a : BarAccess), s.linkCarries b.val = true ∧ a.form ≠ .memory)
    ∧ (∃ (s : State) (b : BridgeId) (a : BarAccess), b.val < 2 ∧ s.linkCarries b.val = true ∧ a.form = .memory ∧ a.write = false ∧ a.len = 8 ∧ a.offset = 0xF01000 ∧ s.localServed = true ∧ s.bridgeFenced b.val = false ∧ (s.br b.val).d3 = false ∧ s.ob (brIdx b.val) 8 = 2)
    ∧ (∃ (s : State) (b : BridgeId) (a : BarAccess), b.val < 2 ∧ s.linkCarries b.val = true ∧ a.form = .memory ∧ a.write = false ∧ a.len = 8 ∧ a.offset = 0xF01000 ∧ s.localServed = true ∧ s.bridgeFenced b.val = false ∧ (s.br b.val).d3 = false ∧ s.ob (brIdx b.val) 8 = 0) := by
  refine ⟨?_, ?_, ?_, ?_, ?_, ?_, ?_, ?_, ?_, ?_, ?_, ?_, ?_, ?_⟩
  · exact ⟨State.reset, 0, by decide +kernel⟩
  · exact ⟨live, 1, by decide +kernel⟩
  · exact ⟨live, 1, by decide +kernel⟩
  · exact ⟨bridged { state := .up }, 0, { write := true, offset := 0x74FFF8, len := 8, data := List.replicate 8 1 }, by decide +kernel⟩
  · exact ⟨bridged { state := .up }, 0, { write := true, offset := 2 ^ 36 - 8, len := 8, data := List.replicate 8 1 }, by decide +kernel⟩
  · exact ⟨bridged { state := .up }, 0, 0, { write := false, offset := 2 ^ 26 - 8, len := 8, data := [] }, by decide +kernel⟩
  · exact ⟨bridged { state := .up }, 0, by decide +kernel⟩
  · exact ⟨bridged { state := .up }, 0, 15, 4, by decide +kernel⟩
  · exact ⟨bridged { state := .up }, 0, 15, [1, 2, 3, 4], by decide +kernel⟩
  · exact ⟨bridged { state := .up, exs := [(15, { size := 2, state := 1 })] }, 0, 15, List.replicate 16 1, by decide +kernel⟩
  · exact ⟨(bridged { state := .up }).setDomain 48 .fencing, 0, by decide +kernel⟩
  · exact ⟨bridged { state := .up }, 0, { form := .atomicOp, write := true, offset := 0, len := 8, data := List.replicate 8 1 }, by decide +kernel⟩
  · exact ⟨bridged { state := .up }, 0, { write := false, offset := 0xF01000, len := 8 }, by decide +kernel⟩
  · exact ⟨live.setBr 1 { state := .up }, 1, { write := false, offset := 0xF01000, len := 8 }, by decide +kernel⟩

theorem test_witness_PcieOutbound :
    (∃ (s : State) (b : BridgeId) (v : _), v < s.vectors b.val ∧ v < 255 ∧ (s.br b.val).pending = [])
    ∧ (∃ (v : _) (fromPcie : _), (fromPcie = true ∨ 256 ≤ v ∨ v = 255))
    ∧ (∃ (s : State) (b : BridgeId) (p : _), (s.br b.val).pending.find? (s.br b.val).sendable = some p)
    ∧ (∃ (s : State) (b : BridgeId), (s.br b.val).pending.find? (s.br b.val).sendable = none)
    ∧ (∃ (s : State) (b : BridgeId) (p : _) (rest : _) (i : _), (s.br b.val).outQ = p :: rest ∧ p.hdr.opcode = 0x01 ∧ (s.br b.val).state = .up ∧ (s.br b.val).bme = true ∧ (s.br b.val).d3 = false ∧ (s.br b.val).freeSlot = some i)
    ∧ (∃ (s : State) (b : BridgeId) (p : _) (rest : _), (s.br b.val).outQ = p :: rest ∧ p.hdr.opcode = 0x02 ∧ (s.br b.val).state = .up ∧ (s.br b.val).bme = true ∧ (s.br b.val).d3 = false ∧ (s.br b.val).credits = true)
    ∧ (∃ (s : State) (b : BridgeId) (tag : _) (data : Bytes) (x : _), sfind (s.br b.val).slots (tag % 512) = some x ∧ bitAt tag 9 = (s.br b.val).gens.contains (tag % 512) ∧ x.pkt.hdr.opcode = 0x01 ∧ data ≠ [] ∧ x.data.length + data.length < x.pkt.hdr.len)
    ∧ (∃ (s : State) (b : BridgeId) (tag : _) (data : Bytes) (x : _), sfind (s.br b.val).slots (tag % 512) = some x ∧ bitAt tag 9 = (s.br b.val).gens.contains (tag % 512) ∧ (x.pkt.hdr.opcode ≠ 0x01 ∨ x.pkt.hdr.len ≤ x.data.length + data.length))
    ∧ (∃ (s : State) (b : BridgeId) (tag : _), sfind (s.br b.val).slots (tag % 512) = none)
    ∧ (∃ (s : State) (b : BridgeId) (i : Fin 512) (x : _), sfind (s.br b.val).slots i.val = some x)
    ∧ (∃ (s : State) (b : BridgeId) (p : _) (rest : _), (s.br b.val).dll = p :: rest)
    ∧ (∃ (s : State) (b : BridgeId) (p : _) (rest : _), (s.br b.val).cfgQ = p :: rest ∧ p.hdr.opcode = 0x01 ∧ s.linkCarries b.val = true ∧ s.cfgRoute b.val = .type0)
    ∧ (∃ (s : State) (b : BridgeId) (p : _) (rest : _), (s.br b.val).cfgQ = p :: rest ∧ p.hdr.opcode = 0x03 ∧ s.linkCarries b.val = true ∧ s.cfgRoute b.val = .type0) := by
  refine ⟨?_, ?_, ?_, ?_, ?_, ?_, ?_, ?_, ?_, ?_, ?_, ?_, ?_⟩
  · exact ⟨live, 0, 254, by decide +kernel⟩
  · exact ⟨255, false, by decide +kernel⟩
  · exact ⟨(live).setBr 0 { state := .up, bme := true, msixEnable := true, pending := [(3, 0)], msix := [(3, { masked := false })] }, 0, (3, 0), by decide +kernel⟩
  · exact ⟨live, 0, by decide +kernel⟩
  · exact ⟨(live).setBr 0 { state := .up, bme := true, outQ := [{ lane := 2, hdr := { opcode := 1, len := 4 } }] }, 0, { lane := 2, hdr := { opcode := 1, len := 4 } }, [], 0, by decide +kernel⟩
  · exact ⟨(live).setBr 0 { state := .up, bme := true, outQ := [{ lane := 2, hdr := { opcode := 2, len := 4 } }] }, 0, { lane := 2, hdr := { opcode := 2, len := 4 } }, [], by decide +kernel⟩
  · exact ⟨(live).setBr 0 { slots := [(511, { pkt := { lane := 2, hdr := { opcode := 1, len := 4 } } })], gens := [511] }, 0, 1023, [1, 2, 3], { pkt := { lane := 2, hdr := { opcode := 1, len := 4 } } }, by decide +kernel⟩
  · exact ⟨(live).setBr 0 { slots := [(511, { pkt := { lane := 2, hdr := { opcode := 1, len := 4 } }, data := [1, 2, 3] })], gens := [511] }, 0, 1023, [4], { pkt := { lane := 2, hdr := { opcode := 1, len := 4 } }, data := [1, 2, 3] }, by decide +kernel⟩
  · exact ⟨live, 0, 511, by decide +kernel⟩
  · exact ⟨(live).setBr 0 { slots := [(511, { pkt := { lane := 2, hdr := { opcode := 1, len := 4 } } })] }, 0, 511, { pkt := { lane := 2, hdr := { opcode := 1, len := 4 } } }, by decide +kernel⟩
  · exact ⟨(live).setBr 0 { dll := [{ lane := 2, hdr := { opcode := 2, len := 4 } }] }, 0, { lane := 2, hdr := { opcode := 2, len := 4 } }, [], by decide +kernel⟩
  · exact ⟨((live.obSet 0x5100 0x20 1)).setBr 2 { state := .up, cfgQ := [{ lane := 2, hdr := { opcode := 1, len := 4 } }] }, 2, { lane := 2, hdr := { opcode := 1, len := 4 } }, [], by decide +kernel⟩
  · exact ⟨((live.obSet 0x5100 0x20 1)).setBr 2 { state := .up, cfgQ := [{ lane := 2, hdr := { opcode := 3, len := 4 } }] }, 2, { lane := 2, hdr := { opcode := 3, len := 4 } }, [], by decide +kernel⟩

theorem test_witness_SpringheadScripts :
    (∃ (s : State) (c : _), cmdBad s.scriptLen c = false ∧ s.fetched 0 c = true)
    ∧ (∃ (s : State) (c : _) (v : _) (u : _), cmdBad s.scriptLen c = false ∧ s.fetched 1 c = true ∧ springBarred c.index c.sub = false ∧ s.springValue c = (some v, u) ∧ u.writeRefused { who := .springhead, index := c.index, sub := c.sub, data := leBytes v (2 ^ c.size) } = none ∧ c.index = 0x1017)
    ∧ (∃ (s : State) (c : _) (v : _) (u : _), cmdBad s.scriptLen c = false ∧ s.fetched 2 c = true ∧ s.springRead c = (some v, u))
    ∧ (∃ (s : State) (c : _), cmdBad s.scriptLen c = false ∧ s.fetched 3 c = true ∧ s.boat.stack.length < 4)
    ∧ (∃ (s : State) (c : _), cmdBad s.scriptLen c = false ∧ s.fetched 3 c = true ∧ 4 ≤ s.boat.stack.length)
    ∧ (∃ (s : State) (c : _) (pc : _) (rest : _), cmdBad s.scriptLen c = false ∧ s.fetched 4 c = true ∧ s.boat.stack = pc :: rest)
    ∧ (∃ (s : State) (c : _) (v : _) (u : _), cmdBad s.scriptLen c = false ∧ s.fetched 5 c = true ∧ s.springRead c = (some v, u))
    ∧ (∃ (s : State) (c : _), cmdBad s.scriptLen c = false ∧ s.fetched 6 c = true)
    ∧ (∃ (s : State) (c : _), cmdBad s.scriptLen c = false ∧ s.fetched 7 c = true ∧ (0x0C03, 0x41, 0) ∉ s.flt.held ∧ s.flt.input.length < 64)
    ∧ (∃ (s : State) (c : _), s.fetched 0 c = true ∧ cmdBad s.scriptLen c = true ∧ s.boat.spring = .trap)
    ∧ (∃ (s : State), s.boat.spring = .boot ∧ s.dev = .muster ∧ s.aon.resetting = none ∧ s.ob 0x2610 0xA = 0)
    ∧ (∃ (s : State) (k : _) (rest : _) (e : _), s.boat.spring = .idle ∧ s.boat.trapQ = k :: rest ∧ s.boat.vector.find? (fun x => decide (x.1 = k)) = some e)
    ∧ (∃ (s : State) (k : _) (rest : _), s.boat.spring = .idle ∧ s.boat.trapQ = k :: rest ∧ s.boat.vector.find? (fun x => decide (x.1 = k)) = none)
    ∧ (∃ (s : State), s.boat.spring = .trap ∧ (0x0C02, 0x41, 0) ∉ s.flt.held ∧ s.flt.input.length < 64) := by
  refine ⟨?_, ?_, ?_, ?_, ?_, ?_, ?_, ?_, ?_, ?_, ?_, ?_, ?_, ?_⟩
  · exact ⟨scripted [{ op := 0 }], { op := 0 }, by decide +kernel⟩
  · exact ⟨scripted [{ op := 1, size := 1, index := 0x1017, value := 65535, mask := 65535 }], { op := 1, size := 1, index := 0x1017, value := 65535, mask := 65535 }, 65535, scripted [{ op := 1, size := 1, index := 0x1017, value := 65535, mask := 65535 }], by decide +kernel⟩
  · exact ⟨scripted [{ op := 2, size := 1, index := 0x1017, value := 5, mask := 65535, time := 1000000 }], { op := 2, size := 1, index := 0x1017, value := 5, mask := 65535, time := 1000000 }, 1000, ((scripted [{ op := 2, size := 1, index := 0x1017, value := 5, mask := 65535, time := 1000000 }]).springRead { op := 2, size := 1, index := 0x1017, value := 5, mask := 65535, time := 1000000 }).2, by decide +kernel⟩
  · exact ⟨{ scripted [{ op := 3 }] with boat := { (scripted [{ op := 3 }]).boat with stack := [1, 2, 3] } }, { op := 3 }, by decide +kernel⟩
  · exact ⟨{ scripted [{ op := 3 }] with boat := { (scripted [{ op := 3 }]).boat with stack := [1, 2, 3, 4] } }, { op := 3 }, by decide +kernel⟩
  · exact ⟨{ scripted [{ op := 4 }] with boat := { (scripted [{ op := 4 }]).boat with stack := [9] } }, { op := 4 }, 9, [], by decide +kernel⟩
  · exact ⟨scripted [{ op := 5, size := 1, index := 0x1017, value := 5, mask := 65535 }], { op := 5, size := 1, index := 0x1017, value := 5, mask := 65535 }, 1000, ((scripted [{ op := 5, size := 1, index := 0x1017, value := 5, mask := 65535 }]).springRead { op := 5, size := 1, index := 0x1017, value := 5, mask := 65535 }).2, by decide +kernel⟩
  · exact ⟨scripted [{ op := 6, time := 1 }], { op := 6, time := 1 }, by decide +kernel⟩
  · exact ⟨scripted [{ op := 7, cond := 3, code := 65535 }], { op := 7, cond := 3, code := 65535 }, by decide +kernel⟩
  · exact ⟨scripted [{ op := 0, rsvd := 1 }], { op := 0, rsvd := 1 }, by decide +kernel⟩
  · exact ⟨State.reset, by decide +kernel⟩
  · exact ⟨{ live with boat := { live.boat with trapQ := [7], vector := [(7, 503)] } }, 7, [], (7, 503), by decide +kernel⟩
  · exact ⟨{ live with boat := { live.boat with trapQ := [7] } }, 7, [], by decide +kernel⟩
  · exact ⟨scripted [], by decide +kernel⟩

theorem test_witness_ImagesAndFlash :
    (∃ (s : State), s.img.state = .validating ∧ s.img.slots = [])
    ∧ (∃ (s : State), s.img.state ≠ .validating)
    ∧ (∃ (s : State), s.img.state = .loading ∧ s.img.loaderDone = false)
    ∧ (∃ (s : State), s.img.state = .validated ∧ s.ob 0x2602 3 = 2)
    ∧ (∃ (s : State) (o : _), s.boat.flash.op = some o ∧ s.boat.flash.fitted = true ∧ s.b18 = true ∧ o.phase = 0 ∧ o.erase = true)
    ∧ (∃ (s : State) (o : _), s.boat.flash.op = some o ∧ s.boat.flash.fitted = true ∧ s.b18 = true ∧ o.phase = 2)
    ∧ (∃ (s : State) (o : _), s.boat.flash.op = some o ∧ s.boat.flash.fitted = true ∧ s.b18 = true ∧ o.phase = 3 ∧ s.boat.flash.bytes (slotImage o.slotB) o.len ≠ s.flashImage o)
    ∧ (∃ (s : State) (o : _), s.boat.flash.op = some o ∧ s.boat.flash.fitted = true ∧ s.b18 = true ∧ o.phase = 3 ∧ s.boat.flash.bytes (slotImage o.slotB) o.len = s.flashImage o)
    ∧ (∃ (s : State) (o : _), s.boat.flash.op = some o ∧ s.boat.flash.fitted = true ∧ s.b18 = true ∧ o.phase = 4)
    ∧ (∃ (s : State) (o : _), s.boat.flash.op = some o)
    ∧ (∃ (s : State), s.boat.flash.op = none)
    ∧ (∃ (s : State), s.img.state = .validating) := by
  refine ⟨?_, ?_, ?_, ?_, ?_, ?_, ?_, ?_, ?_, ?_, ?_, ?_⟩
  · exact ⟨{ live with img := { state := .validating } }, by decide +kernel⟩
  · exact ⟨live, by decide +kernel⟩
  · exact ⟨{ live with img := { state := .loading } }, by decide +kernel⟩
  · exact ⟨({ live with img := { state := .validated } }).obSet 0x2602 3 2, by decide +kernel⟩
  · exact ⟨{ live with boat := { live.boat with flash := { state := .busy, fitted := true, op := some { slotB := true, erase := true } } } }, { slotB := true, erase := true }, by decide +kernel⟩
  · exact ⟨{ live with boat := { live.boat with flash := { state := .busy, fitted := true, op := some { slotB := true, erase := false, phase := 2, len := 1 } } } }, { slotB := true, erase := false, phase := 2, len := 1 }, by decide +kernel⟩
  · exact ⟨{ live with boat := { live.boat with flash := { state := .busy, fitted := true, op := some { slotB := true, erase := false, phase := 3, len := 1 } } } }, { slotB := true, erase := false, phase := 3, len := 1 }, by decide +kernel⟩
  · exact ⟨{ live with img := { staging := [(0, 7)], emptying := true }, boat := { live.boat with flash := { mem := [(0x401000, 7)], state := .busy, fitted := true, op := some { slotB := true, erase := false, phase := 3, len := 1 } } } }, { slotB := true, erase := false, phase := 3, len := 1 }, by decide +kernel⟩
  · exact ⟨{ live with boat := { live.boat with flash := { state := .busy, fitted := true, op := some { slotB := true, erase := false, phase := 4 } } } }, { slotB := true, erase := false, phase := 4 }, by decide +kernel⟩
  · exact ⟨{ live with boat := { live.boat with flash := { state := .busy, fitted := true, op := some { slotB := true, erase := false, phase := 4 } } } }, { slotB := true, erase := false, phase := 4 }, by decide +kernel⟩
  · exact ⟨live, by decide +kernel⟩
  · exact ⟨{ live with img := { state := .validating } }, by decide +kernel⟩

theorem test_witness_FaultReactions :
    (∃ (s : State) (m : _) (test : _) (rest : _) (e : _), s.flt.input = (m, test) :: rest ∧ m.cls ≠ 3 ∧ (s.policy m.kind).reaction ≤ 1 ∧ (∀ x ∈ s.uncleared, x.state = .raised → x.msg.cls ≠ m.cls) ∧ s.listPlace m = some e ∧ s.aon.resetting = none)
    ∧ (∃ (s : State) (m : _) (test : _) (rest : _), s.flt.input = (m, test) :: rest ∧ m.cls = 3 ∧ (s.policy m.kind).reaction = 2 ∧ s.uncleared = [] ∧ s.dev ≠ .standby ∧ (s.listPlace m).isSome = true ∧ s.aon.resetting = none)
    ∧ (∃ (s : State), s.flt.input = [])
    ∧ (∃ (s : State), s.flt.input ≠ [] ∧ s.aon.resetting.isSome = true)
    ∧ (∃ (s : State) (b : Fin 64) (c : _) (r : _) (n : _), s.domain 1 = .on ∧ s.aon.resetting = none ∧ pinKind b.val = some (c, r, n) ∧ c ≠ 3 ∧ sfind s.flt.pins b.val = none ∧ (s.policy (0x1000 + b.val)).reaction ≤ 1 ∧ (∀ x ∈ s.uncleared, x.state = .raised → x.msg.cls ≠ c))
    ∧ (∃ (b : Fin 64), pinKind b.val = none)
    ∧ (∃ (s : State), s.domain 1 ≠ .on)
    ∧ (∃ (s : State) (b : Fin 64), b.val = 1 ∧ s.dev = .muster)
    ∧ (∃ (s : State) (b : Fin 64), 9 ≤ b.val ∧ b.val ≤ 13 ∧ s.aon.pwrGood = false)
    ∧ (∃ (s : State) (e : Fin 64) (x : _), sfind s.flt.list e.val = some x ∧ x.state = .raised ∧ x.level = 1 ∧ x.timer = some 2 ∧ s.boat.trapQ.length < 8)
    ∧ (∃ (s : State) (b : Fin 64) (x : _), sfind s.flt.pins b.val = some x ∧ x.timer = none)
    ∧ (∃ (s : State), s.flt.inject = .armed ∧ field s.flt.injTarget 31 28 = 2)
    ∧ (∃ (s : State), s.flt.inject ≠ .armed) := by
  refine ⟨?_, ?_, ?_, ?_, ?_, ?_, ?_, ?_, ?_, ?_, ?_, ?_, ?_⟩
  · exact ⟨{ live with flt := { input := [({ kind := 0x0403, cls := 2 }, false)] } }, { kind := 0x0403, cls := 2 }, false, [], 0, by decide +kernel⟩
  · exact ⟨{ live with flt := { input := [({ kind := 0x0F03, cls := 3, source := 0x46 }, false)] } }, { kind := 0x0F03, cls := 3, source := 0x46 }, false, [], by decide +kernel⟩
  · exact ⟨live, by decide +kernel⟩
  · exact ⟨{ live with flt := { input := [({}, false)] }, aon := { resetting := some 2 } }, by decide +kernel⟩
  · exact ⟨live, 30, 1, 0, 0, by decide +kernel⟩
  · exact ⟨63, by decide +kernel⟩
  · exact ⟨{ live with pwr := { dom := [(0, .on)] } }, by decide +kernel⟩
  · exact ⟨State.reset, 1, by decide +kernel⟩
  · exact ⟨{ live with aon := { pwrGood := false } }, 13, by decide +kernel⟩
  · exact ⟨{ live with flt := { list := [(63, { state := .raised, level := 1, timer := some 2 })] }, boat := { live.boat with trapQ := List.replicate 7 0 } }, 63, { state := .raised, level := 1, timer := some 2 }, by decide +kernel⟩
  · exact ⟨{ live with flt := { pins := [(30, { state := .raised })] } }, 30, { state := .raised }, by decide +kernel⟩
  · exact ⟨{ live with flt := { inject := .armed, injTarget := 0x20000000 } }, by decide +kernel⟩
  · exact ⟨live, by decide +kernel⟩

theorem test_witness_StewardLoops :
    (∃ (s : State) (u : _) (r : _) (p : _) (l : _), s.loopInput 1 = (u, true) ∧ (r, p) ∈ allDirs ∧ l < 2 ∧ u.stw.warmup = true)
    ∧ (∃ (s : State) (u : _) (r : _) (p : _), s.loopInput 2 = (u, true) ∧ (r, p) ∈ allDirs ∧ u.stw.warmup = true)
    ∧ (∃ (s : State) (u : _), s.loopInput 3 = (u, true) ∧ u.mode 3 = 2 ∧ u.answers 1 = true ∧ u.ob 0x2500 2 = 0 ∧ u.stw.ownerAt = [] ∧ 0 < u.ob 0x2503 5 ∧ u.ob 0x2503 5 < 8 ∧ ofTwos 16 (u.ob 0x2503 3) ≤ u.sensor u.hottest)
    ∧ (∃ (s : State) (u : _) (k : _), s.loopInput 4 = (u, true) ∧ k < 24 ∧ u.mode 4 = 2 ∧ u.ob 0x2500 2 = 0 ∧ u.stw.ownerAt = [] ∧ u.stw.warmup = false ∧ u.dev ≠ .easy ∧ u.answers (16 + k) = true ∧ u.ob 0x2504 4 < sget 0 u.stw.load k)
    ∧ (∃ (s : State) (u : _) (d : _), s.loopInput 5 = (u, true) ∧ 16 ≤ d ∧ d < 48 ∧ u.mode 5 = 2 ∧ u.answers 1 = true ∧ u.ob 0x2500 2 = 0 ∧ u.stw.ownerAt = [] ∧ u.stw.warmup = false ∧ u.dev ≠ .easy ∧ u.domain d = .on ∧ bitAt (u.ob (domIdx d) 3) 30 = true ∧ bitAt (u.ob (domIdx d) 3) 31 = true ∧ u.holds d = false ∧ u.ob 0x2505 3 ≤ sget 0 u.stw.idle d ∧ u.targetRefused d (if d < 40 then 2 else 0) = none)
    ∧ (∃ (s : State) (c : _), c ∈ [(1, Instr.adaptSample), (2, Instr.linkSample), (3, Instr.thermalSample), (4, Instr.scrubSample), (5, Instr.idleSample)] ∧ s.mode c.1 = 0)
    ∧ (∃ (s : State) (p : Path) (v : Nat), v ≤ 8 ∧ s.dict.owner = some p ∧ s.dev ≠ .standby ∧ s.dev ≠ .muster ∧ s.dev ≠ .halted ∧ s.answers 1 = true ∧ s.mode 3 = 2)
    ∧ (∃ (s : State) (p : Path) (v : Nat), v ≤ 8 ∧ s.dict.owner = some p ∧ s.dev ≠ .standby ∧ s.dev ≠ .muster ∧ s.dev ≠ .halted ∧ s.answers 1 = true ∧ s.mode 3 ≠ 2) := by
  refine ⟨?_, ?_, ?_, ?_, ?_, ?_, ?_, ?_⟩
  · exact ⟨{ stewarded with stw := { running := true, warmup := true } }, (({ stewarded with stw := { running := true, warmup := true } }).loopInput 1).1, 47, 0, 1, by decide +kernel⟩
  · exact ⟨{ stewarded with stw := { running := true, warmup := true } }, (({ stewarded with stw := { running := true, warmup := true } }).loopInput 2).1, 47, 0, by decide +kernel⟩
  · exact ⟨(stewarded.obSet 0x2503 5 7).obSet 0x2503 8 1520, (((stewarded.obSet 0x2503 5 7).obSet 0x2503 8 1520).loopInput 3).1, by decide +kernel⟩
  · exact ⟨{ stewarded with stw := { running := true, load := [(23, 91)] } }, (({ stewarded with stw := { running := true, load := [(23, 91)] } }).loopInput 4).1, 23, by decide +kernel⟩
  · exact ⟨(({ stewarded with stw := { running := true, idle := [(47, 1500000)] } }).obSet 0x2505 1 2).obSet 0x223F 3 0xC00003E8, (((({ stewarded with stw := { running := true, idle := [(47, 1500000)] } }).obSet 0x2505 1 2).obSet 0x223F 3 0xC00003E8).loopInput 5).1, 47, by decide +kernel⟩
  · exact ⟨stewarded, (5, .idleSample), by decide +kernel⟩
  · exact ⟨stewarded, .can, 8, by decide +kernel⟩
  · exact ⟨stewarded.obSet 0x2503 1 0, .can, 8, by decide +kernel⟩

theorem test_witness_ProxyParking :
    (∃ (s : State) (n : RouterId) (p : Packet) (rest : List Packet), (sget {} s.pwr.proxies (niDom n.val)).rx = p :: rest ∧ (opKind p.hdr.opcode = .nonPosted ∨ opKind p.hdr.opcode = .posted) ∧ p.hdr.retx = false ∧ isCopy p = false ∧ (s.domain (niDom n.val) = .off ∨ s.domain (niDom n.val) = .retain) ∧ bitAt (s.ob (domIdx (niDom n.val)) 3) 31 = true ∧ niDom n.val ∉ s.pwr.failed ∧ (s.dev = .launch ∨ s.dev = .afloat) ∧ (sget {} s.pwr.proxies (niDom n.val)).parked.length < 16 ∧ (sget {} s.pwr.proxies (niDom n.val)).parked = [])
    ∧ (∃ (s : State) (n : RouterId) (p : Packet) (q : Packet) (rest : List Packet), (sget {} s.pwr.proxies (niDom n.val)).rx = p :: rest ∧ p.hdr.retx = true ∧ q ∈ (sget {} s.pwr.proxies (niDom n.val)).parked ∧ q.hdr.src = p.hdr.src ∧ q.lane = p.lane ∧ q.hdr.pseq = p.hdr.pseq) := by
  refine ⟨?_, ?_⟩
  · exact ⟨({ live with pwr := { dom := [(1, .on), (2, .on)], proxies := [(16, { rx := [readPkt] })] } }).obSet 0x2220 3 0xC00003E8, 9, readPkt, [], by decide +kernel⟩
  · exact ⟨({ live with pwr := { dom := [(1, .on), (2, .on)], proxies := [(16, { rx := [{ readPkt with hdr := { readPkt.hdr with retx := true } }], parked := [readPkt] })] } }).obSet 0x2220 3 0xC00003E8, 9, { readPkt with hdr := { readPkt.hdr with retx := true } }, readPkt, [], by decide +kernel⟩

theorem test_witness_ClaimReleases :
    (∃ (s : State) (node : _), s.named node = true ∧ s.xferState = 1)
    ∧ (∃ (s : State) (p : _), s.dict.owner = some p ∧ (s.xferState = 1 ∨ s.xferState = 2))
    ∧ (∃ (s : State) (p : _), Accepted s p 0x2010 2 0 ∧ s.dict.owner = some p ∧ (s.xferState = 1 ∨ s.xferState = 2))
    ∧ (∃ (s : State) (hb : Fin 2), s.dict.owner.bind pathBridge = some hb.val ∧ ((s.br hb.val).state = .up ∨ (s.br hb.val).state = .recovery))
    ∧ (∃ (s : State) (hb : Fin 2), s.dict.owner.bind pathBridge = some hb.val ∧ ((s.br hb.val).state = .up ∨ (s.br hb.val).state = .recovery)) := by
  refine ⟨?_, ?_, ?_, ?_, ?_⟩
  · exact ⟨{ live with img := { xfer := .openCan } }, 0x5F, by decide +kernel⟩
  · exact ⟨{ hosted with img := { xfer := .openHost } }, .hb0, by decide +kernel⟩
  · exact ⟨{ live with img := { xfer := .openCan } }, .can, by unfold Accepted; decide +kernel⟩
  · exact ⟨(hosted).setBr 0 { state := .recovery }, 0, by decide +kernel⟩
  · exact ⟨(hosted).setBr 0 { state := .up }, 0, by decide +kernel⟩

theorem test_witness_PllAndPulses :
    (∃ (s : State), s.dev = .muster ∧ s.domain 2 = .on ∧ s.cox.pll = false)
    ∧ (∃ (s : State), s.domain 2 = .on ∧ s.cox.pll = false ∧ (0x0101, 0x40, 0) ∉ s.flt.held ∧ s.flt.input.length < 64)
    ∧ (∃ (s : State) (rising : _), s.cox.pll = true ∧ s.domain 2 = .on ∧ s.ob 0x2110 1 = 1 ∧ (s.ob 0x2110 2 = 0 ↔ rising = false))
    ∧ (∃ (s : State) (rising : _), s.cox.pll = true ∧ s.domain 2 = .on ∧ s.ob 0x2110 1 = 1 ∧ (s.ob 0x2110 2 = 0 ↔ rising = true) ∧ s.cox.state = .unanchored ∧ s.cox.captured = none ∧ s.cox.reanchor = false)
    ∧ (∃ (s : State) (rising : _) (cap : _) (old : _), s.cox.pll = true ∧ s.domain 2 = .on ∧ s.ob 0x2110 1 = 1 ∧ (s.ob 0x2110 2 = 0 ↔ rising = true) ∧ s.cox.state = .unanchored ∧ s.cox.captured = some cap ∧ s.cox.edge = some old ∧ s.cox.qual = true ∧ ((s.clk.fab - cap : Nat) : Int) - 3072000000 ≤ 153 ∧ (3072000000 : Int) - (s.clk.fab - cap : Nat) ≤ 153)
    ∧ (∃ (s : State), s.cox.state = .anchored ∧ s.cox.missed = 0)
    ∧ (∃ (s : State), s.cox.state = .anchored ∧ s.cox.missed = 1)
    ∧ (∃ (s : State), s.cox.state = .holdover ∧ s.cox.limitHit = false ∧ (0x0103, 0x40, 0) ∉ s.flt.held ∧ s.flt.input.length < 64) := by
  refine ⟨?_, ?_, ?_, ?_, ?_, ?_, ?_, ?_⟩
  · exact ⟨State.reset, by decide +kernel⟩
  · exact ⟨State.reset, by decide +kernel⟩
  · exact ⟨live, false, by decide +kernel⟩
  · exact ⟨live, true, by decide +kernel⟩
  · exact ⟨{ live with cox := { pll := true, captured := some 0, edge := some { fab := 0 }, qual := true }, clk := { now := 3072000153, fab := 3072000153 } }, true, 0, { fab := 0 }, by decide +kernel⟩
  · exact ⟨{ live with cox := { pll := true, state := .anchored } }, by decide +kernel⟩
  · exact ⟨{ live with cox := { pll := true, state := .anchored, missed := 1 } }, by decide +kernel⟩
  · exact ⟨{ live with cox := { pll := true, state := .holdover } }, by decide +kernel⟩

theorem test_witness_RefusedWrites :
    (∃ (s : State) (w : ObjWrite) (o : Obj), w.wf = true ∧ objInfo w.index w.sub = some o ∧ tySize o.ty ≠ 0 ∧ o.acc ≠ .ro ∧ o.acc ≠ .const ∧ w.data.length = tySize o.ty ∧ s.rangeOk s.kv w.index w.sub o (fromLe w.data &&& o.keep) = false)
    ∧ (∃ (s : State) (w : ObjWrite) (c : Nat), w.path ≠ .can ∧ s.writeRefused { who := .path w.path, index := w.index, sub := w.sub, data := w.data } = some c) := by
  refine ⟨?_, ?_⟩
  · exact ⟨live, { path := .can, index := 0x2503, sub := 5, data := [9] }, orw .u8 0 (.btw 0 8), by decide +kernel⟩
  · exact ⟨{ hosted with dict := { owner := none } }, { path := .hb0, index := 0x3000, sub := 15, data := [1] }, 0x08000022, by decide +kernel⟩

/-- Live, with these transactions waiting in the matrix. -/
def asking (asks : SMap (List MatReq)) : State := { live with boat := { live.boat with asks := asks } }

theorem test_witness_MatrixAndDebug :
    (∃ (s : State) (p : _), Accepted s p 0x2601 4 2)
    ∧ (∃ (s : State), s.aon.resetting = none ∧ s.dev ≠ .standby)
    ∧ (∃ (s : State), s.aon.rstMasked = false ∧ s.aon.resetting = none ∧ s.dev ≠ .standby)
    ∧ (∃ (s : State) (g : Fin 9) (m : Nat) (q : MatReq), s.boat.next g.val = some (m, q) ∧ m ≠ 4)
    ∧ (∃ (s : State) (g : Fin 9), s.boat.next g.val = none)
    ∧ (∃ (s : State) (g : Fin 9) (m k : Nat) (q r : MatReq), m < 5 ∧ s.boat.lastGrant g.val < 5 ∧ s.boat.outstanding m = some r ∧ r.target = g.val ∧ s.boat.next g.val = some (k, q) ∧ k ≠ m ∧ k ≠ 4)
    ∧ (∃ (s : State) (g : Fin 9) (a : JtagAccess), s.boat.outstanding 4 = none ∧ s.boat.next g.val = none ∧ s.boat.debug = false ∧ (a.write = true ∨ matrixDecode s.boat.remap a.addr (a.size * a.beats) ≠ some 4))
    ∧ (∃ (s : State) (g : Fin 9) (a : JtagAccess), s.boat.outstanding 4 = none ∧ s.boat.next g.val = none ∧ s.boat.debug = true ∧ a.write = true ∧ a.obj = some (0x2600, 2) ∧ g.val = 2
        ∧ matrixDecode s.boat.remap a.addr (a.size * a.beats) = some 2) := by
  refine ⟨?_, ?_, ?_, ?_, ?_, ?_, ?_, ?_⟩
  · exact ⟨live, .can, by unfold Accepted; decide +kernel⟩
  · exact ⟨live, by decide +kernel⟩
  · exact ⟨live, by decide +kernel⟩
  · exact ⟨asking [(1, [{ target := 8, write := false, addr := 0xF000000, size := 8 }])], 8, 1, { target := 8, write := false, addr := 0xF000000, size := 8 }, by decide +kernel⟩
  · exact ⟨live, 8, by decide +kernel⟩
  · exact ⟨asking [(1, [{ target := 2, write := false, addr := 0x2000000, size := 8 }]), (2, [{ target := 2, write := true, addr := 0x2000000, size := 1 }])], 2, 1, 2,
      { target := 2, write := true, addr := 0x2000000, size := 1 }, { target := 2, write := false, addr := 0x2000000, size := 8 }, by decide +kernel⟩
  · exact ⟨live, 4, { write := true, addr := 0x4000000, size := 8, beats := 16, data := List.replicate 128 0 }, by decide +kernel⟩
  · exact ⟨{ live with boat := { live.boat with debug := true } }, 2, { write := true, addr := 0x20FFFFF, size := 1, data := [1], obj := some (0x2600, 2) }, by decide +kernel⟩

/-- A burst ends at a boundary of 128 bytes (R485). -/
theorem test_matrix_runs :
    (matrixRuns 1 true 0x1000078 20 20).map (fun q => (q.addr, q.size, q.beats)) = [(0x1000078, 8, 1), (0x1000080, 8, 1), (0x1000088, 4, 1)]
    ∧ (matrixRuns 1 true 0x1000080 136 136).map (fun q => (q.addr, q.size, q.beats)) = [(0x1000080, 8, 16), (0x1000100, 8, 1)] := by decide +kernel

/-- With REMAP at 1 the staging SRAM stands at address 0 (R488). -/
theorem test_remap : matrixDecode true 0x1FFFF8 8 = some 1 ∧ matrixDecode true 0x1000000 8 = some 0 ∧ matrixDecode false 0 8 = some 0 ∧ matrixDecode false 0x8FFFFFF 1 = some 7
    ∧ matrixDecode false 0x9000000 1 = none := by decide +kernel

theorem test_witness_FramesAtRings :
    (∃ (s : State) (n : RouterId) (e : Nat) (r : Nat) (p : Packet) (rest : List Packet) (oc : _), endpointOf n.val = .dm e ∧ oc ∈ [(0x08, Instr.send n), (0x09, Instr.sendNp n)] ∧ Welcome s n.val p rest ∧ p.hdr.opcode = oc.1 ∧ faOffset p.hdr.fa = 0x100000 + 0x10000 * r ∧ bitAt (leAt p.hdr.inl 6 1) 0 = true ∧ p.payload.take p.hdr.len ≠ [] ∧ (s.eng e).frames = [] ∧ (s.ring e r).state = .running ∧ (s.ring e r).consumer ≠ (s.ring e r).producer)
    ∧ (∃ (s : State) (e : EngineId) (r : Fin 16) (f : _) (b : _), (s.eng e.val).frames = [f] ∧ f.ring = r.val ∧ f.holding = true ∧ f.dead = false ∧ f.buf = some b ∧ f.more = [] ∧ f.last = false ∧ f.nps = [])
    ∧ (∃ (s : State) (e : EngineId) (r : Fin 16), (∀ f ∈ (s.eng e.val).frames, f.ring ≠ r.val ∨ f.holding = false))
    ∧ (∃ (s : State) (e : EngineId) (r : Fin 16) (f : _) (b : _) (k : _) (p : _), (s.eng e.val).frames = [f] ∧ f.ring = r.val ∧ f.holding = true ∧ f.dead = false ∧ f.buf = some b ∧ f.more = [] ∧ f.last = true ∧ f.nps = [(k, p)] ∧ p.hdr.opcode = 0x09 ∧ pairLane p = true ∧ (s.ring e.val r.val).producer = (s.ring e.val r.val).consumer) := by
  refine ⟨?_, ?_, ?_, ?_⟩
  · exact ⟨((((letIn 1 1 live).setRing 0 15 { state := .running, producer := 1 }).setNi 1 { rx := [checked { lane := 2, hdr := { opcode := 0x08, src := 8, fa := mkFa 1 1 0x1F0000, short := false, dflits := 1, len := 64, inl := [0, 0, 0, 0, 0, 0, 1] }, payload := List.replicate 64 7, framed := 1 }], wins := [(16, { exp := 0 })] })), 1, 0, 15, checked { lane := 2, hdr := { opcode := 0x08, src := 8, fa := mkFa 1 1 0x1F0000, short := false, dflits := 1, len := 64, inl := [0, 0, 0, 0, 0, 0, 1] }, payload := List.replicate 64 7, framed := 1 }, [], (0x08, .send 1), by unfold Welcome; decide +kernel⟩
  · exact ⟨live.setEng 7 { frames := [heldFrame] }, 7, 15, heldFrame, heldBuf, by decide +kernel⟩
  · exact ⟨live, 7, 15, by decide +kernel⟩
  · exact ⟨live.setEng 7 { frames := [{ heldFrame with last := true, nps := [(1, { lane := 2, hdr := { opcode := 0x09, src := 8 } })] }] }, 7, 15, { heldFrame with last := true, nps := [(1, { lane := 2, hdr := { opcode := 0x09, src := 8 } })] }, heldBuf, 1, { lane := 2, hdr := { opcode := 0x09, src := 8 } }, by decide +kernel⟩

theorem test_witness_StrokesAndHeats :
    (∃ (s : State), s.cox.pll = true ∧ s.cox.pendStep = none ∧ s.cox.sc0StopDue = false ∧ s.cox.stopDue = false ∧ s.img.loaderDone = false ∧ s.cox.seconds + 1 < 2 ^ 48 ∧ s.cox.stroke < 1500000)
    ∧ (∃ (s : State) (step : _), s.cox.pll = true ∧ s.cox.pendStep = some step ∧ s.cox.sc0StopDue = false ∧ s.cox.stopDue = false ∧ s.img.loaderDone = false)
    ∧ (∃ (s : State), s.ob 0x34F0 2 = 1 ∧ s.cox.cycle = 0)
    ∧ (∃ (s : State) (h : Heat), s.cox.armed = some h ∧ s.cox.pll = true ∧ s.cox.cycle = 0 ∧ s.cox.inStep = false ∧ h.at_ = s.netStroke ∧ s.ob 0x2120 5 = 0 ∧ (∀ n, (s.ni n).circ = [] ∧ (s.ni n).sc0 = [] ∧ (s.ni n).held = []) ∧ h.start = true)
    ∧ (∃ (s : State) (h : Heat), s.cox.armed = some h ∧ s.cox.pll = true ∧ s.cox.cycle = 0 ∧ s.cox.inStep = false ∧ h.at_ = s.netStroke ∧ s.ob 0x2120 5 = 0 ∧ (∀ n, (s.ni n).circ = [] ∧ (s.ni n).sc0 = [] ∧ (s.ni n).held = []) ∧ h.start = false ∧ s.dev ≠ .easy) := by
  refine ⟨?_, ?_, ?_, ?_, ?_⟩
  · exact ⟨{ live with cox := { pll := true, seconds := 2 ^ 48 - 2, stroke := 1499999 } }, by decide +kernel⟩
  · exact ⟨{ live with cox := { pll := true, pendStep := some (-5) } }, -5, by decide +kernel⟩
  · exact ⟨live.obSet 0x34F0 2 1, by decide +kernel⟩
  · exact ⟨{ live with cox := { pll := true, stroke := 1500, armed := some { seconds := 0, stroke := 1500, start := true }, cycle := 0 } }, { seconds := 0, stroke := 1500, start := true }, rfl, rfl, rfl, rfl, by decide +kernel, by decide +kernel, fun _ => ⟨rfl, rfl, rfl⟩, rfl⟩
  · exact ⟨{ live with cox := { pll := true, stroke := 1500, armed := some { seconds := 0, stroke := 1500, start := false }, cycle := 0 } }, { seconds := 0, stroke := 1500, start := false }, rfl, rfl, rfl, rfl, by decide +kernel, by decide +kernel, fun _ => ⟨rfl, rfl, rfl⟩, rfl, by decide +kernel⟩

end Sys2Proof.Tests
end

section
/-! SUPPORT. What a refused write of a path leaves behind, said once for State.noteRefusal: an unlock that the owner's write broke
(R585), the record of a host's write (R92), and at most one object beside it. All of these objects are read-only. -/

namespace Sys2Proof.Machine

open Sys2Proof.Safety

/-! ### Keys -/

theorem keyIdx_okey {i sub : Nat} (hi : i < 65536) (hs : sub < 256) : keyIdx (okey i sub) = i := by
  unfold keyIdx okey; omega

/-- The key of an object without a selector is its own; one behind a selector lies above all of those. -/
theorem shownKey_eq_okey_or_above (look : Nat → Nat) (i sub : Nat) : shownKey look i sub = okey i sub ∨ 16777216 ≤ shownKey look i sub := by
  unfold shownKey
  split
  · right; unfold skey; omega
  · exact .inl rfl

/-! ### The record of a host's write (R92) -/

theorem State.hostRefusal_frame (s : State) (p : Path) (code : Nat) :
    s.hostRefusal p code = { s with dict := { s.dict with objs := (s.hostRefusal p code).dict.objs } } := by
  cases p <;> rfl

theorem State.hostRefusal_kv (s : State) (p : Path) (code : Nat) {k : Nat} (h : ∀ sub, 1 ≤ sub → sub ≤ 4 → k ≠ okey 0x2012 sub) :
    (s.hostRefusal p code).kv k = s.kv k := by
  cases p with
  | can => rfl
  | hb0 =>
    exact (State.kv_setKv_other _ _ (h 3 (by decide) (by decide))).trans (State.kv_setKv_other _ _ (h 1 (by decide) (by decide)))
  | hb1 =>
    exact (State.kv_setKv_other _ _ (h 4 (by decide) (by decide))).trans (State.kv_setKv_other _ _ (h 2 (by decide) (by decide)))

theorem State.hostRefusal_code (s : State) {p : Path} (code : Nat) (hp : p ≠ .can) :
    (s.hostRefusal p code).ob 0x2012 (if p = .hb0 then 1 else 2) = code := by
  cases p with
  | can => exact absurd rfl hp
  | hb0 => exact (State.ob_bump_other _ (by decide)).trans (State.ob_obSet ..)
  | hb1 => exact (State.ob_bump_other _ (by decide)).trans (State.ob_obSet ..)

theorem State.hostRefusal_counts (s : State) {p : Path} (code : Nat) (hp : p ≠ .can) :
    Counts s (s.hostRefusal p code) 0x2012 (if p = .hb0 then 3 else 4) := by
  cases p with
  | can => exact absurd rfl hp
  | hb0 => exact (State.ob_bump ..).trans (congrArg (satAdd _ · 1) (State.ob_obSet_other _ _ (by decide)))
  | hb1 => exact (State.ob_bump ..).trans (congrArg (satAdd _ · 1) (State.ob_obSet_other _ _ (by decide)))

/-! ### The rest of what a refusal notes -/

/-- The unlock of RST_N after a write by a path: the owner's breaks it (R585). -/
def State.breakUnlock (s : State) (p : Path) : State :=
  { s with aon := { s.aon with unlockAt := if s.dict.owner = some p then none else s.aon.unlockAt } }

/-- The object i:sub that a refused write to an index may write beside the record of R92: the RESULT of R508, the count of R559
and R566, the flash result of R522. -/
inductive RefusalNote (index : Nat) : Nat → Nat → Prop where
  | xferResult (h : index = 0x2080) : RefusalNote index 0x2080 5
  | powerCount (lo : 0x2210 ≤ index) (hi : index ≤ 0x2241) : RefusalNote index 0x2200 4
  | flashResult (h : index = 0x2620) : RefusalNote index 0x2620 8

/-- The cases of noteRefusal for a path's write: the unlock and the record, and then one object more or none. -/
theorem State.noteRefusal_cases (s : State) {w : WriteReq} {p : Path} (hw : w.who = .path p) (code : Nat) :
    s.noteRefusal w code = (s.breakUnlock p).hostRefusal p code
      ∨ ∃ i sub v, RefusalNote w.index i sub ∧ s.noteRefusal w code = ((s.breakUnlock p).hostRefusal p code).obSet i sub v := by
  have hu : (if s.dict.owner = some p then { s with aon := { s.aon with unlockAt := none } } else s) = s.breakUnlock p := by
    unfold State.breakUnlock; split <;> rfl
  unfold State.noteRefusal
  simp only [hw, hu]
  split
  case isTrue h => exact .inr ⟨_, _, _, .xferResult h.1, rfl⟩
  split
  case isTrue h => exact .inr ⟨_, _, _, .powerCount (by omega) h.2.1, rfl⟩
  split
  case isTrue h => exact .inr ⟨_, _, _, .powerCount h.1 h.2.1, rfl⟩
  split
  case isTrue h => exact .inr ⟨_, _, _, .flashResult h.1, rfl⟩
  exact .inl rfl

section
variable (s : State) {w : WriteReq} {p : Path} (hw : w.who = .path p) (code : Nat)
include hw

theorem State.noteRefusal_frame :
    s.noteRefusal w code = { s.breakUnlock p with dict := { s.dict with objs := (s.noteRefusal w code).dict.objs } } := by
  obtain h | ⟨i, sub, v, -, h⟩ := s.noteRefusal_cases hw code
  · rw [h]; exact State.hostRefusal_frame ..
  · rw [h]; cases p <;> rfl

/-- Beside its own note a refusal reads as the record of R92 leaves it. -/
theorem State.noteRefusal_kv_record {k : Nat} (h : ∀ i sub, RefusalNote w.index i sub → k ≠ okey i sub) :
    (s.noteRefusal w code).kv k = ((s.breakUnlock p).hostRefusal p code).kv k := by
  obtain e | ⟨i, sub, v, hn, e⟩ := s.noteRefusal_cases hw code
  · rw [e]
  · rw [e]; exact State.kv_obSet_other _ _ (h i sub hn)

theorem State.noteRefusal_kv {k : Nat} (hr : ∀ sub, 1 ≤ sub → sub ≤ 4 → k ≠ okey 0x2012 sub)
    (hn : ∀ i sub, RefusalNote w.index i sub → k ≠ okey i sub) : (s.noteRefusal w code).kv k = s.kv k :=
  (s.noteRefusal_kv_record hw code hn).trans (State.hostRefusal_kv _ _ _ hr)

theorem State.noteRefusal_ob_record {sub : Nat} (hs : sub < 256) :
    (s.noteRefusal w code).ob 0x2012 sub = ((s.breakUnlock p).hostRefusal p code).ob 0x2012 sub := by
  refine s.noteRefusal_kv_record hw code fun i j hn he => ?_
  cases hn <;> exact absurd ((okey_inj hs (by decide)).mp he).1 (by decide)

theorem State.noteRefusal_code (hp : p ≠ .can) : (s.noteRefusal w code).ob 0x2012 (if p = .hb0 then 1 else 2) = code :=
  (s.noteRefusal_ob_record hw code (by split <;> decide)).trans (State.hostRefusal_code _ _ hp)

theorem State.noteRefusal_counts (hp : p ≠ .can) : Counts s (s.noteRefusal w code) 0x2012 (if p = .hb0 then 3 else 4) :=
  (s.noteRefusal_ob_record hw code (by split <;> decide)).trans (State.hostRefusal_counts _ _ hp)

end

/-! ### No refusal writes an object that a path may write -/

/-- Sub-indices 1 to 4 of 0x2012 are read-only. -/
theorem objInfo_record_acc {sub : Nat} {o : Obj} (h1 : 1 ≤ sub) (h4 : sub ≤ 4) (h : objInfo 0x2012 sub = some o) : o.acc = .ro := by
  have hall : ∀ j ∈ [1, 2, 3, 4], (objInfo 0x2012 j).map (·.acc) = some .ro := by decide
  simpa [h] using hall sub (by simp; omega)

theorem RefusalNote.acc {index i sub : Nat} {o : Obj} (hn : RefusalNote index i sub) (h : objInfo i sub = some o) : o.acc = .ro := by
  have hro : (objInfo i sub).map (·.acc) = some .ro := by cases hn <;> decide
  simpa [h] using hro

/-- Every object that a refusal writes is read-only, so an object that is not keeps the value that it shows. -/
theorem State.noteRefusal_keeps_shown (s : State) {w : WriteReq} {p : Path} (hw : w.who = .path p) (code : Nat) {look : Nat → Nat}
    {i sub : Nat} {o : Obj} (hs : sub < 256) (ho : objInfo i sub = some o) (hacc : o.acc ≠ .ro) :
    (s.noteRefusal w code).kv (shownKey look i sub) = s.kv (shownKey look i sub) := by
  have differs {j t : Nat} (hj : j < 65536) (ht : t < 256) (hro : ∀ x, objInfo j t = some x → x.acc = .ro) :
      shownKey look i sub ≠ okey j t := by
    intro he
    obtain hk | hk := shownKey_eq_okey_or_above look i sub
    · obtain ⟨rfl, rfl⟩ := (okey_inj hs ht).mp (hk.symm.trans he)
      exact hacc (hro o ho)
    · unfold okey at he; omega
  refine s.noteRefusal_kv hw code (fun t h1 h4 => ?_) (fun j t hn => ?_)
  · exact differs (by decide) (by omega) (fun _ hx => objInfo_record_acc h1 h4 hx)
  · exact differs (by cases hn <;> decide) (by cases hn <;> decide) (fun _ hx => hn.acc hx)

/-! ### OBJECT_WRITE -/

/-- OBJECT_WRITE as the dictionary judges it. -/
def WriteReq.ofWrite (w : ObjWrite) : WriteReq := { who := .path w.path, index := w.index, sub := w.sub, data := w.data }

theorem exec_objectWrite_of_refused {s : State} {w : ObjWrite} {c : Nat} (h : s.writeRefused (.ofWrite w) = some c) :
    exec (.objectWrite w) s = .next (s.noteRefusal (.ofWrite w) c) := by
  have hw : (s.write (.ofWrite w)).1 = s.noteRefusal (.ofWrite w) c := by simp only [State.write, h]
  have hf := s.noteRefusal_frame (w := .ofWrite w) rfl c
  calc exec (.objectWrite w) s = done s (s.write (.ofWrite w)).1 := rfl
    _ = done s (s.noteRefusal (.ofWrite w) c) := by rw [hw]
    _ = .next (s.noteRefusal (.ofWrite w) c) := done_self _ _ (by rw [hf]; rfl) (by rw [hf]; rfl)

/-- A number of its object's length whose value is out of range fails at order 7. -/
theorem State.dataRefused_of_out_of_range {s : State} {w : ObjWrite} {o : Obj} (ho : objInfo w.index w.sub = some o) (hn : tySize o.ty ≠ 0)
    (hl : w.data.length = tySize o.ty) (hr : s.rangeOk s.kv w.index w.sub o (fromLe w.data &&& o.keep) = false) :
    s.dataRefused (.ofWrite w) o = some 0x06090030 := by
  have hv : (WriteReq.ofWrite w).value = fromLe w.data &&& o.keep := by
    simp [WriteReq.value, WriteReq.ofWrite, ho, hn, List.take_of_length_le (Nat.le_of_eq hl)]
  unfold State.dataRefused
  rw [if_neg hn, hv]
  simp [WriteReq.ofWrite, hl, hr]

/-- What fails orders 6 and 7 is refused, there or at an earlier order. -/
theorem State.writeRefused_of_dataRefused {s : State} {w : WriteReq} {o : Obj} {c : Nat} (ho : objInfo w.index w.sub = some o)
    (hd : s.dataRefused w o = some c) : s.writeRefused w ≠ none := by
  unfold State.writeRefused
  rw [ho]
  cases absentCode w.index w.sub with
  | some _ => simp
  | none =>
    simp only [hd]
    repeat' split
    all_goals simp

end Sys2Proof.Machine

namespace Sys2Proof.Safety

open Sys2Proof.Machine

/-- Settles O57: no refusal writes an object that a path may write, and what it does write is the record of R92 and at most one
note beside it. -/
theorem refusedWrites : Obligations.RefusedWrites := by
  unfold Obligations.RefusedWrites
  refine ⟨fun s w o hwf ho hn hro _ hl hr => ?_, fun s w c hp h => ?_⟩
  · have hd := State.writeRefused_of_dataRefused (w := .ofWrite w) ho (State.dataRefused_of_out_of_range ho hn hl hr)
    obtain ⟨c, hc⟩ := Option.ne_none_iff_exists'.mp hd
    obtain ⟨-, hs, -⟩ := of_decide_eq_true hwf
    exact ⟨hd, _, exec_objectWrite_of_refused hc, s.noteRefusal_keeps_shown rfl c hs ho hro, s.noteRefusal_frame rfl c⟩
  · refine ⟨_, exec_objectWrite_of_refused h, s.noteRefusal_code rfl c hp, s.noteRefusal_counts rfl c hp, s.noteRefusal_frame rfl c, ?_⟩
    intro k hrec hxfer hpow hflash
    refine s.noteRefusal_kv rfl c (fun sub _ h4 => ?_) (fun i sub hnote => ?_)
    · rintro rfl
      exact hrec (keyIdx_okey (by decide) (by omega))
    · rintro rfl
      cases hnote with
      | xferResult hi => exact hxfer hi (by decide)
      | powerCount lo hi => exact hpow lo hi (by decide)
      | flashResult hi => exact hflash hi (by decide)

end Sys2Proof.Safety
end

section
/-! SUPPORT. The state after reset: its power domains, and the invariants of its memories and of its queue. -/

namespace Sys2Proof.Safety

open Sys2Proof.Machine

/-- Of the sparse table of domains reset lists PD00 to PD02, and any other number reads OFF (R577). -/
theorem reset_domain (d : Nat) : State.reset.domain d = if d < 3 then .on else .off := by
  match d with
  | 0 | 1 | 2 => rfl
  | n + 3 =>
    have hn : ¬ n + 3 < 3 := by omega
    rw [if_neg hn]
    simp [State.reset, State.domain, sget]

theorem reset_memoryCanonical : MemoryCanonical State.reset := canonical_empty rfl rfl

theorem queueOk_of_pending_nil {s : State} (h : s.pending = []) : QueueOk s := by
  unfold QueueOk
  rw [h]
  exact List.forall_mem_nil _

/-- Settles O2: the blocks' fields are at their defaults by definition; the domains and the two invariants are the lemmas above. -/
theorem resetState : Obligations.ResetState := by
  unfold Obligations.ResetState
  exact ⟨rfl, rfl, rfl, rfl, rfl, rfl, rfl, rfl, rfl, rfl, reset_domain, reset_memoryCanonical, queueOk_of_pending_nil rfl⟩

end Sys2Proof.Safety
end

section
/-! SUPPORT. What the lane rules, the drop of a packet and the runs of object writes of chapter 05 leave behind: a head that is
admitted, a packet discarded whole, one branch of a mask tree, the averages of R204 and the exclusions of R207. -/

namespace Sys2Proof.Machine

open Sys2Proof.Safety

/-! ### Lane buffers and routes -/

/-- Two lanes of one hub never share a buffer's key. -/
theorem bufKey_ne {r i l r' i' l' : Nat} (hl : l < 8) (hl' : l' < 8) (h : l ≠ l') : bufKey r i l ≠ bufKey r' i' l' := by
  unfold bufKey; omega

@[simp] theorem State.buf_setBuf (s : State) (r i l : Nat) (b : List Flit) : (s.setBuf r i l b).buf r i l = b := sget_sput_same ..

@[simp] theorem State.route_setRoute (s : State) (r i l : Nat) (x : Option Route) : (s.setRoute r i l x).route r i l = x := by
  cases x with
  | none => exact sfind_sdel_same ..
  | some x => exact sfind_sins_same ..

theorem State.setRoute_frame (s : State) (r i l : Nat) (x : Option Route) :
    s.setRoute r i l x = { s with fabric := { s.fabric with routes := (s.setRoute r i l x).fabric.routes } } := rfl

@[simp] theorem State.popFlits_buf (s : State) (r i l n : Nat) : (s.popFlits r i l n).buf r i l = (s.buf r i l).drop n := by
  unfold State.popFlits
  dsimp only
  split <;> exact State.buf_setBuf ..

theorem State.popFlits_frame (s : State) (r i l n : Nat) :
    s.popFlits r i l n = { s with fabric := { s.fabric with bufs := (s.popFlits r i l n).fabric.bufs, dirs := (s.popFlits r i l n).fabric.dirs } } := by
  unfold State.popFlits
  dsimp only
  split <;> rfl

/-- A packet of one flit at the front leaves its buffer at once, and no route stays. -/
theorem State.discardPacket_single {s : State} {r i l : Nat} {f : Flit} {rest : List Flit} (hb : s.buf r i l = f :: rest)
    (hf : f.ft = .single) : s.discardPacket r i l = (s.popFlits r i l 1).setRoute r i l none := by
  have hlast : isLastFlit f = true := by simp [isLastFlit, hf]
  simp [State.discardPacket, hb, packetSpan, packetWhole, hlast]

/-! ### A head that is admitted -/

/-- The outputs that the rule of a lane from L2 to L7 gives a packet (R194). -/
def State.ruleOuts (s : State) (r i l : Nat) (h : Header) : List Nat :=
  if l = 2 ∨ l = 3 then [xyOut r (faTarget h.fa)]
  else if l = 4 ∨ l = 5 then (s.sc3Out r i l h).toList
  else if l = 6 then maskTree r h.src (field h.mask 47 0) (opposite i)
  else [l7Out r (faTarget h.fa)]

/-- A head without a route, that a pair admits or that is of L7, outside CONFINED mode (R219, R221). -/
structure Admitted (s : State) (r i l : Nat) (h : Header) : Prop where
  front : ∃ f rest, s.buf r i l = f :: rest ∧ isHeadFlit f = true ∧ f.hdr = some h
  routeless : s.route r i l = none
  paired : l ≠ 7 → (s.governing r i h.pkey).isSome = true
  unconfined : s.fabric.act.confined = false

/-- An admitted head takes the outputs of its lane's rule, if there are any; XY packets and those of L7 need a link there that is
not DOWN. -/
theorem State.routeHead_of_admitted {s : State} {r i l : Nat} {h : Header} (ha : Admitted s r i l h) (h2 : 2 ≤ l) (h8 : l < 8)
    (hne : s.ruleOuts r i l h ≠ [])
    (hlink : l = 2 ∨ l = 3 ∨ l = 7 → ∀ o ∈ s.ruleOuts r i l h, o = 4 ∨ s.linkState r o ≠ .down) :
    s.routeHead r i l = s.setRoute r i l (some { hdr := h, outs := s.ruleOuts r i l h, multi := decide (l = 6) }) := by
  obtain ⟨⟨f, rest, hb, hhead, hhdr⟩, hroute, hpair, hconf⟩ := ha
  have hadm : ¬ (l ≠ 7 ∧ s.governing r i h.pkey = none) := fun ⟨h7, hn⟩ => by simpa [hn] using hpair h7
  have hcase : (l = 2 ∨ l = 3) ∨ (l = 4 ∨ l = 5) ∨ l = 6 ∨ l = 7 := by omega
  unfold State.routeHead
  simp only [hb, hhdr, hroute, hhead, hconf, Option.getD_some, if_neg hadm]
  obtain hxy | hsc3 | rfl | rfl := hcase
  · have hout : s.ruleOuts r i l h = [xyOut r (faTarget h.fa)] := if_pos hxy
    rw [hout] at hlink ⊢
    obtain h4 | hup := hlink (by omega) _ (List.mem_singleton_self _)
    · obtain rfl | rfl := hxy <;> simp [h4]
    · obtain rfl | rfl := hxy <;> simp [hup]
  · have hout : s.ruleOuts r i l h = (s.sc3Out r i l h).toList := by
      have h23 : ¬ (l = 2 ∨ l = 3) := by omega
      simp [State.ruleOuts, h23, hsc3]
    rw [hout] at hne ⊢
    cases hs : s.sc3Out r i l h with
    | none => simp [hs] at hne
    | some o => obtain rfl | rfl := hsc3 <;> simp
  · have hout : s.ruleOuts r i 6 h = maskTree r h.src (field h.mask 47 0) (opposite i) := rfl
    rw [hout] at hne ⊢
    simp [hne]
  · have hout : s.ruleOuts r i 7 h = [l7Out r (faTarget h.fa)] := rfl
    rw [hout] at hlink ⊢
    obtain h4 | hup := hlink (by omega) _ (List.mem_singleton_self _)
    · simp [h4]
    · simp [hup]

/-! ### A head that no pair admits -/

/-- A fault reaches no lane buffer but those of L7. -/
theorem State.raise_buf (s : State) (kind cls source unit addr : Nat) (router : Bool) {r i l : Nat} (hl : l < 7) :
    (s.raise kind cls source unit addr router).buf r i l = s.buf r i l := by
  have hk : bufKey r i l ≠ bufKey source 4 7 := bufKey_ne (by omega) (by decide) (by omega)
  unfold State.raise
  split
  · rfl
  dsimp only
  split
  · rw [State.toCollector_frame]; rfl
  split
  · simp only [State.buf, sget_smod_other, ne_eq, hk, not_false_eq_true]
  · rfl

/-- A head that no pair admits is counted, raises the fault of its port, and is discarded (R220). -/
theorem State.routeHead_of_unpaired {s : State} {r i l : Nat} {f : Flit} {rest : List Flit} {h : Header} (hb : s.buf r i l = f :: rest)
    (hhead : isHeadFlit f = true) (hhdr : f.hdr = some h) (hroute : s.route r i l = none) (h7 : l ≠ 7)
    (hg : s.governing r i h.pkey = none) : s.routeHead r i l = s.routerDrop r i l 0x70 0x0303 h.pkey := by
  simp [State.routeHead, hb, hhead, hhdr, hroute, h7, hg]

section
variable {s : State} {r i l : Nat} {f : Flit} {rest : List Flit} (hb : s.buf r i l = f :: rest) (hf : f.ft = .single) (hl : l < 7)
  (base kind detail : Nat)
include hb hf hl

/-- A packet of one flit that a router drops: its count and its fault first, then its flit leaves. -/
theorem State.routerDrop_single :
    s.routerDrop r i l base kind detail
      = ((((s.bump (0x3100 + r) (base + i)).raise kind 2 r i detail true).popFlits r i l 1).setRoute r i l none) :=
  State.discardPacket_single ((State.raise_buf _ _ _ _ _ _ _ hl).trans hb) hf

theorem State.routerDrop_single_buf : (s.routerDrop r i l base kind detail).buf r i l = rest := by
  rw [State.routerDrop_single hb hf hl]
  refine (State.popFlits_buf ..).trans ?_
  rw [State.raise_buf _ _ _ _ _ _ _ hl]
  exact congrArg (List.drop 1) hb

theorem State.routerDrop_single_counts (hr : r < 48) (hs : base + i < 256) :
    Counts s (s.routerDrop r i l base kind detail) (0x3100 + r) (base + i) := by
  rw [State.routerDrop_single hb hf hl, State.setRoute_frame, State.popFlits_frame]
  refine (State.raise_kv _ _ _ _ _ _ _ (k := okey (0x3100 + r) (base + i)) ?_).trans (State.ob_bump ..)
  rw [Ne, okey_inj hs (by decide)]
  omega

end

theorem State.raise_pending (s : State) (kind cls source unit addr : Nat) (router : Bool) :
    (s.raise kind cls source unit addr router).pending = s.pending := by rw [State.raise_frame]

theorem State.raise_otp (s : State) (kind cls source unit addr : Nat) (router : Bool) :
    (s.raise kind cls source unit addr router).otp = s.otp := by rw [State.raise_frame]

/-! ### One branch of a mask tree -/

section
variable {s : State} {r i o : Nat} {x : Route} (hx : s.route r i 6 = some x) (hd : x.drop = false) (ho : o ∈ x.outs) (hg : o ∉ x.granted)
include hx hd ho hg

/-- Credits for the whole packet open a branch that can carry it (R213). -/
theorem State.branchForward_of_credits (hup : o = 4 ∨ s.linkState r o = .up)
    (hc : s.branchReserved r o + (x.hdr.dflits + 1) ≤ s.credits r o 6) :
    s.branchForward r i o = s.setRoute r i 6 (some { x with granted := x.granted ++ [o] }) := by
  have hlive : ¬ (o < 4 ∧ s.linkState r o ≠ .up) := by
    rintro ⟨h4, hdown⟩
    exact hdown (hup.resolve_left (by omega))
  simp [State.branchForward, hx, hd, ho, hg, hlive, hc]

/-- A branch whose link is not UP is counted and leaves the packet's outputs, where another stays (R217). -/
theorem State.branchForward_of_not_up (h4 : o < 4) (hdown : s.linkState r o ≠ .up) (hne : without x.outs o ≠ []) :
    s.branchForward r i o = (s.bump (0x3100 + r) 0xA8).setRoute r i 6 (some { x with outs := without x.outs o }) := by
  simp [State.branchForward, hx, hd, ho, hg, h4, hdown, hne]

end

/-! ### Runs of object writes -/

/-- What holds at the start and after every step holds at the end of a run. -/
theorem forEach_induction {σ β : Type} {l : List β} {s : σ} {f : σ → β → σ} {motive : σ → Prop} (h0 : motive s)
    (hstep : ∀ t, motive t → ∀ x ∈ l, motive (f t x)) : motive (forEach l s f) :=
  List.foldlRecOn l f h0 hstep

/-- Steps that each write one object: which key, the value from the state before, and that no step changes what another key's
step will write. -/
structure WritesKeys {β : Type} (f : State → β → State) (key : β → Nat) (val : State → β → Nat) : Prop where
  same : ∀ s x, (f s x).kv (key x) = val s x
  other : ∀ s x k, k ≠ key x → (f s x).kv k = s.kv k
  stable : ∀ s x y, key y ≠ key x → val (f s x) y = val s y

section
variable {β : Type} {f : State → β → State} {key : β → Nat} {val : State → β → Nat} (hf : WritesKeys f key val)
include hf

theorem WritesKeys.forEach_other {l : List β} (s : State) {k : Nat} (h : ∀ x ∈ l, k ≠ key x) : (forEach l s f).kv k = s.kv k :=
  forEach_induction (motive := fun t => t.kv k = s.kv k) rfl fun t ht x hx => (hf.other t x k (h x hx)).trans ht

theorem WritesKeys.forEach_mem {l : List β} (s : State) {x : β} (hx : x ∈ l) (hnd : (l.map key).Nodup) :
    (forEach l s f).kv (key x) = val s x := by
  induction l generalizing s with
  | nil => cases hx
  | cons y l ih =>
    obtain ⟨hy, hnd⟩ := List.nodup_cons.mp hnd
    have hne : ∀ z ∈ l, key y ≠ key z := fun z hz he => hy (he ▸ List.mem_map_of_mem hz)
    obtain rfl | hx := List.mem_cons.mp hx
    · exact (hf.forEach_other _ hne).trans (hf.same s x)
    · exact (ih (f s y) hx hnd).trans (hf.stable s y x (hne x hx).symm)

end

/-! ### The averages of R204 -/

/-- The averages of a router that R204 updates: output, and 0 for L4 or 1 for L5. -/
def averaged (r : Nat) : List (Nat × Nat) := ((List.range 4).filter (hasPort r)).flatMap (fun o => [(o, 0), (o, 1)])

/-- The key of QDEPTH_AVG. -/
def avgKey (r : Nat) (a : Nat × Nat) : Nat := okey (0x3100 + r) (0x90 + 2 * a.1 + a.2)

/-- The average after its update (R204). -/
def State.nextAvg (s : State) (r shift : Nat) (a : Nat × Nat) : Nat :=
  let q : Int := s.ob (0x3100 + r) (0x90 + 2 * a.1 + a.2)
  (q + (16 * (16 - (s.credits r a.1 (4 + a.2) : Int)) - q) / 2 ^ shift).toNat

/-- One average updated. -/
def State.updateAvg (r shift : Nat) (s : State) (a : Nat × Nat) : State :=
  s.putLate (0x3100 + r) (0x90 + 2 * a.1 + a.2) (s.nextAvg r shift a) (s.clk.fab + 1)

/-- What QDEPTH_UPDATE does: one update after another. -/
def State.updateAvgs (s : State) (r : Nat) : State := forEach (averaged r) s (State.updateAvg r (s.ob (0x3100 + r) 0x98))

theorem exec_qdepthUpdate (s : State) (r : RouterId) : exec (.qdepthUpdate r) s = done s (s.updateAvgs r.val) := by
  unfold State.updateAvgs averaged forEach
  rw [List.foldl_flatMap]
  rfl

theorem updateAvg_writesKeys (r shift : Nat) : WritesKeys (State.updateAvg r shift) (avgKey r) (fun s a => s.nextAvg r shift a) where
  same s x := State.kv_setKv ..
  other s x k h := State.kv_setKv_other _ _ h
  stable s x y h := by
    have hq : (State.updateAvg r shift s x).ob (0x3100 + r) (0x90 + 2 * y.1 + y.2) = s.ob (0x3100 + r) (0x90 + 2 * y.1 + y.2) :=
      State.kv_setKv_other _ _ h
    have hc : (State.updateAvg r shift s x).credits r y.1 (4 + y.2) = s.credits r y.1 (4 + y.2) := rfl
    simp only [State.nextAvg, hq, hc]

theorem mem_averaged {r : Nat} {a : Nat × Nat} : a ∈ averaged r ↔ a.1 < 4 ∧ hasPort r a.1 = true ∧ a.2 < 2 := by
  obtain ⟨o, k⟩ := a
  constructor
  · intro h
    obtain ⟨p, hp, ha⟩ := List.mem_flatMap.mp h
    obtain ⟨hp4, hport⟩ := List.mem_filter.mp hp
    obtain ⟨rfl, hk⟩ : o = p ∧ (k = 0 ∨ k = 1) := by simpa [← and_or_left] using ha
    exact ⟨List.mem_range.mp hp4, hport, by omega⟩
  · rintro ⟨h4, hport, hk⟩
    refine List.mem_flatMap.mpr ⟨o, List.mem_filter.mpr ⟨List.mem_range.mpr h4, hport⟩, ?_⟩
    obtain rfl | rfl : k = 0 ∨ k = 1 := by omega
    all_goals simp

theorem averaged_nodup (r : Nat) : (averaged r).Nodup := by
  have fst_eq {o : Nat} {a : Nat × Nat} (ha : a ∈ [(o, 0), (o, 1)]) : a.1 = o := by
    obtain rfl | ha := List.mem_cons.mp ha
    · rfl
    · rw [List.mem_singleton.mp ha]
  refine List.pairwise_flatMap.mpr ⟨fun o _ => ?_, (List.nodup_range.filter _).imp fun hne x hx y hy he => hne ?_⟩
  · exact List.pairwise_pair.mpr fun he => Nat.zero_ne_one (congrArg Prod.snd he)
  · rw [← fst_eq hx, he, fst_eq hy]

theorem averaged_keys_nodup (r : Nat) : ((averaged r).map (avgKey r)).Nodup := by
  refine List.pairwise_map.mpr ((averaged_nodup r).imp_of_mem fun {x y} hx hy hne he => hne ?_)
  obtain ⟨hx4, -, hx2⟩ := mem_averaged.mp hx
  obtain ⟨hy4, -, hy2⟩ := mem_averaged.mp hy
  have hs := ((okey_inj (by omega) (by omega)).mp he).2
  exact Prod.ext (by omega) (by omega)

theorem State.updateAvgs_frame (s : State) (r : Nat) : ∃ objs late,
    s.updateAvgs r = { s with dict := { s.dict with objs := objs }, fabric := { s.fabric with late := late } } := by
  unfold State.updateAvgs
  refine forEach_induction (motive := fun t : State => ∃ objs late, t = { s with dict := { s.dict with objs := objs }, fabric := { s.fabric with late := late } })
    ⟨s.dict.objs, s.fabric.late, rfl⟩ ?_
  rintro _ ⟨objs, late, rfl⟩ a -
  exact ⟨_, _, rfl⟩

theorem State.updateAvgs_onlyIndex (s : State) {r : Nat} (hr : r < 48) : OnlyIndex s (s.updateAvgs r) (0x3100 + r) := by
  intro k hk
  refine (updateAvg_writesKeys r _).forEach_other s fun a ha he => hk ?_
  obtain ⟨h4, -, h2⟩ := mem_averaged.mp ha
  rw [he]
  exact keyIdx_okey (by omega) (by omega)

/-! ### The exclusions of R207 -/

/-- EXCLUDE of an output (R207): the destinations that the next router does not reach over links that a test admits. -/
def State.nextExclude (s : State) (live : Nat → Nat → Bool) (ro : Nat × Nat) : Nat :=
  maskOf ((List.range 48).filter (fun d => ! s.reaches live 13 (neighbour ro.1 ro.2) d (decide (ro.2 = 0 ∨ ro.2 = 2))))

/-- The key of EXCLUDE of an output. -/
def excludeKey (ro : Nat × Nat) : Nat := okey (0x3100 + ro.1) (0xA0 + ro.2)

/-- One EXCLUDE computed. -/
def State.updateExclude (live : Nat → Nat → Bool) (s : State) (ro : Nat × Nat) : State :=
  s.obSet (0x3100 + ro.1) (0xA0 + ro.2) (s.nextExclude live ro)

/-- What EXCLUDE_RECOMPUTE does: every output of every router, over the links that were UP before it. -/
def State.updateExcludes (s : State) : State := forEach allDirs s (State.updateExclude (fun a b => decide (s.linkState a b = .up)))

theorem exec_excludeRecompute (s : State) : exec .excludeRecompute s = done s s.updateExcludes := rfl

/-- Reachability reads the fabric's tables alone. -/
theorem State.reaches_congr {s t : State} (h : t.fabric = s.fabric) (live : Nat → Nat → Bool) (n r d : Nat) (src : Bool) :
    t.reaches live n r d src = s.reaches live n r d src := by
  induction n generalizing r src with
  | zero => rfl
  | succ n ih => simp only [State.reaches, State.allow, h, ih]

theorem updateExclude_writesKeys (live : Nat → Nat → Bool) :
    WritesKeys (State.updateExclude live) excludeKey (fun s ro => s.nextExclude live ro) where
  same s x := State.kv_setKv ..
  other s x k h := State.kv_setKv_other _ _ h
  stable s x y _ := by
    have hf : (State.updateExclude live s x).fabric = s.fabric := rfl
    simp only [State.nextExclude, State.reaches_congr hf]

theorem mem_allDirs {r o : Nat} (hr : r < 48) (ho : hasPort r o = true) : (r, o) ∈ allDirs := by
  have h4 : o < 4 := by
    match o, ho with
    | 0, _ | 1, _ | 2, _ | 3, _ => decide
  simp [allDirs, hr, h4, ho]

theorem allDirs_keys_nodup : (allDirs.map excludeKey).Nodup := by decide +kernel

theorem State.updateExcludes_frame (s : State) : ∃ objs, s.updateExcludes = { s with dict := { s.dict with objs := objs } } := by
  unfold State.updateExcludes
  refine forEach_induction (motive := fun t : State => ∃ objs, t = { s with dict := { s.dict with objs := objs } }) ⟨s.dict.objs, rfl⟩ ?_
  rintro _ ⟨objs, rfl⟩ ro -
  exact ⟨_, rfl⟩

end Sys2Proof.Machine

namespace Sys2Proof.Safety

open Sys2Proof.Machine

/-! ### The rows of chapter 05 -/

theorem completes_packetHeadRoute {s : State} {r : RouterId} {i : Fin 5} {l : Lane} {h : Header} {outs : List Nat} {multi : Bool}
    (ha : Admitted s r.val i.val l.val h) (h2 : 2 ≤ l.val) (hout : s.ruleOuts r.val i.val l.val h = outs) (hne : outs ≠ [])
    (hlink : l.val = 2 ∨ l.val = 3 ∨ l.val = 7 → ∀ o ∈ outs, o = 4 ∨ s.linkState r.val o ≠ .down) (hm : decide (l.val = 6) = multi) :
    Completes (.packetHeadRoute r i l) s
      (fun t => t = s.setRoute r.val i.val l.val (some { hdr := h, outs := outs, multi := multi })) := by
  subst hout hm
  refine ⟨_, ?_, rfl⟩
  exact congrArg (done s) (State.routeHead_of_admitted ha h2 l.isLt hne hlink)

theorem completes_packetHeadRoute_unpaired {s : State} {r : RouterId} {i : Fin 5} {l : Lane} {f : Flit} {rest : List Flit} {h : Header}
    (hb : s.buf r.val i.val l.val = f :: rest) (hf : f.ft = .single) (hhdr : f.hdr = some h) (hroute : s.route r.val i.val l.val = none)
    (h7 : l.val ≠ 7) (hg : s.governing r.val i.val h.pkey = none) :
    Completes (.packetHeadRoute r i l) s (fun t => t.buf r.val i.val l.val = rest ∧ t.route r.val i.val l.val = none
      ∧ Counts s t (0x3100 + r.val) (0x70 + i.val)) := by
  have hl : l.val < 7 := by omega
  have hi : 0x70 + i.val < 256 := by omega
  have hhead : isHeadFlit f = true := by simp [isHeadFlit, hf]
  refine ⟨s.routerDrop r.val i.val l.val 0x70 0x0303 h.pkey, ?_, State.routerDrop_single_buf hb hf hl _ _ _, ?_,
    State.routerDrop_single_counts hb hf hl _ _ _ r.isLt hi⟩
  · calc exec (.packetHeadRoute r i l) s
        = done s (s.routerDrop r.val i.val l.val 0x70 0x0303 h.pkey) :=
          congrArg (done s) (State.routeHead_of_unpaired hb hhead hhdr hroute h7 hg)
      _ = .next (s.routerDrop r.val i.val l.val 0x70 0x0303 h.pkey) := by
          rw [State.routerDrop_single hb hf hl, State.setRoute_frame, State.popFlits_frame]
          exact done_self _ _ (State.raise_pending ..) (State.raise_otp ..)
  · rw [State.routerDrop_single hb hf hl]
    exact State.route_setRoute ..

theorem completes_qdepthUpdate (s : State) (r : RouterId) :
    Completes (.qdepthUpdate r) s (fun t => OnlyIndex s t (0x3100 + r.val)
      ∧ t = { s with dict := { s.dict with objs := t.dict.objs }, fabric := { s.fabric with late := t.fabric.late } }
      ∧ ∀ o k, o < 4 → hasPort r.val o = true → k < 2 →
          t.ob (0x3100 + r.val) (0x90 + 2 * o + k) = s.nextAvg r.val (s.ob (0x3100 + r.val) 0x98) (o, k)) := by
  obtain ⟨objs, late, hframe⟩ := s.updateAvgs_frame r.val
  refine ⟨s.updateAvgs r.val, ?_, s.updateAvgs_onlyIndex r.isLt, ?_, fun o k h4 hport hk => ?_⟩
  · rw [exec_qdepthUpdate]
    exact done_self _ _ (by rw [hframe]) (by rw [hframe])
  · rw [hframe]
  · exact (updateAvg_writesKeys r.val _).forEach_mem s (x := (o, k)) (mem_averaged.mpr ⟨h4, hport, hk⟩) (averaged_keys_nodup r.val)

theorem completes_excludeRecompute (s : State) {r o : Nat} (hr : r < 48) (ho : hasPort r o = true) :
    Completes .excludeRecompute s (fun t => t = { s with dict := { s.dict with objs := t.dict.objs } }
      ∧ t.ob (0x3100 + r) (0xA0 + o) = s.nextExclude (fun a b => decide (s.linkState a b = .up)) (r, o)) := by
  obtain ⟨objs, hframe⟩ := s.updateExcludes_frame
  refine ⟨s.updateExcludes, ?_, ?_, ?_⟩
  · rw [exec_excludeRecompute]
    exact done_self _ _ (by rw [hframe]) (by rw [hframe])
  · rw [hframe]
  · exact (updateExclude_writesKeys _).forEach_mem s (x := (r, o)) (mem_allDirs hr ho) allDirs_keys_nodup

/-- Settles O29: a lane's rule gives an admitted head its outputs, a head without a pair is dropped, a branch is admitted or struck
out, and the averages and exclusions are runs of writes to different objects. -/
theorem headRouting : Obligations.HeadRouting := by
  unfold Obligations.HeadRouting
  intro s r
  refine ⟨fun i l f rest h hb hhead hhdr hroute hpair hconf => ?_, fun i l f rest h hb hf hhdr hroute h7 hg => ?_,
    fun i o x hx hd ho hg hup hc => ?_, fun i o x hx hd ho hg h4 hdown hne => ?_, ?_, fun o ho => ?_⟩
  · have ha : Admitted s r.val i.val l.val h := ⟨⟨f, rest, hb, hhead, hhdr⟩, hroute, hpair, hconf⟩
    refine ⟨fun hl hlink => ?_, fun hl hlink => ?_, fun o hl hs => ?_, fun hl hne => ?_⟩
    · exact completes_packetHeadRoute ha (by omega) (if_pos hl) (List.cons_ne_nil _ _)
        (fun _ => List.forall_mem_singleton.mpr hlink) (decide_eq_false (by omega))
    · exact completes_packetHeadRoute ha (by omega) (by simp [State.ruleOuts, hl]) (List.cons_ne_nil _ _)
        (fun _ => List.forall_mem_singleton.mpr hlink) (decide_eq_false (by omega))
    · have hsc3 : s.sc3Out r.val i.val l.val h = some o := by simpa [State.sc3Out, hconf] using hs
      exact completes_packetHeadRoute ha (by omega) (by obtain hl | hl := hl <;> simp [State.ruleOuts, hl, ← hsc3])
        (List.cons_ne_nil _ _) (fun _ => by omega) (decide_eq_false (by omega))
    · exact completes_packetHeadRoute ha (by omega) (by simp [State.ruleOuts, hl]) hne (fun _ => by omega) (decide_eq_true hl)
  · exact completes_packetHeadRoute_unpaired hb hf hhdr hroute h7 hg
  · exact ⟨_, congrArg (done s) (State.branchForward_of_credits hx hd ho hg hup hc), rfl⟩
  · exact ⟨(s.bump (0x3100 + r.val) 0xA8).setRoute r.val i.val 6 (some { x with outs := without x.outs o.val }),
      congrArg (done s) (State.branchForward_of_not_up hx hd ho hg h4 hdown hne), s.ob_bump .., State.route_setRoute ..⟩
  · exact completes_qdepthUpdate s r
  · exact completes_excludeRecompute s r.isLt ho

end Sys2Proof.Safety
end

section
/-! SUPPORT. What telling the issuers of an access its outcome can change in the network interfaces: the accesses that wait there and
the answers on their way out, and no other field. -/

namespace Sys2Proof.Machine

/-- An NI with another's waiting accesses and answers: its inbox, the packets queued for SEND and for SC0, and the books of R282,
R286 and R308 about requests not yet answered. -/
def NI.withTraffic (x y : NI) : NI :=
  { x with inbox := y.inbox, sendQ := y.sendQ, sc0 := y.sc0, order := y.order, ready := y.ready, open3 := y.open3, promised := y.promised,
           replies := y.replies }

end Sys2Proof.Machine

namespace Sys2Proof.Safety

open Sys2Proof.Machine

/-- No NI differs in more than its waiting accesses and answers. -/
structure TrafficOnly (s t : State) : Prop where
  ni : ∀ m, t.ni m = (s.ni m).withTraffic (t.ni m)

namespace TrafficOnly

theorem refl (s : State) : TrafficOnly s s := ⟨fun _ => rfl⟩

theorem trans {s t u : State} (h : TrafficOnly s t) (g : TrafficOnly t u) : TrafficOnly s u := ⟨fun m => by
  rw [g.ni m, h.ni m]; rfl⟩

/-- As trans, with the later step first: it names the state between. -/
theorem after {s t u : State} (g : TrafficOnly t u) (h : TrafficOnly s t) : TrafficOnly s u := h.trans g

theorem of_nis {s t : State} (h : t.nis = s.nis) : TrafficOnly s t := ⟨fun m => by
  simp only [State.ni, h]; rfl⟩

theorem modNi {s : State} {n : Nat} {f : NI → NI} (h : ∀ x, f x = x.withTraffic (f x)) : TrafficOnly s (s.modNi n f) := ⟨fun m => by
  by_cases e : m = n
  · subst e; rw [State.ni_modNi]; exact h _
  · rw [State.ni_modNi_other s f e]; rfl⟩

theorem modEng (s : State) (e : Nat) (f : Engine → Engine) : TrafficOnly s (s.modEng e f) := of_nis rfl
theorem modBr (s : State) (b : Nat) (f : Bridge → Bridge) : TrafficOnly s (s.modBr b f) := of_nis rfl
theorem obSet (s : State) (i sub v : Nat) : TrafficOnly s (s.obSet i sub v) := of_nis rfl

theorem ite {p : Prop} [Decidable p] {s a b : State} (ha : TrafficOnly s a) (hb : TrafficOnly s b) : TrafficOnly s (if p then a else b) := by
  split <;> assumption

theorem foldl {α : Type} {f : State → α → State} (h : ∀ s a, TrafficOnly s (f s a)) (l : List α) (s : State) : TrafficOnly s (l.foldl f s) :=
  List.foldlRecOn l f (refl s) fun t ht a _ => ht.trans (h t a)

theorem sc0Done {s t : State} (h : TrafficOnly s t) (n : Nat) : (t.ni n).sc0Done = (s.ni n).sc0Done := by
  rw [h.ni n]; rfl

/-! ### Accesses, faults and answers -/

theorem pushAccess (s : State) (n : Nat) (a : Access) : TrafficOnly s (s.pushAccess n a) := modNi fun _ => rfl

theorem raise (s : State) (kind cls source unit addr : Nat) : TrafficOnly s (s.raise kind cls source unit addr) := by
  unfold State.raise
  refine ite (refl s) ?_
  dsimp only
  refine ite (of_nis (by rw [State.toCollector_frame])) (ite (of_nis rfl) ?_)
  exact after (modNi fun _ => rfl) (of_nis rfl)

theorem queueAnswer (s : State) (n : Nat) (q p : Packet) : TrafficOnly s (s.queueAnswer n q p) :=
  ite (modNi fun _ => rfl) (modNi fun _ => rfl)

theorem releaseAnswers (s : State) (n : Nat) : TrafficOnly s (s.releaseAnswers n) := by
  unfold State.releaseAnswers
  refine List.foldlRecOn (motive := fun b : State × List Nat => TrafficOnly s b.1) _ _ (refl s) fun b hb o _ => ?_
  dsimp only
  split
  · exact hb
  · split
    · exact hb
    · dsimp only
      exact hb.trans (modNi fun _ => rfl)

theorem answer (s : State) (n : Nat) (q p : Packet) : TrafficOnly s (s.answer n q p) :=
  ite (after (releaseAnswers ..) (modNi fun _ => rfl)) (after (queueAnswer ..) (ite (modNi fun _ => rfl) (refl s)))

theorem reply (s : State) (n : Nat) (q : Packet) (status : Nat) (data : Bytes) : TrafficOnly s (s.reply n q status data) :=
  after (answer ..) (ite (modNi fun _ => rfl) (refl s))

/-! ### Engines: descriptor queues and mailboxes -/

theorem workAnswer (s : State) (e q : Nat) (w : Work) (use : DmaUse) (status : Nat) (data : Bytes) :
    TrafficOnly s (s.workAnswer e q w use status data) := by
  have counted (n : Nat) : TrafficOnly s (if status = 0 then s.bumpBy (0x4C00 + e) 0x43 n else s) := ite (of_nis rfl) (refl s)
  have issued {u : State} (h : TrafficOnly s u) (v : Work) (l : List Access) :
      TrafficOnly s (l.foldl (fun s a => s.pushAccess (niOfDm e) a) (u.setDq e q ((u.dq e q).putWork v))) :=
    after (foldl (fun _ _ => pushAccess ..) ..) (after (modEng ..) h)
  unfold State.workAnswer
  cases use with
  | source n off len => exact ite (issued (counted _) _ _) (ite (issued (counted _) _ _) (issued (counted _) _ _))
  | dest n off len => exact issued (counted _) _ _
  | result n => exact issued (counted _) _ _
  | barrier => exact issued (refl s) _ _
  | descriptors first count => exact refl s
  | record i => exact refl s

theorem recordAnswer (s : State) (e q index status : Nat) : TrafficOnly s (s.recordAnswer e q index status) := by
  unfold State.recordAnswer
  dsimp only
  split
  · exact refl s
  · refine ite (of_nis rfl) (after (raise ..) ?_)
    unfold State.qError
    exact after (modEng ..) (ite (modEng ..) (after (obSet ..) (modEng ..)))

theorem dmaAnswer (s : State) (e q w : Nat) (use : DmaUse) (status : Nat) (data : Bytes) : TrafficOnly s (s.dmaAnswer e q w use status data) := by
  unfold State.dmaAnswer
  split
  · exact ite (ite (of_nis rfl) (of_nis rfl)) (refl s)
  · exact recordAnswer ..
  · split
    · exact workAnswer ..
    · exact refl s

theorem closeBufs (s : State) (e : Nat) (f : Frame) (trunc : Bool) : TrafficOnly s (s.closeBufs e f trunc) :=
  foldl (fun _ _ => pushAccess ..) ..

theorem answerSend (s : State) (e : Nat) (f : Frame) (status : Nat) : TrafficOnly s (s.answerSend e f status) :=
  foldl (fun _ _ => reply ..) ..

theorem truncate (s : State) (e : Nat) (f : Frame) (count : Nat) : TrafficOnly s (s.truncate e f count) :=
  after (ite (modEng ..) (modEng ..)) (after (answerSend ..) (after (obSet ..) (closeBufs ..)))

theorem frameWhole (s : State) (e : Nat) (f : Frame) : TrafficOnly s (s.frameWhole e f) := by
  unfold State.frameWhole
  exact after (modEng ..) (after (answerSend ..) (after (ite (obSet ..) (refl _)) (after (obSet ..) (closeBufs ..))))

theorem fillBufs (e fuel : Nat) (s : State) (f : Frame) (data : Bytes) : TrafficOnly s (s.fillBufs e fuel f data).1 := by
  induction fuel generalizing s f data with
  | zero => exact refl s
  | succ fuel ih =>
    unfold State.fillBufs
    split
    · exact refl s
    · dsimp only
      split
      · exact ite (refl s) (pushAccess ..)
      · split
        · exact ite (refl s) (pushAccess ..)
        · exact after (ih ..) (after (pushAccess ..) (ite (refl s) (pushAccess ..)))

theorem exhaust (s : State) (e : Nat) (f : Frame) : TrafficOnly s (s.exhaust e f) := by
  unfold State.exhaust
  refine ite (truncate ..) (ite (ite (truncate ..) ?_) ?_)
  · exact after (releaseAnswers ..) (after (modNi fun _ => rfl) (of_nis rfl))
  · have filled := fillBufs e (f.more.length + 1) s f (f.parked.head?.getD [])
    generalize s.fillBufs e (f.more.length + 1) f (f.parked.head?.getD []) = r at filled ⊢
    exact after (truncate ..) filled

theorem grant (s : State) (e : Nat) (f : Frame) : TrafficOnly s (s.grant e f) := after (pushAccess ..) (of_nis rfl)

theorem serveWaiting (e r fuel : Nat) (s : State) : TrafficOnly s (s.serveWaiting e r fuel) := by
  induction fuel generalizing s with
  | zero => exact refl s
  | succ fuel ih =>
    unfold State.serveWaiting
    split
    · exact refl s
    · exact ite (after (ih _) (grant ..)) (refl s)

theorem needDesc (s : State) (e : Nat) (f : Frame) : TrafficOnly s (s.needDesc e f) := by
  have served := serveWaiting e f.ring 8 s
  exact ite (ite (exhaust ..) (truncate ..)) (ite served (ite (after (grant ..) served) (after (exhaust ..) served)))

theorem pumpFrame (e ring src id fuel : Nat) (s : State) : TrafficOnly s (s.pumpFrame e ring src id fuel) := by
  induction fuel generalizing s with
  | zero => exact refl s
  | succ fuel ih =>
    unfold State.pumpFrame
    split
    · exact refl s
    · refine ite (refl s) ?_
      split
      · exact ite (frameWhole ..) (refl s)
      case _ f _ _ d _ _ =>
        refine ite ?_ (needDesc ..)
        have filled := fillBufs e (f.more.length + 1) s f d
        generalize s.fillBufs e (f.more.length + 1) f d = r at filled ⊢
        exact after (ih _) (after (modEng ..) filled)

theorem rxDesc (s : State) (e r index status : Nat) (data : Bytes) : TrafficOnly s (s.rxDesc e r index status data) := by
  unfold State.rxDesc
  split
  · exact refl s
  · refine ite ?_ (after (pumpFrame ..) (of_nis rfl))
    exact after (exhaust ..) (after (modEng ..) (after (raise ..) (modEng ..)))

theorem ringDone (s : State) (e r : Nat) (use : DmaUse) (status : Nat) (data : Bytes) : TrafficOnly s (s.ringDone e r use status data) := by
  unfold State.ringDone
  split
  · exact rxDesc ..
  · exact pushAccess ..
  · exact ite (of_nis rfl) (refl s)
  · exact refl s

/-! ### Bridges -/

theorem inboundError (s : State) (b addr status : Nat) : TrafficOnly s (s.inboundError b addr status) := ite (refl s) (of_nis rfl)

theorem complete (s : State) (b tag len status : Nat) (data : Bytes) : TrafficOnly s (s.complete b tag len status data) := of_nis rfl

theorem completeAll (b : Nat) (a : BarAccess) (status : Nat) (data : Bytes) (fuel : Nat) (s : State) (off : Nat) :
    TrafficOnly s (s.completeAll b a status data off fuel) := by
  induction fuel generalizing s off with
  | zero => exact refl s
  | succ fuel ih =>
    unfold State.completeAll
    exact ite (complete ..) (ite (complete ..) (after (ih ..) (complete ..)))

theorem emit (b : Nat) {drop : State → State} {put : State → InReq → State} (hd : ∀ u, TrafficOnly u (drop u))
    (hp : ∀ u q, TrafficOnly u (put u q)) (fuel : Nat) (s : State) (q : InReq) : TrafficOnly s (State.bridgeAnswer.emit b drop put s q fuel) := by
  induction fuel generalizing s q with
  | zero => exact hp ..
  | succ fuel ih =>
    unfold State.bridgeAnswer.emit
    dsimp only
    split
    · exact hp ..
    · exact ite (after (hd _) (complete ..)) (after (ih ..) (complete ..))

theorem bridgeAnswer (s : State) (b id off len status : Nat) (data : Bytes) : TrafficOnly s (s.bridgeAnswer b id off len status data) := by
  unfold State.bridgeAnswer
  split
  · exact refl s
  case _ q _ =>
    have counted : TrafficOnly s (if q.counted then s else s.inboundError b q.acc.offset status) := ite (refl s) (inboundError ..)
    refine after ?_ counted
    refine ite (ite (of_nis rfl) (of_nis rfl)) (ite (ite ?_ (of_nis rfl)) ?_)
    · exact after (completeAll ..) (of_nis rfl)
    · exact emit b (fun _ => modBr ..) (fun _ _ => modBr ..) ..

theorem answerLocal (s : State) (b : Nat) (a : BarAccess) (status : Nat) (data : Bytes) : TrafficOnly s (s.answerLocal b a status data) :=
  ite (inboundError ..) (after (completeAll ..) (inboundError ..))

theorem serveLocal (s : State) (b : Nat) (a : BarAccess) (place : LocalAt) : TrafficOnly s (s.serveLocal b a place) := by
  unfold State.serveLocal
  cases place with
  | table off => exact ite (foldl (fun _ _ => modBr ..) ..) (answerLocal ..)
  | bits off => exact ite (refl s) (answerLocal ..)
  | page rel =>
    have register {p q : Prop} [Decidable p] [Decidable q] (data : Bytes) (i : Nat) (x : ExSlot) :
        TrafficOnly s (if p then s.answerLocal b a 0 data else if q then s.setEx b i x else s.answerLocal b a 2) :=
      ite (answerLocal ..) (ite (modBr ..) (answerLocal ..))
    exact ite (answerLocal ..) (ite (register ..) (ite (register ..) (ite (answerLocal ..) (answerLocal ..))))

theorem localAnswer (s : State) (b id : Nat) (place : LocalAt) : TrafficOnly s (s.localAnswer b id place) := by
  unfold State.localAnswer
  split
  · exact refl s
  · exact after (serveLocal ..) (of_nis rfl)

theorem exLoadAnswer (s : State) (b slot tag addr len status : Nat) (data : Bytes) :
    TrafficOnly s (s.exLoadAnswer b slot tag addr len status data) :=
  after (complete ..) (after (inboundError ..) (modBr ..))

theorem exStoreAnswer (s : State) (b slot addr status : Nat) : TrafficOnly s (s.exStoreAnswer b slot addr status) := by
  unfold State.exStoreAnswer
  exact after (modBr ..) (inboundError ..)

/-! ### The issuers of an access -/

theorem finish (s : State) (o : Origin) (status : Nat) (data : Bytes) : TrafficOnly s (s.finish o status data) := by
  cases o with
  | none => exact refl s
  | dma e q w use => exact dmaAnswer ..
  | ring e r use => exact ringDone ..
  | bridge b id off len => exact bridgeAnswer ..
  | localReg b id place => exact localAnswer ..
  | exLoad b slot tag addr len => exact exLoadAnswer ..
  | exStore b slot addr => exact exStoreAnswer ..

theorem finishAll (s : State) (l : List Origin) (status : Nat) (data : Bytes) : TrafficOnly s (s.finishAll l status data) :=
  foldl (fun _ _ => finish ..) ..

end TrafficOnly

end Sys2Proof.Safety
end

section
/-! SUPPORT. SC0 packets and circuits at their sources (R246, R247, R251 to R255): what SEND does with a job of SC0, and what
the rows of the compiled classes do when their conditions hold. -/

namespace Sys2Proof.Machine

open Sys2Proof.Safety

/-! ### Lists and bits -/

theorem mem_addOnce (l : List Nat) (n : Nat) : n ∈ addOnce l n := by
  unfold addOnce
  split
  case isTrue h => exact List.contains_iff_mem.mp h
  case isFalse => simp

theorem not_mem_without (l : List Nat) (n : Nat) : n ∉ without l n := by simp [without]

@[simp] theorem bitAt_setBitN (n b : Nat) : bitAt (setBitN n b) b = true := by simp [bitAt, setBitN]

/-! ### An SC0 job at SEND -/

theorem State.noteIssue_frame (s : State) (n : Nat) (j : Job) : s.noteIssue n j = { s with bridges := (s.noteIssue n j).bridges } := by
  unfold State.noteIssue
  repeat' split
  all_goals rfl

theorem State.inject_fromNi (s : State) (n : Nat) (p : Packet) :
    sget [] (s.inject n p).fabric.fromNi n = sget [] s.fabric.fromNi n ++ s.flitsNow p := by
  simp [State.inject]

/-- Who is told once a job of SC0 is sent: the issuers of a posted packet (R288). -/
def Job.toldBySc0 (j : Job) : List Origin := if opKind j.pkt.hdr.opcode = .posted then j.origins else []

theorem Job.toldBySc0_eq_none {j : Job} (h : ∀ o ∈ j.origins, o = .none) : ∀ o ∈ j.toldBySc0, o = .none := by
  unfold Job.toldBySc0
  split
  · exact h
  · exact List.forall_mem_nil _

/-- A job of SC0 belongs to no pair and passes no gate: its flits go to the local port as they are. -/
theorem State.sendJob_of_sc0 (s : State) (n : Nat) {j : Job} (hc : j.cls = 0) (hl : j.pkt.lane = 0) :
    s.sendJob n j = ((s.noteIssue n j).inject n j.pkt).finishAll j.toldBySc0 0 := by
  have hpair : j.paired = false := by simp [Job.paired, hc]
  unfold State.sendJob Job.toldBySc0
  by_cases hpost : opKind j.pkt.hdr.opcode = .posted
  all_goals
    cases hleft : (s.noteIssue n j).gateLeft n j.gate
    all_goals simp [hleft, hpair, hc, hl, hpost, State.finishAll]

/-! ### SC0_INJECT -/

/-- A job that its flow may inject now, whole (R246, R247): the only one at SC0, in a stroke in which its flow has not injected and
no link of its path is in maintenance. -/
structure Sc0Ready (s : State) (n flow : Nat) (j : Job) : Prop where
  only : (s.ni n).sc0 = [j]
  ofFlow : j.pkt.hdr.flow = flow
  runs : s.sc0Runs = true
  carried : s.laneRuns 0 = true
  noStep : s.cox.inStep = false
  fresh : flow ∉ (s.ni n).sc0Done
  noMaint : s.pathInMaint true (sget 0 s.fabric.act.flows flow) = false
  fits : flitCount j.pkt ≤ flowFlits (sget 0 s.fabric.act.flows flow)
  room : flitCount j.pkt ≤ s.portRoom n 0

/-- NI n has taken its last SC0 job, for a flow that has now injected in the stroke under way. -/
def State.takeSc0 (s : State) (n flow : Nat) : State :=
  s.setNi n { s.ni n with sc0 := [], sc0Done := (s.ni n).sc0Done ++ [flow] }

/-- The flits of that job are on the local port. -/
def State.launchSc0 (s : State) (n flow : Nat) (j : Job) : State := ((s.takeSc0 n flow).noteIssue n j).inject n j.pkt

theorem State.sc0Inject_of_ready {s : State} {n flow : Nat} {j : Job} (h : Sc0Ready s n flow j) (hc : j.cls = 0) (hl : j.pkt.lane = 0) :
    s.sc0Inject n flow = (s.launchSc0 n flow j).finishAll j.toldBySc0 0 := by
  have hroom : ¬ s.portRoom n 0 < flitCount j.pkt := Nat.not_lt.mpr h.room
  have hfits : ¬ flitCount j.pkt > flowFlits (sget 0 s.fabric.act.flows flow) := Nat.not_lt.mpr h.fits
  calc s.sc0Inject n flow = (s.takeSc0 n flow).sendJob n j := by
        simp [State.sc0Inject, State.takeSc0, h.only, h.ofFlow, h.runs, h.carried, h.noStep, h.fresh, h.noMaint,
          Nat.min_eq_left h.fits, hroom, hfits]
    _ = (s.launchSc0 n flow j).finishAll j.toldBySc0 0 := State.sendJob_of_sc0 _ _ hc hl

section
variable (s : State) (n flow : Nat) (j : Job)

theorem State.launchSc0_ni : (s.launchSc0 n flow j).ni n = { s.ni n with sc0 := [], sc0Done := (s.ni n).sc0Done ++ [flow] } := by
  rw [State.launchSc0, State.noteIssue_frame]
  exact State.ni_setNi ..

theorem State.launchSc0_ni_other {m : Nat} (h : m ≠ n) : (s.launchSc0 n flow j).ni m = s.ni m := by
  rw [State.launchSc0, State.noteIssue_frame]
  exact State.ni_setNi_other _ _ h

theorem State.launchSc0_fromNi :
    sget [] (s.launchSc0 n flow j).fabric.fromNi n = sget [] s.fabric.fromNi n ++ s.flitsNow j.pkt := by
  rw [State.launchSc0, State.noteIssue_frame]
  exact State.inject_fromNi ..

theorem State.launchSc0_dict : (s.launchSc0 n flow j).dict = s.dict := by
  rw [State.launchSc0, State.noteIssue_frame]
  rfl

end

/-- A flow injects once in a stroke (R247). -/
theorem State.sc0Inject_of_done {s : State} {n flow : Nat} (h : flow ∈ (s.ni n).sc0Done) : s.sc0Inject n flow = s := by
  unfold State.sc0Inject
  dsimp only
  split
  · rfl
  · exact if_pos (by simp [h])

/-! ### Windows of circuits -/

/-- The source of circuit c by the tables in force. -/
def State.circuitSrc (s : State) (c : Nat) : Nat := circSrc (sget 0 s.fabric.act.circuits c)

/-- The first-output window of circuit c is open (R253). -/
def State.openCircuit (s : State) (c : Nat) : State :=
  s.modNi (s.circuitSrc c) (fun x => { x with openWin := addOnce x.openWin c })

/-- The first-output window of circuit c is closed, and no burst of it runs (R254). -/
def State.closeCircuit (s : State) (c : Nat) : State :=
  s.modNi (s.circuitSrc c) (fun x => { x with openWin := without x.openWin c, burst := without x.burst c, ending := sdel x.ending c })

/-- A burst of circuit c that outlasts its window is counted and marked (R254). -/
def State.noteOverrun (s : State) (c : Nat) : State := (s.bump 0x3491 (c + 1)).obSet 0x3492 1 (setBitN (s.ob 0x3492 1) c)

/-- A burst of circuit c has packets left, or its last packet is under way (R254). -/
def State.burstRuns (s : State) (c : Nat) : Prop :=
  c ∈ (s.ni (s.circuitSrc c)).burst ∨ s.clk.fab < sget 0 (s.ni (s.circuitSrc c)).ending c

theorem exec_circuitWindowOpen {s : State} {c : Fin 64} (hrun : s.cox.running = true) (hdef : circDefined (sget 0 s.fabric.act.circuits c.val) = true)
    (hstep : s.cox.inStep = false) (hmaint : s.pathInMaint false (sget 0 s.fabric.act.circuits c.val) = false) :
    exec (.circuitWindowOpen c) s = .next (s.openCircuit c.val) :=
  calc exec (.circuitWindowOpen c) s = done s (s.openCircuit c.val) :=
        congrArg (done s) (if_pos ⟨hrun, hdef, ne_true_of_eq_false hstep, ne_true_of_eq_false hmaint⟩)
    _ = .next (s.openCircuit c.val) := done_self _ _ rfl rfl

section
variable {s : State} {c : Fin 64} (hopen : c.val ∈ (s.ni (s.circuitSrc c.val)).openWin)
include hopen

theorem exec_circuitWindowClose_of_ended (h : ¬ s.burstRuns c.val) : exec (.circuitWindowClose c) s = .next (s.closeCircuit c.val) :=
  calc exec (.circuitWindowClose c) s = done s (s.closeCircuit c.val) := by
        refine congrArg (done s) ((if_pos (List.contains_iff_mem.mpr hopen)).trans (if_neg ?_))
        rwa [List.contains_iff_mem]
    _ = .next (s.closeCircuit c.val) := done_self _ _ rfl rfl

theorem exec_circuitWindowClose_of_running (h : s.burstRuns c.val) :
    exec (.circuitWindowClose c) s = .next ((s.closeCircuit c.val).noteOverrun c.val) :=
  calc exec (.circuitWindowClose c) s = done s ((s.closeCircuit c.val).noteOverrun c.val) := by
        refine congrArg (done s) ((if_pos (List.contains_iff_mem.mpr hopen)).trans (if_pos ?_))
        rwa [List.contains_iff_mem]
    _ = .next ((s.closeCircuit c.val).noteOverrun c.val) := 
        done_self _ _ (by simp [State.noteOverrun, State.closeCircuit]) (by simp [State.noteOverrun, State.closeCircuit])

end

section
variable (s : State) (c : Nat)

theorem State.openCircuit_openWin : c ∈ ((s.openCircuit c).ni (s.circuitSrc c)).openWin := by
  simp [State.openCircuit, mem_addOnce]

theorem State.openCircuit_ni_other {m : Nat} (h : m ≠ s.circuitSrc c) : (s.openCircuit c).ni m = s.ni m := State.ni_modNi_other s _ h

theorem State.closeCircuit_openWin : c ∉ ((s.closeCircuit c).ni (s.circuitSrc c)).openWin := by
  simp [State.closeCircuit, not_mem_without]

theorem State.closeCircuit_burst : c ∉ ((s.closeCircuit c).ni (s.circuitSrc c)).burst := by
  simp [State.closeCircuit, not_mem_without]

theorem State.closeCircuit_ni_other {m : Nat} (h : m ≠ s.circuitSrc c) : (s.closeCircuit c).ni m = s.ni m := State.ni_modNi_other s _ h

theorem State.noteOverrun_ni (m : Nat) : (s.noteOverrun c).ni m = s.ni m := by
  simp [State.ni, State.noteOverrun]

theorem State.noteOverrun_counts (hc : c < 64) : Counts s (s.noteOverrun c) 0x3491 (c + 1) := by
  have hkey : okey 0x3491 (c + 1) ≠ okey 0x3492 1 := fun h => absurd ((okey_inj (by omega) (by decide)).mp h).1 (by decide)
  exact (State.ob_obSet_other _ _ hkey).trans (State.ob_bump ..)

theorem State.noteOverrun_marks : bitAt ((s.noteOverrun c).ob 0x3492 1) c = true := by
  rw [State.noteOverrun, State.ob_obSet, bitAt_setBitN]

end

end Sys2Proof.Machine

namespace Sys2Proof.Safety

open Sys2Proof.Machine

/-! ### The rows of the compiled classes -/

theorem completes_sc0Inject {s : State} {n : RouterId} {flow : Fin 1024} {j : Job} (h : Sc0Ready s n.val flow.val j) (hc : j.cls = 0)
    (hl : j.pkt.lane = 0) :
    Completes (.sc0Inject n flow) s (fun t => (t.ni n.val).sc0Done = (s.ni n.val).sc0Done ++ [flow.val]
      ∧ sget [] t.fabric.fromNi n.val = sget [] s.fabric.fromNi n.val ++ s.flitsNow j.pkt
      ∧ ((∀ o ∈ j.origins, o = .none) → (t.ni n.val).sc0 = [] ∧ (∀ m, m ≠ n.val → t.ni m = s.ni m) ∧ t.dict = s.dict)) := by
  have hni := s.launchSc0_ni n.val flow.val j
  have hother {m : Nat} := s.launchSc0_ni_other n.val flow.val j (m := m)
  have hfromNi := s.launchSc0_fromNi n.val flow.val j
  have hdict := s.launchSc0_dict n.val flow.val j
  refine ⟨_, congrArg (done s) (State.sc0Inject_of_ready h hc hl), ?_⟩
  generalize s.launchSc0 n.val flow.val j = u at hni hother hfromNi hdict ⊢
  refine ⟨?_, ?_, fun hnone => ?_⟩
  · exact ((TrafficOnly.finishAll u j.toldBySc0 0 []).sc0Done n.val).trans (congrArg NI.sc0Done hni)
  · obtain ⟨-, hkept, -⟩ := finishAll_kept j.toldBySc0 u 0 []
    exact (congrArg (fun l => sget [] l n.val) hkept).trans hfromNi
  · rw [finishAll_none _ u 0 [] (Job.toldBySc0_eq_none hnone)]
    exact ⟨congrArg NI.sc0 hni, fun _ => hother, hdict⟩

/-- Settles O34: a whole SC0 packet goes to the local port and its flow has injected, once in a stroke; windows of circuits open
and close at their source, and a burst that outlasts its window is counted and marked. -/
theorem compiledSources : Obligations.CompiledSources := by
  unfold Obligations.CompiledSources
  intro s
  refine ⟨fun n flow j honly hflow hc hl hruns hcarried hstep hfresh hmaint hfits hroom => ?_, fun n flow hdone => ?_,
    fun c hrun hdef hstep hmaint => ?_, fun c hopen hburst hend => ?_, fun c hopen hruns => ?_⟩
  · exact completes_sc0Inject ⟨honly, hflow, hruns, hcarried, hstep, hfresh, hmaint, hfits, hroom⟩ hc hl
  · exact ⟨s, congrArg (done s) (State.sc0Inject_of_done hdone), rfl⟩
  · exact ⟨_, exec_circuitWindowOpen hrun hdef hstep hmaint, s.openCircuit_openWin c.val, fun _ => s.openCircuit_ni_other c.val, rfl⟩
  · have hended : ¬ s.burstRuns c.val := not_or.mpr ⟨hburst, Nat.not_lt.mpr hend⟩
    exact ⟨_, exec_circuitWindowClose_of_ended hopen hended, s.closeCircuit_openWin c.val, rfl, fun _ => s.closeCircuit_ni_other c.val⟩
  · refine ⟨_, exec_circuitWindowClose_of_running hopen hruns, ?_⟩
    simp only [State.noteOverrun_ni]
    exact ⟨s.closeCircuit_openWin c.val, s.closeCircuit_burst c.val, (s.closeCircuit c.val).noteOverrun_counts c.val c.isLt,
      (s.closeCircuit c.val).noteOverrun_marks c.val⟩

end Sys2Proof.Safety
end

section
/-! SUPPORT. What every command keeps, and what an accepted write of a number is: what its object takes of it, stored, and the notes that
a write leaves (R13, R585, R608). -/

namespace Sys2Proof.Machine

open Sys2Proof.Safety

/-! ### Answers -/

/-- The waiting commands and the OTP, which no command may change, are as they were. -/
structure QueueKept (s t : State) : Prop where
  pending : t.pending = s.pending
  otp : t.otp = s.otp

theorem QueueKept.done_eq {s t : State} (h : QueueKept s t) : done s t = .next t := done_self s t h.pending h.otp

theorem QueueKept.trans {s t u : State} (h : QueueKept s t) (g : QueueKept t u) : QueueKept s u :=
  ⟨g.pending.trans h.pending, g.otp.trans h.otp⟩

section
variable (s : State)

theorem QueueKept.refl : QueueKept s s := ⟨rfl, rfl⟩
theorem QueueKept.setNi (n : Nat) (x : NI) : QueueKept s (s.setNi n x) := ⟨State.setNi_pending .., State.setNi_otp ..⟩
theorem QueueKept.modNi (n : Nat) (f : NI → NI) : QueueKept s (s.modNi n f) := ⟨State.modNi_pending .., State.modNi_otp ..⟩
theorem QueueKept.obSet (i sub v : Nat) : QueueKept s (s.obSet i sub v) := ⟨State.obSet_pending .., State.obSet_otp ..⟩
theorem QueueKept.bump (i sub : Nat) : QueueKept s (s.bump i sub) := ⟨State.bump_pending .., State.bump_otp ..⟩
theorem QueueKept.highWater (i sub v : Nat) : QueueKept s (s.highWater i sub v) := ⟨State.highWater_pending .., State.highWater_otp ..⟩
theorem QueueKept.setKv (k v : Nat) : QueueKept s (s.setKv k v) := ⟨State.setKv_pending .., State.setKv_otp ..⟩
theorem QueueKept.modClu (k : Nat) (f : Cluster → Cluster) : QueueKept s (s.modClu k f) := ⟨State.modClu_pending .., State.modClu_otp ..⟩
theorem QueueKept.modEng (e : Nat) (f : Engine → Engine) : QueueKept s (s.modEng e f) := ⟨State.modEng_pending .., State.modEng_otp ..⟩
theorem QueueKept.setEvq (i : Nat) (q : EventQ) : QueueKept s (s.setEvq i q) := ⟨State.setEvq_pending .., State.setEvq_otp ..⟩
theorem QueueKept.bumpBy (i sub n : Nat) : QueueKept s (s.bumpBy i sub n) := ⟨State.bumpBy_pending .., State.bumpBy_otp ..⟩

end

/-! ### Numbers in bytes -/

@[simp] theorem leBytes_length (v n : Nat) : (leBytes v n).length = n := by
  induction n generalizing v with
  | zero => rfl
  | succ n ih => simp [leBytes, ih]

theorem fromLe_leBytes (v n : Nat) : fromLe (leBytes v n) = v % 256 ^ n := by
  induction n generalizing v with
  | zero => simp [leBytes, fromLe, Nat.mod_one]
  | succ n ih =>
    have hpow : 256 ^ (n + 1) = 256 * 256 ^ n := Nat.pow_succ'
    rw [leBytes, fromLe, ih, BitVec.toNat_ofNat, hpow, Nat.mod_mul]

/-- What an object takes of a number written to it: the bytes of its type, without the reserved bits (R13, R71). -/
def Obj.taken (o : Obj) (v : Nat) : Nat := v % 256 ^ tySize o.ty &&& o.keep

theorem Obj.taken_eq_self {o : Obj} {v : Nat} (hv : v < 256 ^ tySize o.ty) (hk : v &&& o.keep = v) : o.taken v = v := by
  rw [Obj.taken, Nat.mod_eq_of_lt hv, hk]

/-- A bit within the type that is not reserved is taken as written. -/
theorem Obj.bitAt_taken {o : Obj} {b : Nat} (v : Nat) (hb : b < 8 * tySize o.ty) (hk : bitAt o.keep b = true) :
    bitAt (o.taken v) b = bitAt v b := by
  have hpow : 256 ^ tySize o.ty = 2 ^ (8 * tySize o.ty) := (Nat.pow_mul 2 8 _).symm
  unfold bitAt at hk ⊢
  rw [Obj.taken, Nat.testBit_and, hk, hpow, Nat.testBit_mod_two_pow]
  simp [hb]

@[simp] theorem bitAt_or_two_pow (v b : Nat) : bitAt (v ||| 2 ^ b) b = true := by simp [bitAt, Nat.testBit_two_pow_self]

@[simp] theorem bitAt_mod_two_pow (v b : Nat) : bitAt (v % 2 ^ b) b = false := by simp [bitAt]

/-! ### An accepted write -/

theorem State.writeBy_of_accepted {s : State} {p : Path} {i sub v : Nat} {o : Obj} (h : Accepted s p i sub v) (ho : objInfo i sub = some o)
    (ht : tySize o.ty ≠ 0) : s.writeBy p i sub v = (s.store (.path p) i sub (o.taken v)).noteWrite (.path p) i sub := by
  have hlen : (leBytes v (tySize o.ty)).take (tySize o.ty) = leBytes v (tySize o.ty) := List.take_of_length_le (by simp)
  unfold Accepted at h
  rw [ho] at h
  simp only [State.writeBy, State.write, ho, Option.map_some, Option.getD_some] at h ⊢
  simp only [h, State.storeAccepted, ho, if_neg ht, WriteReq.value, hlen, fromLe_leBytes, Obj.taken]

/-- What a write leaves behind concerns the unlock of RST_N and the Steward's holds alone (R585, R608). -/
theorem State.noteWrite_frame (s : State) (who : Who) (i sub : Nat) :
    s.noteWrite who i sub = { s with aon := (s.noteWrite who i sub).aon, stw := (s.noteWrite who i sub).stw } := by
  cases who
  case path p =>
    unfold State.noteWrite
    dsimp only
    repeat' split
    all_goals rfl
  all_goals rfl

theorem QueueKept.noteWrite (s : State) (who : Who) (i sub : Nat) : QueueKept s (s.noteWrite who i sub) := by
  rw [State.noteWrite_frame]; exact ⟨rfl, rfl⟩

end Sys2Proof.Machine

namespace Sys2Proof.Safety

open Sys2Proof.Machine

/-- A property that sees neither the unlock of RST_N nor the Steward, which alone note an accepted write. -/
def IgnoresNotes (P : State → Prop) : Prop := ∀ t aon stw, P { t with aon := aon, stw := stw } = P t

/-- A row of the table that is a write of a number: accepted, it does what the object does with what it takes. -/
theorem completes_write {c : Instr} {s : State} {p : Path} {i sub v : Nat} {o : Obj} {P : State → Prop} (hign : IgnoresNotes P)
    (hc : exec c s = done s (s.writeBy p i sub v)) (ha : Accepted s p i sub v) (ho : objInfo i sub = some o) (ht : tySize o.ty ≠ 0)
    {t : State} (hs : s.store (.path p) i sub (o.taken v) = t) (hk : QueueKept s t) (hP : P t) : Completes c s P := by
  subst hs
  have hkept := hk.trans (QueueKept.noteWrite (s.store (.path p) i sub (o.taken v)) (.path p) i sub)
  refine ⟨_, (hc.trans (congrArg (done s) (State.writeBy_of_accepted ha ho ht))).trans hkept.done_eq, ?_⟩
  rw [State.noteWrite_frame]
  exact (hign _ _ _).mpr hP

end Sys2Proof.Safety
end

section
/-! SUPPORT. Shapers, gates and the calendar (R341 to R349): what a packet that waits at SHAPE or at GATE does when it may leave and
when it may not, and what the rows of the two stages leave as it was. -/

namespace Sys2Proof.Machine

open Sys2Proof.Safety

/-! ### Keys -/

/-- An entry that a selector shows has a key of its own, apart from every object without one. -/
theorem skey_ne_okey {i sub sel j t : Nat} (hj : j < 65536) (ht : t < 256) : skey i sub sel ≠ okey j t := by
  unfold skey okey; omega

/-! ### GATE -/

/-- With its gates off an NI holds no packet back, unless an earlier one of the pair waits. -/
theorem State.atGate_of_disabled {s : State} {n : Nat} (hoff : (s.ni n).gates.enable = false) (hnone : (s.ni n).gate = []) (j : Job) :
    s.atGate n j = s.modNi n (fun x => { x with sendQ := x.sendQ ++ [j] }) := by
  have hleft : s.gateLeft n j.gate = none := by simp [State.gateLeft, hoff]
  simp [State.atGate, State.gateOpen, hleft, hnone, behind]

/-- Packet j leaves GATE for SEND. -/
def State.passGate (s : State) (n : Nat) (j : Job) : State :=
  s.modNi n (fun x => { x with gate := x.gate.erase j, sendQ := x.sendQ ++ [j] })

theorem mem_gate_of_gateOut {s : State} {n : Nat} {j : Job} (h : s.gateOut n = some j) : j ∈ (s.ni n).gate :=
  List.mem_of_find?_eq_some h

theorem State.gateOut_of_gate_nil {s : State} {n : Nat} (h : (s.ni n).gate = []) : s.gateOut n = none := by
  simp [State.gateOut, h]

/-- What lies at GATE and at SEND of an NI. -/
def NI.gateAndSend (x : NI) : Nat := x.gate.length + x.sendQ.length

theorem State.passGate_gate_length {s : State} {n : Nat} {j : Job} (h : j ∈ (s.ni n).gate) :
    ((s.passGate n j).ni n).gate.length + 1 = (s.ni n).gate.length := by
  have hpos : 0 < (s.ni n).gate.length := List.length_pos_of_mem h
  simp only [State.passGate, State.ni_modNi]
  rw [List.length_erase_of_mem h]
  omega

theorem State.passGate_gateAndSend {s : State} {n : Nat} {j : Job} (h : j ∈ (s.ni n).gate) :
    ((s.passGate n j).ni n).gateAndSend = (s.ni n).gateAndSend := by
  have hlen := State.passGate_gate_length h
  have hsend : ((s.passGate n j).ni n).sendQ.length = (s.ni n).sendQ.length + 1 := by simp [State.passGate]
  unfold NI.gateAndSend
  omega

theorem State.gateFlush_succ (s : State) (n f : Nat) :
    s.gateFlush n (f + 1) = match s.gateOut n with
      | some j => (s.passGate n j).gateFlush n f
      | none => s := rfl

/-- Fuel for every packet at GATE empties it of what may leave. -/
theorem State.gateOut_gateFlush {s : State} {n f : Nat} (h : (s.ni n).gate.length ≤ f) : (s.gateFlush n f).gateOut n = none := by
  induction f generalizing s with
  | zero => exact State.gateOut_of_gate_nil (List.length_eq_zero_iff.mp (Nat.le_zero.mp h))
  | succ f ih =>
    rw [State.gateFlush_succ]
    cases hout : s.gateOut n with
    | none => exact hout
    | some j =>
      have hlen := State.passGate_gate_length (mem_gate_of_gateOut hout)
      exact ih (by omega)

theorem State.gateFlush_gateAndSend (s : State) (n f : Nat) : ((s.gateFlush n f).ni n).gateAndSend = (s.ni n).gateAndSend := by
  induction f generalizing s with
  | zero => rfl
  | succ f ih =>
    rw [State.gateFlush_succ]
    cases hout : s.gateOut n with
    | none => rfl
    | some j => exact (ih _).trans (State.passGate_gateAndSend (mem_gate_of_gateOut hout))

theorem State.gateFlush_ni_other (s : State) (n f : Nat) {m : Nat} (h : m ≠ n) : (s.gateFlush n f).ni m = s.ni m := by
  induction f generalizing s with
  | zero => rfl
  | succ f ih =>
    rw [State.gateFlush_succ]
    split
    · exact (ih _).trans (State.ni_modNi_other s _ h)
    · rfl

theorem QueueKept.gateFlush (s : State) (n f : Nat) : QueueKept s (s.gateFlush n f) := by
  induction f generalizing s with
  | zero => exact .refl s
  | succ f ih =>
    rw [State.gateFlush_succ]
    split
    · exact (QueueKept.modNi s n _).trans (ih _)
    · exact .refl s

/-! ### SHAPE -/

theorem State.evalShaper_of_shape_nil {s : State} {n : Nat} (h : (s.ni n).shape = []) (sh : Nat) : s.evalShaper n sh = s := by
  simp [State.evalShaper, h]

/-- No packet leaves SHAPE uncharged where an enabled shaper charges each one. -/
theorem State.flushShape_of_charged {s : State} {n : Nat} (h : ∀ j ∈ (s.ni n).shape, (s.shaperOf n j).isSome = true) (f : Nat) :
    s.flushShape n f = s := by
  cases f with
  | zero => rfl
  | succ f =>
    have hnone (free : Job → Bool) (hfree : ∀ j, free j = true → s.shaperOf n j = none) : (s.ni n).shape.find? free = none :=
      List.find?_eq_none.mpr fun j hj hf => by simpa [hfree j hf] using h j hj
    unfold State.flushShape
    dsimp only
    rw [hnone _ fun j hj => ?_]
    simp only [Bool.and_eq_true, Option.isNone_iff_eq_none] at hj
    obtain ⟨⟨⟨huncharged, -⟩, -⟩, -⟩ := hj
    exact huncharged

theorem State.flushShape_of_shape_nil {s : State} {n : Nat} (h : (s.ni n).shape = []) (f : Nat) : s.flushShape n f = s :=
  State.flushShape_of_charged (h ▸ List.forall_mem_nil _) f

/-- Job j is the only one at SHAPE, none is at GATE, and its shaper is enabled and not in the wheel. -/
structure OnlyAtShape (s : State) (n sh : Nat) (j : Job) : Prop where
  only : (s.ni n).shape = [j]
  noGate : (s.ni n).gate = []
  ofShaper : j.shaper = some sh
  enabled : bitAt (s.shaperEntry n sh) 63 = true
  notPlaced : sfind (s.ni n).wheel sh = none

/-- A shaper with an enabled entry charges its packets. -/
theorem State.shaperOf_of_enabled {s : State} {n sh : Nat} {j : Job} (hj : j.shaper = some sh) (he : bitAt (s.shaperEntry n sh) 63 = true) :
    s.shaperOf n j = some sh := by
  simp [State.shaperOf, hj, he]

/-- The last packet has left SHAPE and is paid for (R343). -/
def State.payShape (s : State) (n sh : Nat) (j : Job) : State :=
  s.setNi n { s.ni n with shape := [], tokens := smod 0 (s.ni n).tokens sh (· - charge j) }

/-- The only packet at SHAPE has waited for tokens, and has been counted for it once (0x4200+n:10). -/
def State.noteWait (s : State) (n : Nat) (j : Job) : State :=
  if j.waited then s else (s.setNi n { s.ni n with shape := [{ j with waited := true }] }).bump (0x4200 + n) 0x10

section
variable {s : State} {n sh : Nat} {j : Job} (h : OnlyAtShape s n sh j)
include h

theorem State.evalShaper_of_tokens (ht : charge j ≤ sget 0 (s.ni n).tokens sh) : s.evalShaper n sh = (s.payShape n sh j).atGate n j := by
  simp [State.evalShaper, State.payShape, h.only, h.noGate, h.ofShaper, h.notPlaced, behind, State.shaperOf_of_enabled h.ofShaper h.enabled, ht]

theorem State.evalShaper_of_short (ht : sget 0 (s.ni n).tokens sh < charge j) :
    s.evalShaper n sh = (s.noteWait n j).placeShaper n sh (charge j) := by
  have hshort : ¬ charge j ≤ sget 0 (s.ni n).tokens sh := Nat.not_le.mpr ht
  cases hw : j.waited
  all_goals
    simp [State.evalShaper, State.noteWait, h.only, h.noGate, h.ofShaper, h.notPlaced, behind, State.shaperOf_of_enabled h.ofShaper h.enabled,
      hshort, hw]

theorem State.noteWait_ni : (s.noteWait n j).ni n = { s.ni n with shape := [{ j with waited := true }] } := by
  unfold State.noteWait
  split
  case isTrue hw =>
    have hj : ({ j with waited := true } : Job) = j := by rw [← hw]
    rw [hj, ← h.only]
  case isFalse => exact State.ni_setNi ..

end

section
variable (s : State) (n : Nat)

theorem State.noteWait_ni_other (j : Job) {m : Nat} (h : m ≠ n) : (s.noteWait n j).ni m = s.ni m := by
  unfold State.noteWait
  split
  · rfl
  · exact State.ni_setNi_other s _ h

/-- A packet that begins to wait is counted, nothing more of the dictionary. -/
theorem State.noteWait_shaperEntry (j : Job) (hn : n < 48) (sh : Nat) : (s.noteWait n j).shaperEntry n sh = s.shaperEntry n sh := by
  unfold State.noteWait
  split
  · rfl
  · exact State.kv_setKv_other _ _ (skey_ne_okey (by omega) (by decide))

theorem QueueKept.noteWait (j : Job) : QueueKept s (s.noteWait n j) := by
  unfold State.noteWait
  split
  · exact .refl s
  · exact (QueueKept.setNi ..).trans (.bump ..)

/-- Shaper sh waits in a slot of the wheel (R345). -/
def State.putWheel (s : State) (n sh slot : Nat) : State := s.modNi n (fun x => { x with wheel := sins x.wheel sh slot })

/-- The counts of a shaper put into the wheel: a wait of more than 1023 slots, and how many the wheel holds. -/
def State.notePlaced (s : State) (n : Nat) (lap : Bool) : State :=
  (if lap then s.bump (0x4200 + n) 0x11 else s).highWater (0x4200 + n) 0x13 ((if lap then s.bump (0x4200 + n) 0x11 else s).ni n).wheel.length

theorem State.placeShaper_eq (sh need : Nat) : ∃ slot lap, s.placeShaper n sh need = (s.putWheel n sh slot).notePlaced n lap := ⟨_, _, rfl⟩

theorem QueueKept.notePlaced (lap : Bool) : QueueKept s (s.notePlaced n lap) := by
  cases lap with
  | false => exact .highWater ..
  | true => exact (QueueKept.bump ..).trans (.highWater ..)

theorem State.notePlaced_nis (lap : Bool) : (s.notePlaced n lap).nis = s.nis := by
  cases lap with
  | false => exact State.highWater_nis ..
  | true => exact (State.highWater_nis ..).trans (State.bump_nis ..)

theorem State.notePlaced_ni (lap : Bool) (m : Nat) : (s.notePlaced n lap).ni m = s.ni m := by
  rw [State.ni, State.notePlaced_nis, State.ni]

/-- These counts are objects of their own, no entry of a shaper. -/
theorem State.notePlaced_shaperEntry (lap : Bool) (hn : n < 48) (sh : Nat) : (s.notePlaced n lap).shaperEntry n sh = s.shaperEntry n sh := by
  have hkey {sub : Nat} (hs : sub < 256) : skey (0x4200 + n) 3 sh ≠ okey (0x4200 + n) sub := skey_ne_okey (by omega) hs
  refine (State.kv_setKv_other _ _ (hkey (by decide))).trans ?_
  cases lap with
  | false => rfl
  | true => exact State.kv_setKv_other _ _ (hkey (by decide))

/-- The shaper takes a slot of the wheel, and its NI changes in nothing else. -/
theorem State.placeShaper_ni (sh need : Nat) :
    ∃ slot, (s.placeShaper n sh need).ni n = { s.ni n with wheel := sins (s.ni n).wheel sh slot } := by
  obtain ⟨slot, lap, he⟩ := s.placeShaper_eq n sh need
  exact ⟨slot, by rw [he, State.notePlaced_ni]; exact s.ni_modNi n (fun x => { x with wheel := sins x.wheel sh slot })⟩

theorem State.placeShaper_ni_other (sh need : Nat) {m : Nat} (h : m ≠ n) : (s.placeShaper n sh need).ni m = s.ni m := by
  obtain ⟨slot, lap, he⟩ := s.placeShaper_eq n sh need
  rw [he, State.notePlaced_ni]
  exact State.ni_modNi_other s _ h

theorem State.placeShaper_shaperEntry (sh need : Nat) (hn : n < 48) (sh' : Nat) :
    (s.placeShaper n sh need).shaperEntry n sh' = s.shaperEntry n sh' := by
  obtain ⟨slot, lap, he⟩ := s.placeShaper_eq n sh need
  rw [he, State.notePlaced_shaperEntry _ _ _ hn]
  rfl

theorem QueueKept.placeShaper (sh need : Nat) : QueueKept s (s.placeShaper n sh need) := by
  obtain ⟨slot, lap, he⟩ := s.placeShaper_eq n sh need
  rw [he]
  exact (QueueKept.modNi ..).trans (.notePlaced _ n lap)

end

/-- The last packet at SHAPE has paid, and no gate holds it (R343). -/
def State.passShape (s : State) (n sh : Nat) (j : Job) : State :=
  (s.payShape n sh j).modNi n (fun x => { x with sendQ := x.sendQ ++ [j] })

section
variable (s : State) (n sh : Nat) (j : Job)

theorem State.passShape_ni : (s.passShape n sh j).ni n
    = { s.ni n with shape := [], tokens := smod 0 (s.ni n).tokens sh (· - charge j), sendQ := (s.ni n).sendQ ++ [j] } := by
  rw [State.passShape, State.ni_modNi, State.payShape, State.ni_setNi]

theorem State.passShape_ni_other {m : Nat} (h : m ≠ n) : (s.passShape n sh j).ni m = s.ni m :=
  (State.ni_modNi_other _ _ h).trans (State.ni_setNi_other s _ h)

theorem QueueKept.passShape : QueueKept s (s.passShape n sh j) := (QueueKept.setNi ..).trans (.modNi ..)

end

/-- Its only packet has no tokens: the packet waits, and the shaper is in the wheel (R343, R345). -/
def State.parkShape (s : State) (n sh : Nat) (j : Job) : State := (s.noteWait n j).placeShaper n sh (charge j)

section
variable (s : State) (n sh : Nat) (j : Job)

theorem State.parkShape_ni {s : State} {n sh : Nat} {j : Job} (h : OnlyAtShape s n sh j) : ∃ slot, (s.parkShape n sh j).ni n
    = { s.ni n with shape := [{ j with waited := true }], wheel := sins (s.ni n).wheel sh slot } := by
  obtain ⟨slot, hni⟩ := (s.noteWait n j).placeShaper_ni n sh (charge j)
  rw [State.noteWait_ni h] at hni
  exact ⟨slot, hni⟩

theorem State.parkShape_ni_other {m : Nat} (h : m ≠ n) : (s.parkShape n sh j).ni m = s.ni m :=
  (State.placeShaper_ni_other _ _ _ _ h).trans (s.noteWait_ni_other n j h)

theorem State.parkShape_shaperEntry (hn : n < 48) : (s.parkShape n sh j).shaperEntry n sh = s.shaperEntry n sh :=
  (State.placeShaper_shaperEntry _ _ _ _ hn _).trans (s.noteWait_shaperEntry n j hn _)

theorem QueueKept.parkShape : QueueKept s (s.parkShape n sh j) := (QueueKept.noteWait s n j).trans (.placeShaper ..)

end

/-! ### Tokens (R342) -/

/-- Tokens of a shaper with entry v after RATE has been added, up to BURST. -/
def refill (v tokens : Nat) : Nat := min (tokens + field v 57 40) (1024 * field v 20 0)

/-- What one NIC cycle makes of the tokens of shaper sh. -/
def State.nextTokens (s : State) (n sh : Nat) : Nat :=
  if bitAt (s.shaperEntry n sh) 63 = true then refill (s.shaperEntry n sh) (sget 0 (s.ni n).tokens sh) else sget 0 (s.ni n).tokens sh

/-- One shaper's tokens over one NIC cycle. -/
def State.tickShaper (n : Nat) (s : State) (sh : Nat) : State :=
  if bitAt (s.shaperEntry n sh) 63 then s.modNi n (fun x => { x with tokens := smod 0 x.tokens sh (refill (s.shaperEntry n sh)) }) else s

theorem exec_shaperTokenTick (s : State) (n : RouterId) :
    exec (.shaperTokenTick n) s = done s (forEach (List.range 256) s (State.tickShaper n.val)) := rfl

/-- Of the state only tokens of NI n have changed. -/
structure TokensOnly (s t : State) (n : Nat) : Prop where
  frame : t = { s with nis := t.nis }
  ni : t.ni n = { s.ni n with tokens := (t.ni n).tokens }
  others : ∀ m, m ≠ n → t.ni m = s.ni m

theorem TokensOnly.shaperEntry {s t : State} {n : Nat} (h : TokensOnly s t n) (sh : Nat) : t.shaperEntry n sh = s.shaperEntry n sh := by
  rw [h.frame]; rfl

theorem TokensOnly.dict {s t : State} {n : Nat} (h : TokensOnly s t n) : t.dict = s.dict := by rw [h.frame]

theorem TokensOnly.queueKept {s t : State} {n : Nat} (h : TokensOnly s t n) : QueueKept s t := by
  rw [h.frame]; exact ⟨rfl, rfl⟩

theorem TokensOnly.tickShaper {s t : State} {n : Nat} (h : TokensOnly s t n) (sh : Nat) : TokensOnly s (t.tickShaper n sh) n := by
  unfold State.tickShaper
  split
  case isFalse => exact h
  case isTrue =>
    refine ⟨?_, ?_, fun m hm => (State.ni_modNi_other t _ hm).trans (h.others m hm)⟩
    · rw [h.frame]; rfl
    · rw [State.ni_modNi, h.ni]

theorem State.tickShaper_tokens (s : State) (n sh : Nat) : sget 0 ((s.tickShaper n sh).ni n).tokens sh = s.nextTokens n sh := by
  unfold State.tickShaper State.nextTokens
  split
  · simp
  · rfl

theorem State.tickShaper_tokens_other (s : State) (n : Nat) {sh i : Nat} (h : i ≠ sh) :
    sget 0 ((s.tickShaper n sh).ni n).tokens i = sget 0 (s.ni n).tokens i := by
  unfold State.tickShaper
  split
  · rw [State.ni_modNi]; exact sget_smod_other 0 _ _ h
  · rfl

theorem TokensOnly.forEach_range (s : State) (n k : Nat) : TokensOnly s (forEach (List.range k) s (State.tickShaper n)) n :=
  forEach_induction (motive := fun t => TokensOnly s t n) ⟨rfl, rfl, fun _ _ => rfl⟩ fun _ ht sh _ => ht.tickShaper sh

theorem forEach_tickShaper_succ (s : State) (n k : Nat) :
    forEach (List.range (k + 1)) s (State.tickShaper n) = (forEach (List.range k) s (State.tickShaper n)).tickShaper n k := by
  simp [forEach, List.range_succ]

/-- Each shaper among the first k takes its tokens once; those of the others stay. -/
theorem forEach_tickShaper_tokens (s : State) (n k sh : Nat) :
    sget 0 ((forEach (List.range k) s (State.tickShaper n)).ni n).tokens sh = if sh < k then s.nextTokens n sh else sget 0 (s.ni n).tokens sh := by
  induction k with
  | zero => rfl
  | succ k ih =>
    rw [forEach_tickShaper_succ]
    obtain rfl | hne := Decidable.em (sh = k)
    · rw [State.tickShaper_tokens, if_pos (Nat.lt_succ_self _)]
      rw [if_neg (Nat.lt_irrefl _)] at ih
      simp only [State.nextTokens, (TokensOnly.forEach_range s n sh).shaperEntry, ih]
    · have hlt : sh < k + 1 ↔ sh < k := by omega
      rw [State.tickShaper_tokens_other _ _ hne, ih]
      simp only [hlt]

/-! ### The calendar and the gate list -/

/-- The shapers in slots of the wheel that a test selects leave it. -/
def State.takeFromWheel (s : State) (n : Nat) (p : Nat → Bool) : State :=
  s.modNi n (fun x => { x with wheel := x.wheel.filter (fun w => ! p w.2) })

theorem foldl_evalShaper_of_shape_nil {s : State} {n : Nat} (h : (s.ni n).shape = []) (l : List Nat) :
    l.foldl (fun s sh => s.evalShaper n sh) s = s :=
  List.foldlRecOn (motive := (· = s)) l _ rfl fun _ ht sh _ => ht ▸ State.evalShaper_of_shape_nil h sh

/-- With no packet at SHAPE the shapers of a slot leave the wheel, and that is all. -/
theorem State.releaseShapers_of_shape_nil {s : State} {n : Nat} (h : (s.ni n).shape = []) (p : Nat → Bool) :
    s.releaseShapers n p = s.takeFromWheel n p := by
  have hnil : ((s.takeFromWheel n p).ni n).shape = [] := by simpa [State.takeFromWheel] using h
  exact (congrArg (State.flushShape · n 4096) (foldl_evalShaper_of_shape_nil hnil _)).trans (State.flushShape_of_shape_nil hnil _)

theorem State.startGates_ni (s : State) (n : Nat) (g : GateList) : (s.startGates n g).ni n = { s.ni n with gates := g, pendGates := none } := by
  rw [State.ni, State.startGates, State.obSet_nis, State.obSet_nis]
  exact s.ni_modNi n (fun x => { x with gates := g, pendGates := none })

theorem QueueKept.startGates (s : State) (n : Nat) (g : GateList) : QueueKept s (s.startGates n g) :=
  (QueueKept.modNi ..).trans ((QueueKept.obSet ..).trans (.obSet ..))

theorem State.startGates_ni_other (s : State) (n : Nat) (g : GateList) {m : Nat} (h : m ≠ n) : (s.startGates n g).ni m = s.ni m := by
  rw [State.ni, State.startGates, State.obSet_nis, State.obSet_nis]
  exact s.ni_modNi_other (fun x => { x with gates := g, pendGates := none }) h

theorem State.startGates_kv_other (s : State) (n : Nat) (g : GateList) {k : Nat} (h8 : k ≠ okey (0x4300 + n) 8) (h9 : k ≠ okey (0x4300 + n) 9) :
    (s.startGates n g).kv k = s.kv k :=
  (State.kv_obSet_other _ _ h8).trans (State.kv_obSet_other _ _ h9)

theorem State.startGates_onlyIndex (s : State) {n : Nat} (hn : n < 48) (g : GateList) : OnlyIndex s (s.startGates n g) (0x4300 + n) := by
  have hidx {sub : Nat} (hs : sub < 256) : keyIdx (okey (0x4300 + n) sub) = 0x4300 + n := keyIdx_okey (by omega) hs
  exact fun k hk => s.startGates_kv_other n g (fun he => hk (he ▸ hidx (by decide))) (fun he => hk (he ▸ hidx (by decide)))

end Sys2Proof.Machine

namespace Sys2Proof.Safety

open Sys2Proof.Machine

/-! ### The rows of SHAPE and GATE -/

section
variable {s : State} {n : RouterId} {sh : Fin 256} {j : Job} (h : OnlyAtShape s n.val sh.val j)
include h

/-- With tokens enough the packet pays and leaves. -/
theorem completes_shaperRelease_of_tokens (hoff : (s.ni n.val).gates.enable = false) (ht : charge j ≤ sget 0 (s.ni n.val).tokens sh.val) :
    Completes (.shaperRelease n sh) s (fun t => (t.ni n.val).shape = [] ∧ (t.ni n.val).sendQ = (s.ni n.val).sendQ ++ [j]
      ∧ sget 0 (t.ni n.val).tokens sh.val = sget 0 (s.ni n.val).tokens sh.val - charge j ∧ (∀ m, m ≠ n.val → t.ni m = s.ni m)) := by
  have hoff' : ((s.payShape n.val sh.val j).ni n.val).gates.enable = false := by simpa [State.payShape] using hoff
  have hgate : ((s.payShape n.val sh.val j).ni n.val).gate = [] := by simpa [State.payShape] using h.noGate
  have heval : s.evalShaper n.val sh.val = s.passShape n.val sh.val j :=
    (State.evalShaper_of_tokens h ht).trans (State.atGate_of_disabled hoff' hgate j)
  have hni := s.passShape_ni n.val sh.val j
  have hrow : (s.evalShaper n.val sh.val).flushShape n.val 4096 = s.passShape n.val sh.val j := by
    rw [heval, State.flushShape_of_shape_nil (congrArg NI.shape hni)]
  refine ⟨_, (congrArg (done s) hrow).trans (QueueKept.passShape s n.val sh.val j).done_eq, ?_, ?_, ?_,
    fun m hm => s.passShape_ni_other n.val sh.val j hm⟩
  · rw [hni]
  · rw [hni]
  · rw [hni]; exact sget_smod_same 0 _ _ (· - charge j)

/-- Without them it waits, and its shaper enters the wheel. -/
theorem completes_shaperRelease_of_short (ht : sget 0 (s.ni n.val).tokens sh.val < charge j) :
    Completes (.shaperRelease n sh) s (fun t => (t.ni n.val).shape = [{ j with waited := true }] ∧ (t.ni n.val).sendQ = (s.ni n.val).sendQ
      ∧ (sfind (t.ni n.val).wheel sh.val).isSome = true ∧ (∀ m, m ≠ n.val → t.ni m = s.ni m)) := by
  have heval : s.evalShaper n.val sh.val = s.parkShape n.val sh.val j := State.evalShaper_of_short h ht
  obtain ⟨slot, hni⟩ := State.parkShape_ni h
  have hcharged : ∀ k ∈ ((s.parkShape n.val sh.val j).ni n.val).shape, ((s.parkShape n.val sh.val j).shaperOf n.val k).isSome = true := by
    rw [hni]
    intro k hk
    have hen : bitAt ((s.parkShape n.val sh.val j).shaperEntry n.val sh.val) 63 = true := by
      rw [s.parkShape_shaperEntry n.val sh.val j n.isLt]; exact h.enabled
    rw [List.mem_singleton.mp hk, State.shaperOf_of_enabled (j := { j with waited := true }) h.ofShaper hen]
    rfl
  have hrow : (s.evalShaper n.val sh.val).flushShape n.val 4096 = s.parkShape n.val sh.val j := by
    rw [heval, State.flushShape_of_charged hcharged]
  refine ⟨_, (congrArg (done s) hrow).trans (QueueKept.parkShape s n.val sh.val j).done_eq, ?_, ?_, ?_,
    fun m hm => s.parkShape_ni_other n.val sh.val j hm⟩
  · rw [hni]
  · rw [hni]
  · rw [hni]; exact Option.isSome_of_eq_some (sfind_sins_same ..)

end

theorem completes_shaperTokenTick (s : State) (n : RouterId) :
    Completes (.shaperTokenTick n) s (fun t => (∀ sh, sh < 256 → sget 0 (t.ni n.val).tokens sh = s.nextTokens n.val sh)
      ∧ t.ni n.val = { s.ni n.val with tokens := (t.ni n.val).tokens } ∧ (∀ m, m ≠ n.val → t.ni m = s.ni m) ∧ t.dict = s.dict) := by
  have hkept := TokensOnly.forEach_range s n.val 256
  exact ⟨_, (exec_shaperTokenTick s n).trans hkept.queueKept.done_eq,
    fun sh hsh => (forEach_tickShaper_tokens s n.val 256 sh).trans (if_pos hsh), hkept.ni, hkept.others, hkept.dict⟩

theorem completes_calendarSlot {s : State} {n : RouterId} (h : (s.ni n.val).shape = []) : Completes (.calendarSlot n) s (fun t =>
    t.ni n.val = { s.ni n.val with wheel := (s.ni n.val).wheel.filter (fun w => decide (w.2 ≠ s.nsCycle / 32 % 1024)) }
      ∧ (∀ m, m ≠ n.val → t.ni m = s.ni m)) := by
  refine ⟨s.takeFromWheel n.val (fun w => decide (w = s.nsCycle / 32 % 1024)), ?_, ?_, fun m hm => State.ni_modNi_other s _ hm⟩
  · exact congrArg (done s) (State.releaseShapers_of_shape_nil h _)
  · simp [State.takeFromWheel]

theorem completes_gateEntryChange {s : State} {n : RouterId} (h : (s.ni n.val).gate.length ≤ 4096) :
    Completes (.gateEntryChange n) s (fun t => t.gateOut n.val = none
      ∧ (t.ni n.val).gate.length + (t.ni n.val).sendQ.length = (s.ni n.val).gate.length + (s.ni n.val).sendQ.length
      ∧ (∀ m, m ≠ n.val → t.ni m = s.ni m)) := by
  exact ⟨_, (QueueKept.gateFlush s n.val 4096).done_eq, State.gateOut_gateFlush h, s.gateFlush_gateAndSend n.val 4096,
    fun m hm => s.gateFlush_ni_other n.val 4096 hm⟩

theorem exec_gateRelease_of_some {s : State} {n : RouterId} {j : Job} (h : s.gateOut n.val = some j) :
    exec (.gateRelease n) s = .next (s.passGate n.val j) := by
  show done s _ = _
  rw [h]
  rfl

theorem exec_gateRelease_of_none {s : State} {n : RouterId} (h : s.gateOut n.val = none) : exec (.gateRelease n) s = .next s := by
  show done s _ = _
  rw [h]
  rfl

theorem exec_gateListStart {s : State} {n : RouterId} {g : GateList} {at_ : Nat} (hp : (s.ni n.val).pendGates = some (g, at_))
    (hdue : at_ ≤ s.netCount) : exec (.gateListStart n) s = .next (s.startGates n.val g) := by
  have hrow : exec (.gateListStart n) s = done s (s.startGates n.val g) := by
    show done s _ = _
    rw [hp]
    exact congrArg (done s) (if_pos hdue)
  exact hrow.trans (QueueKept.startGates s n.val g).done_eq

/-- Settles O31: a packet leaves SHAPE when its shaper has tokens for it and otherwise puts the shaper into the wheel; packets leave
GATE until none there may; a pending gate list starts at its instant. -/
theorem shapersAndGates : Obligations.ShapersAndGates := by
  unfold Obligations.ShapersAndGates
  intro s n
  refine ⟨fun sh j honly hgate hj hen hwheel hoff ht => ?_, fun sh j honly hgate hj hen hwheel ht => ?_, completes_shaperTokenTick s n,
    completes_calendarSlot, fun j hout => ?_, fun hout => ?_, completes_gateEntryChange, fun g at_ hp hdue => ?_⟩
  · exact completes_shaperRelease_of_tokens ⟨honly, hgate, hj, hen, hwheel⟩ hoff ht
  · exact completes_shaperRelease_of_short ⟨honly, hgate, hj, hen, hwheel⟩ ht
  · exact ⟨_, exec_gateRelease_of_some hout, State.ni_modNi .., fun m hm => State.ni_modNi_other s _ hm⟩
  · exact ⟨_, exec_gateRelease_of_none hout, rfl⟩
  · have hkey : okey (0x4300 + n.val) 9 ≠ okey (0x4300 + n.val) 8 := fun he => absurd ((okey_inj (by decide) (by decide)).mp he).2 (by decide)
    exact ⟨_, exec_gateListStart hp hdue, s.startGates_ni n.val g, State.ob_obSet .., (State.ob_obSet_other _ _ hkey).trans (State.ob_obSet ..),
      fun m hm => s.startGates_ni_other n.val g hm, s.startGates_onlyIndex n.isLt g⟩

end Sys2Proof.Safety
end

section
/-! SUPPORT. Commands of NIs, clusters, engines and event queues (chapters 08 to 10): where their objects stand in the tables, and what
each object does with a number that it takes. -/

namespace Sys2Proof.Machine

open Sys2Proof.Safety

/-! ### What a store does -/

/-- Index i is that of block n on page h, behind the pages of chapters 02 to 06. -/
structure BlockIndex (i h n : Nat) : Prop where
  page : i / 256 = h
  block : i % 256 = n
  high : 0x3800 ≤ i

/-- So it is none of the indices that a store tells apart by themselves. -/
theorem BlockIndex.ordinary {i h n : Nat} (hi : BlockIndex i h n) :
    ¬ i < 0x3000 ∧ i ≠ 0x2200 ∧ i ≠ 0x2400 ∧ i ≠ 0x2500 ∧ ¬ i ≤ 0x346F ∧ ¬ i ≤ 0x3487 ∧ i ≠ 0x3492 ∧ i ≠ 0x34F0 := by
  have hhigh := hi.high
  omega

section
variable (s : State) (who : Who) {i n : Nat} (v : Nat)

theorem State.store_winInvalidate (hi : BlockIndex i 0x40 n) : s.store who i 0x81 v = s.modNi n (fun x => { x with cache := [] }) := by
  simp [State.store, State.store3, clearSub, hi.page, hi.block, hi.ordinary]

theorem State.store_shaperEntry (hi : BlockIndex i 0x42 n) : s.store who i 3 v = s.writeShaper n (s.ob i 2) v := by
  simp [State.store, State.store3, clearSub, hi.page, hi.block, hi.ordinary]

theorem State.store_gateApply (hi : BlockIndex i 0x43 n) : s.store who i 5 v = s.writeGate n v := by
  simp [State.store, State.store3, clearSub, hi.page, hi.block, hi.ordinary]

theorem State.store_blockLog2 (hi : BlockIndex i 0x48 n) : s.store who i 1 v = (s.obSet i 1 v).clearTrackers n := by
  simp [State.store, State.store3, clearSub, hi.page, hi.block, hi.ordinary]

theorem State.store_poolConfig (hi : BlockIndex i 0x48 n) {pool : Nat} (hp : pool < 8) :
    s.store who i (0x30 + pool) v = s.writePool n pool v := by
  have hlog : ¬ 0x30 + pool = 1 := by omega
  have hclear : ¬ 0x7F = 0x30 + pool := by omega
  simp [State.store, State.store3, clearSub, hi.page, hi.block, hi.ordinary, hlog, hclear]

theorem State.store_queueConfig (hi : BlockIndex i 0x4C n) : s.store who i 4 v = s.writeQueue n v := by
  simp [State.store, State.store3, clearSub, hi.page, hi.block, hi.ordinary]

theorem State.store_mbReset (hi : BlockIndex i 0x4C n) : s.store who i 0x14 v = s.resetRing n := by
  simp [State.store, State.store3, clearSub, hi.page, hi.block, hi.ordinary]

theorem State.store_eqFlush (hi : BlockIndex i 0x4E n) : s.store who i 8 v = s.eqFlush n := by
  simp [State.store, State.store3, clearSub, hi.page, hi.block, hi.ordinary]

end

/-! ### Places in the object tables -/

theorem windows_index (n : RouterId) : BlockIndex (0x4000 + n.val) 0x40 n.val := ⟨by omega, by omega, by omega⟩
theorem shapers_index (n : RouterId) : BlockIndex (0x4200 + n.val) 0x42 n.val := ⟨by omega, by omega, by omega⟩
theorem gates_index (n : RouterId) : BlockIndex (0x4300 + n.val) 0x43 n.val := ⟨by omega, by omega, by omega⟩
theorem cluster_index (k : ClusterId) : BlockIndex (0x4800 + k.val) 0x48 k.val := ⟨by omega, by omega, by omega⟩
theorem engine_index (e : EngineId) : BlockIndex (0x4C00 + e.val) 0x4C e.val := ⟨by omega, by omega, by omega⟩
theorem eventQueue_index (i : Fin 16) : BlockIndex (0x4E00 + i.val) 0x4E i.val := ⟨by omega, by omega, by omega⟩

theorem objInfo_winInvalidate : ∀ n : RouterId, objInfo (0x4000 + n.val) 0x81 = some (owo .u8 (.btw 1 1)) := by decide
theorem objInfo_shaperEntry : ∀ n : RouterId, objInfo (0x4200 + n.val) 3 = some (orw .u64 0 (.rule 10) 0xC3FFFF00001FFFFF) := by decide
theorem objInfo_gateApply : ∀ n : RouterId, objInfo (0x4300 + n.val) 5 = some (owo .u8 (.btw 1 2)) := by decide
theorem objInfo_blockLog2 : ∀ k : ClusterId, objInfo (0x4800 + k.val) 1 = some (orw .u8 7 (.btw 7 12)) := by decide
theorem objInfo_poolConfig : ∀ (k : ClusterId) (pool : Fin 8),
    objInfo (0x4800 + k.val) (0x30 + pool.val) = some (orw .u64 0 (.rule 12) 0xE0FFFF00007FFFFF) := by decide +kernel
theorem objInfo_queueConfig : ∀ e : EngineId, objInfo (0x4C00 + e.val) 4 = some (orw .u32 0x03100000 (.rule 13) 0x8FF001FF) := by decide
theorem objInfo_mbReset : ∀ e : EngineId, objInfo (0x4C00 + e.val) 0x14 = some (owo .u8 (.btw 1 1)) := by decide
theorem objInfo_eqFlush : ∀ i : Fin 16, objInfo (0x4E00 + i.val) 8 = some (owo .u8 (.btw 1 1)) := by decide

/-! ### Blocks under their commands -/

theorem State.clu_obSet (s : State) (i sub v k : Nat) : (s.obSet i sub v).clu k = s.clu k := by
  rw [State.clu, State.obSet_clusters, State.clu]

theorem QueueKept.fillTokens (s : State) (n sh : Nat) : QueueKept s (s.fillTokens n sh) := ⟨rfl, rfl⟩

/-- A shaper entry that changes while no packet waits: the shaper's tokens start anew, and it leaves the wheel (R344). -/
theorem State.writeShaper_of_shape_nil {s : State} {n sh v : Nat} (h : (s.ni n).shape = []) (hv : s.shaperEntry n sh ≠ v) :
    s.writeShaper n sh v
      = ((s.setKv (skey (0x4200 + n) 3 sh) v).fillTokens n sh).modNi n (fun x => { x with wheel := sdel x.wheel sh }) := by
  have hnil : ((((s.setKv (skey (0x4200 + n) 3 sh) v).fillTokens n sh).modNi n (fun x => { x with wheel := sdel x.wheel sh })).ni n).shape = [] := by
    rw [State.ni_modNi, State.fillTokens, State.ni_modNi, State.ni, State.setKv_nis]
    exact h
  simp only [State.writeShaper, if_neg hv, State.evalShaper_of_shape_nil hnil, State.flushShape_of_shape_nil hnil]

/-- An entry written while no packet waits is the one that the shaper has. -/
theorem State.writeShaper_entry {s : State} {n : Nat} (h : (s.ni n).shape = []) (sh v : Nat) :
    (s.writeShaper n sh v).shaperEntry n sh = v ∧ QueueKept s (s.writeShaper n sh v) := by
  by_cases hv : s.shaperEntry n sh = v
  · have hsame : s.writeShaper n sh v = s := if_pos hv
    rw [hsame]
    exact ⟨hv, .refl s⟩
  · rw [State.writeShaper_of_shape_nil h hv]
    exact ⟨State.kv_setKv s _ v, (QueueKept.setKv ..).trans ((QueueKept.fillTokens ..).trans (.modNi ..))⟩

theorem State.gateApply_pendGates (s : State) (n : Nat) : ((s.gateApply n).ni n).pendGates.map (·.1) = some (s.adminGates n) := by
  simp [State.gateApply]

theorem State.gateApply_ni_other (s : State) (n : Nat) {m : Nat} (h : m ≠ n) : (s.gateApply n).ni m = s.ni m := by
  unfold State.gateApply
  exact State.ni_modNi_other s _ h

theorem QueueKept.gateApply (s : State) (n : Nat) : QueueKept s (s.gateApply n) := ⟨rfl, rfl⟩

/-- The pending gate list is dropped, and GATE_RESULT says so (R349). -/
def State.cancelGates (s : State) (n : Nat) : State := (s.modNi n (fun x => { x with pendGates := none })).obSet (0x4300 + n) 8 2

theorem State.writeGate_apply (s : State) (n : Nat) : s.writeGate n 1 = s.gateApply n := if_pos rfl

theorem State.writeGate_cancel {s : State} {n : Nat} (h : (s.ni n).pendGates.isSome = true) : s.writeGate n 2 = s.cancelGates n := by
  simp [State.writeGate, State.cancelGates, h]

theorem State.cancelGates_pendGates (s : State) (n : Nat) : ((s.cancelGates n).ni n).pendGates = none := by
  rw [State.cancelGates, State.ni, State.obSet_nis]
  exact congrArg NI.pendGates (s.ni_modNi n (fun x => { x with pendGates := none }))

section
variable {s : State} {k pool v : Nat}

theorem State.writePool_enable (hv : poolEnabled v = true) (hwas : poolEnabled (s.poolCfg k pool) = false) :
    s.writePool k pool v = (s.obSet (0x4800 + k) (0x30 + pool) v).poolFill k pool := by
  simp [State.writePool, hv, hwas]

theorem State.writePool_disable (hv : poolEnabled v = false) (hwas : poolEnabled (s.poolCfg k pool) = true) :
    s.writePool k pool v = (s.obSet (0x4800 + k) (0x30 + pool) v).poolEmpty k pool := by
  simp [State.writePool, hv, hwas]

theorem State.poolFill_poolCfg (s : State) (hp : pool < 8) : (s.poolFill k pool).poolCfg k pool = s.poolCfg k pool := by
  have hkey : okey (0x4800 + k) (0x30 + pool) ≠ okey (0x4800 + k) (0x48 + pool) := fun he => by
    have hsub := ((okey_inj (by omega) (by omega)).mp he).2
    omega
  exact State.ob_obSet_other _ _ hkey

theorem State.poolFill_clu (s : State) : (s.poolFill k pool).clu k
    = { s.clu k with free := sput [] (s.clu k).free pool (List.range (poolCount (s.poolCfg k pool))) } :=
  (State.clu_obSet ..).trans (State.clu_modClu ..)

end

theorem QueueKept.poolFill (s : State) (k pool : Nat) : QueueKept s (s.poolFill k pool) := (QueueKept.modClu ..).trans (.obSet ..)

theorem State.dq_setDq (s : State) (e q : Nat) (x : DQueue) : (s.setDq e q x).dq e q = x := by simp [State.dq, State.setDq]

theorem State.ring_setRing (s : State) (e r : Nat) (x : Ring) : (s.setRing e r x).ring e r = x := by simp [State.ring, State.setRing]

section
variable {s : State} {e v : Nat}

theorem State.writeQueue_enable (hv : bitAt v 31 = true) (hwas : bitAt (qConfig s e (s.ob (0x4C00 + e) 1)) 31 = false) :
    s.writeQueue e v = (s.setKv (skey (0x4C00 + e) 4 (s.ob (0x4C00 + e) 1)) v).setDq e (s.ob (0x4C00 + e) 1) { state := .idle } := by
  simp [State.writeQueue, hv, hwas]

theorem State.writeQueue_disable (hv : bitAt v 31 = false) (hwas : bitAt (qConfig s e (s.ob (0x4C00 + e) 1)) 31 = true) :
    s.writeQueue e v = (s.setKv (skey (0x4C00 + e) 4 (s.ob (0x4C00 + e) 1)) v).setDq e (s.ob (0x4C00 + e) 1) {} := by
  simp [State.writeQueue, hv, hwas]

end

theorem EventQ.freed_items (old new : EventQ) (i : Nat) : (old.freed new i).items = new.items := by
  unfold EventQ.freed; split <;> rfl

theorem EventQ.freed_bank (old new : EventQ) (i : Nat) : (old.freed new i).bank = new.bank := by
  unfold EventQ.freed; split <;> rfl

theorem State.eqLose_eqs (s : State) (i n : Nat) : (s.eqLose i n).eqs = s.eqs := by
  unfold State.eqLose
  dsimp only
  repeat' split
  all_goals simp

theorem QueueKept.eqLose (s : State) (i n : Nat) : QueueKept s (s.eqLose i n) := by
  unfold State.eqLose
  dsimp only
  repeat' split
  · exact .refl s
  · exact (QueueKept.bumpBy ..).trans (.modEng ..)
  · exact .bumpBy ..

/-- A flush empties both sides of a queue; what else it does concerns counts and scans (R431). -/
theorem State.eqFlush_evq (s : State) (i : Nat) : ((s.eqFlush i).evq i).items = [] ∧ ((s.eqFlush i).evq i).bank = [] := by
  have hevq : ∃ q : EventQ, (s.eqFlush i).evq i = (s.evq i).freed q i ∧ q.items = [] ∧ q.bank = [] := by
    unfold State.eqFlush
    dsimp only
    split
    all_goals
      rw [State.evq]
      simp only [State.modEng_eqs, State.eqLose_eqs]
      exact ⟨_, State.evq_setEvq .., rfl, rfl⟩
  obtain ⟨q, hq, hitems, hbank⟩ := hevq
  rw [hq, EventQ.freed_items, EventQ.freed_bank]
  exact ⟨hitems, hbank⟩

theorem QueueKept.eqFlush (s : State) (i : Nat) : QueueKept s (s.eqFlush i) := by
  unfold State.eqFlush
  dsimp only
  split
  · exact (QueueKept.setEvq ..).trans ((QueueKept.eqLose ..).trans (.modEng ..))
  · exact (QueueKept.setEvq ..).trans (.eqLose ..)

end Sys2Proof.Machine

namespace Sys2Proof.Safety

open Sys2Proof.Machine

/-! ### The rows of the blocks -/

section
variable {s : State} {p : Path} {n : RouterId}

theorem completes_winInvalidate (ha : Accepted s p (0x4000 + n.val) 0x81 1) : Completes (.winInvalidate p n) s (fun t => (t.ni n.val).cache = []
    ∧ (∀ m, m ≠ n.val → t.ni m = s.ni m) ∧ t.dict.objs = s.dict.objs) := by
  refine completes_write (fun _ _ _ => rfl) rfl ha (objInfo_winInvalidate n) (by decide) (s.store_winInvalidate _ _ (windows_index n))
    (.modNi ..) ⟨?_, fun m hm => s.ni_modNi_other _ hm, rfl⟩
  rw [State.ni_modNi]

theorem completes_shaperEntryWrite {v : Nat} (hv : v < 2 ^ 64) (hkeep : v &&& 0xC3FFFF00001FFFFF = v) (ha : Accepted s p (0x4200 + n.val) 3 v)
    (hnil : (s.ni n.val).shape = []) :
    Completes (.shaperEntryWrite p n v) s (fun t => t.shaperEntry n.val (s.ob (0x4200 + n.val) 2) = v) := by
  obtain ⟨hentry, hkept⟩ := State.writeShaper_entry hnil (s.ob (0x4200 + n.val) 2) v
  refine completes_write (fun _ _ _ => rfl) rfl ha (objInfo_shaperEntry n) (by decide) ?_ hkept hentry
  rw [Obj.taken_eq_self hv hkeep]
  exact s.store_shaperEntry _ _ (shapers_index n)

theorem completes_gateApply (ha : Accepted s p (0x4300 + n.val) 5 1) : Completes (.gateApply p n) s (fun t =>
    (t.ni n.val).pendGates.map (·.1) = some (s.adminGates n.val) ∧ (∀ m, m ≠ n.val → t.ni m = s.ni m)) :=
  completes_write (fun _ _ _ => rfl) rfl ha (objInfo_gateApply n) (by decide)
    ((s.store_gateApply _ _ (gates_index n)).trans (s.writeGate_apply n.val))
    (QueueKept.gateApply s n.val) ⟨s.gateApply_pendGates n.val, fun _ hm => s.gateApply_ni_other n.val hm⟩

theorem completes_gateCancel (ha : Accepted s p (0x4300 + n.val) 5 2) (hpend : (s.ni n.val).pendGates.isSome = true) :
    Completes (.gateCancel p n) s (fun t => (t.ni n.val).pendGates = none ∧ t.ob (0x4300 + n.val) 8 = 2) :=
  completes_write (fun _ _ _ => rfl) rfl ha (objInfo_gateApply n) (by decide)
    ((s.store_gateApply _ _ (gates_index n)).trans (State.writeGate_cancel hpend))
    ((QueueKept.modNi ..).trans (.obSet ..)) ⟨s.cancelGates_pendGates n.val, State.ob_obSet ..⟩

end

section
variable {s : State} {p : Path} {k : ClusterId}

theorem completes_poolEnable {pool : Fin 8} {config : Nat} (ha : Accepted s p (0x4800 + k.val) (0x30 + pool.val) (config ||| 2 ^ 63))
    (hwas : poolEnabled (s.poolCfg k.val pool.val) = false) :
    Completes (.poolEnable p k pool config) s (fun t => poolEnabled (t.poolCfg k.val pool.val) = true
      ∧ sget [] (t.clu k.val).free pool.val = List.range (poolCount (t.poolCfg k.val pool.val)) ∧ (t.clu k.val).mem = (s.clu k.val).mem) := by
  have hv : poolEnabled ((orw .u64 0 (.rule 12) 0xE0FFFF00007FFFFF).taken (config ||| 2 ^ 63)) = true :=
    (Obj.bitAt_taken _ (by decide) (by decide)).trans (bitAt_or_two_pow config 63)
  refine completes_write (fun _ _ _ => rfl) rfl ha (objInfo_poolConfig k pool) (by decide)
    ((s.store_poolConfig _ _ (cluster_index k) pool.isLt).trans (State.writePool_enable hv hwas))
    ((QueueKept.obSet ..).trans (.poolFill ..)) ?_
  rw [State.poolFill_poolCfg _ pool.isLt, State.poolFill_clu, State.clu_obSet]
  exact ⟨(congrArg poolEnabled (State.ob_obSet ..)).trans hv, sget_sput_same .., rfl⟩

theorem completes_poolDisable {pool : Fin 8} (ha : Accepted s p (0x4800 + k.val) (0x30 + pool.val) (s.poolCfg k.val pool.val % 2 ^ 63))
    (hwas : poolEnabled (s.poolCfg k.val pool.val) = true) :
    Completes (.poolDisable p k pool) s (fun t => poolEnabled (t.poolCfg k.val pool.val) = false ∧ sget [] (t.clu k.val).free pool.val = []
      ∧ (t.clu k.val).mem = (s.clu k.val).mem) := by
  have hv : poolEnabled ((orw .u64 0 (.rule 12) 0xE0FFFF00007FFFFF).taken (s.poolCfg k.val pool.val % 2 ^ 63)) = false :=
    (Obj.bitAt_taken _ (by decide) (by decide)).trans (bitAt_mod_two_pow _ 63)
  refine completes_write (fun _ _ _ => rfl) rfl ha (objInfo_poolConfig k pool) (by decide)
    ((s.store_poolConfig _ _ (cluster_index k) pool.isLt).trans (State.writePool_disable hv hwas))
    ((QueueKept.obSet ..).trans (.modClu ..)) ⟨(congrArg poolEnabled (State.ob_obSet ..)).trans hv, ?_⟩
  rw [State.poolEmpty, State.clu_modClu, State.clu_obSet]
  exact ⟨sget_sput_same [] (s.clu k.val).free pool.val [], rfl⟩

theorem completes_blockLog2Write {v : Nat} (hv : v < 256) (ha : Accepted s p (0x4800 + k.val) 1 v) :
    Completes (.blockLog2Write p k v) s (fun t => t.ob (0x4800 + k.val) 1 = v ∧ (t.clu k.val).trackers = []
      ∧ (t.clu k.val).mem = (s.clu k.val).mem) := by
  have htaken : (orw .u8 7 (.btw 7 12)).taken v = v :=
    Obj.taken_eq_self hv ((Nat.and_two_pow_sub_one_eq_mod v 64).trans (Nat.mod_eq_of_lt (by omega)))
  refine completes_write (fun _ _ _ => rfl) rfl ha (objInfo_blockLog2 k) (by decide) (s.store_blockLog2 _ _ (cluster_index k))
    ((QueueKept.obSet ..).trans (.modClu ..)) ⟨(State.ob_obSet ..).trans htaken, ?_⟩
  rw [State.clearTrackers, State.clu_modClu, State.clu_obSet]
  exact ⟨rfl, rfl⟩

end

section
variable {s : State} {p : Path} {e : EngineId}

theorem completes_queueEnable {config : Nat} (ha : Accepted s p (0x4C00 + e.val) 4 (config ||| 2 ^ 31))
    (hwas : bitAt (qConfig s e.val (s.ob (0x4C00 + e.val) 1)) 31 = false) :
    Completes (.queueEnable p e config) s (fun t => t.dq e.val (s.ob (0x4C00 + e.val) 1) = { state := .idle }) := by
  have hv : bitAt ((orw .u32 0x03100000 (.rule 13) 0x8FF001FF).taken (config ||| 2 ^ 31)) 31 = true :=
    (Obj.bitAt_taken _ (by decide) (by decide)).trans (bitAt_or_two_pow config 31)
  exact completes_write (fun _ _ _ => rfl) rfl ha (objInfo_queueConfig e) (by decide)
    ((s.store_queueConfig _ _ (engine_index e)).trans (State.writeQueue_enable hv hwas))
    ((QueueKept.setKv ..).trans (.modEng ..)) (State.dq_setDq ..)

theorem completes_queueDisable (ha : Accepted s p (0x4C00 + e.val) 4 (qConfig s e.val (s.ob (0x4C00 + e.val) 1) % 2 ^ 31))
    (hwas : bitAt (qConfig s e.val (s.ob (0x4C00 + e.val) 1)) 31 = true) :
    Completes (.queueDisable p e) s (fun t => t.dq e.val (s.ob (0x4C00 + e.val) 1) = {}) := by
  have hv : bitAt ((orw .u32 0x03100000 (.rule 13) 0x8FF001FF).taken (qConfig s e.val (s.ob (0x4C00 + e.val) 1) % 2 ^ 31)) 31 = false :=
    (Obj.bitAt_taken _ (by decide) (by decide)).trans (bitAt_mod_two_pow _ 31)
  exact completes_write (fun _ _ _ => rfl) rfl ha (objInfo_queueConfig e) (by decide)
    ((s.store_queueConfig _ _ (engine_index e)).trans (State.writeQueue_disable hv hwas))
    ((QueueKept.setKv ..).trans (.modEng ..)) (State.dq_setDq ..)

theorem completes_mbReset (ha : Accepted s p (0x4C00 + e.val) 0x14 1) (herr : (s.ring e.val (s.ob (0x4C00 + e.val) 0x10)).state = .error) :
    Completes (.mbReset p e) s (fun t => t.ring e.val (s.ob (0x4C00 + e.val) 0x10)
      = { s.ring e.val (s.ob (0x4C00 + e.val) 0x10) with
            state := .running, consumer := (s.ring e.val (s.ob (0x4C00 + e.val) 0x10)).producer }) :=
  completes_write (fun _ _ _ => rfl) rfl ha (objInfo_mbReset e) (by decide) ((s.store_mbReset _ _ (engine_index e)).trans (if_pos herr))
    (QueueKept.modEng ..) (State.ring_setRing ..)

end

theorem completes_eqFlush {s : State} {p : Path} {i : Fin 16} (ha : Accepted s p (0x4E00 + i.val) 8 1) :
    Completes (.eqFlush p i) s (fun t => (t.evq i.val).items = [] ∧ (t.evq i.val).bank = []) :=
  completes_write (fun _ _ _ => rfl) rfl ha (objInfo_eqFlush i) (by decide) (s.store_eqFlush _ _ (eventQueue_index i))
    (QueueKept.eqFlush s i.val) (s.eqFlush_evq i.val)

/-- Settles O17: each command is an accepted write of a number, so it does what its object does with it. -/
theorem blockCommands : Obligations.BlockCommands := by
  unfold Obligations.BlockCommands
  intro s p
  exact ⟨fun n ha => completes_winInvalidate ha, fun n v hv hkeep ha hnil => completes_shaperEntryWrite hv hkeep ha hnil,
    fun n ha => completes_gateApply ha, fun n ha hpend => completes_gateCancel ha hpend,
    fun k pool config _ ha hwas => completes_poolEnable ha hwas, fun k pool ha hwas => completes_poolDisable ha hwas,
    fun k v hv ha => completes_blockLog2Write hv ha, fun e config _ ha hwas => completes_queueEnable ha hwas,
    fun e ha hwas => completes_queueDisable ha hwas, fun e ha herr => completes_mbReset ha herr, fun i ha => completes_eqFlush ha⟩

end Sys2Proof.Safety
end
